-- ==== Sys2Proof/Word.lean ====
section
/-! DEFINITION. The word types of the machine (R4). -/

namespace Sys2Proof

/-- A byte, 8 bits (R4). -/
abbrev Byte := BitVec 8

/-- A word, 32 bits (R4). -/
abbrev Word32 := BitVec 32

/-- A dword, 64 bits: one scalar register (R4, R86). -/
abbrev Word64 := BitVec 64

end Sys2Proof
end

