-- ==== Sys2Proof/Syntax.lean ====
section
/-! DEFINITION. The instructions of the Odwyn W2: one constructor per row of the opcode table (R34 to R57).
The first 250 are words of the tile core and the four control-word writes; the others are the steps of the scheduler, the network,
the engines, the memory system, firmware and the host that 95_what_each_step_holds.md lists. -/

namespace Sys2Proof

/-- The floating types of VFP (R48). -/
inductive FpType where | f32 | f16 | bf16
  deriving DecidableEq, Repr

/-- The lane widths of VINT (R49). -/
inductive IntWidth where | w32 | w16 | w8
  deriving DecidableEq, Repr

/-- The types of VCMP and VRED (R50, R52). -/
inductive CmpType where | f32 | i32 | n32
  deriving DecidableEq, Repr

/-- The element formats, in the order of their codes (R40). -/
inductive ElemFmt where
  | f32 | f16 | bf16 | e4m3 | e5m2 | e3m2 | e2m3 | e2m1 | i8 | i16 | i32 | i64 | n8 | n16 | n32 | n64
  deriving DecidableEq, Repr

/-- The sizes of an atomic on one location; AXADD alone has the third size, 128 bits (R57). -/
inductive AtomSize where | w32 | w64
  deriving DecidableEq, Repr

/-- The role of a stream endpoint in SCFG (R55). -/
inductive EpRole where | src | dst
  deriving DecidableEq, Repr

/-- The kind of a stream endpoint in SCFG (R55). -/
inductive EpKind where | sram | dram | port
  deriving DecidableEq, Repr

/-- What every host packet carries beside its operands: the adapter and queue it came by, and of its header the command code, the payload
length in units of 32 bytes, the two reserved fields as one number, the sequence number and the tag (R389). -/
structure Hdr where
  adapter : Nat
  queue : Nat
  opc : Nat
  len : Nat
  reserved : Nat
  seq : Nat
  tag : Nat
  deriving DecidableEq, Repr

/-- The owner's answers to a stop (R352). -/
inductive StopAns where
  | resume | void | save (va : Nat) | bindOff
  deriving DecidableEq, Repr

/-- The debug command's operations (R359 to R361). -/
inductive DebugOp where
  | write (ctl b0 b1 b2 b3 : Nat)
  | read (sel idx : Nat)
  | resume
  deriving DecidableEq, Repr

/-- What firmware does about a path that is down (R143, R133). -/
inductive PathAlt where
  | remap (entry : Nat) | rebind (spare : Nat) | none
  deriving DecidableEq, Repr

/-- The operation of a tile that a completion message reports (R307). -/
inductive OpKey where
  | stream (k : Nat) | copy (id : Nat) | atomic (id : Nat) | watch (id : Nat)
  deriving DecidableEq, Repr

/-- The two pipes of the matrix unit (R267). -/
inductive MPipe where | array | transfer
  deriving DecidableEq, Repr

/-- One constructor per row of spec/opcode_table.json. A register operand is its number, an immediate its encoded bits. -/
inductive Instr where
  /-- TRAP (R342). -/
  | trap (c : Nat)
  /-- BRK (R343). -/
  | brk (c : Nat)
  /-- CWR (R336). -/
  | cwr (d c : Nat)
  /-- CWW (R336). -/
  | cww (a c : Nat)
  /-- WAITEV (R344). -/
  | waitev (d a : Nat)
  /-- RDCYC (R345). -/
  | rdcyc (d : Nat)
  /-- ADD (R96). -/
  | add (d a b : Nat)
  /-- SUB (R96). -/
  | sub (d a b : Nat)
  /-- AND (R96). -/
  | and (d a b : Nat)
  /-- OR (R96). -/
  | or (d a b : Nat)
  /-- XOR (R96). -/
  | xor (d a b : Nat)
  /-- ANDN (R96). -/
  | andn (d a b : Nat)
  /-- ORN (R96). -/
  | orn (d a b : Nat)
  /-- XNOR (R96). -/
  | xnor (d a b : Nat)
  /-- SLL (R96). -/
  | sll (d a b : Nat)
  /-- SRL (R96). -/
  | srl (d a b : Nat)
  /-- SRA (R96). -/
  | sra (d a b : Nat)
  /-- ROL (R96). -/
  | rol (d a b : Nat)
  /-- ROR (R96). -/
  | ror (d a b : Nat)
  /-- SLT (R96). -/
  | slt (d a b : Nat)
  /-- SLTN (R96). -/
  | sltn (d a b : Nat)
  /-- MIN (R96). -/
  | min (d a b : Nat)
  /-- MAX (R96). -/
  | max (d a b : Nat)
  /-- MINN (R96). -/
  | minn (d a b : Nat)
  /-- MAXN (R96). -/
  | maxn (d a b : Nat)
  /-- ADDW (R96). -/
  | addw (d a b : Nat)
  /-- SUBW (R96). -/
  | subw (d a b : Nat)
  /-- MUL (R97). -/
  | mul (d a b : Nat)
  /-- MULH (R97). -/
  | mulh (d a b : Nat)
  /-- MULHN (R97). -/
  | mulhn (d a b : Nat)
  /-- DIV (R97). -/
  | div (d a b : Nat)
  /-- DIVN (R97). -/
  | divn (d a b : Nat)
  /-- REM (R97). -/
  | rem (d a b : Nat)
  /-- REMN (R97). -/
  | remn (d a b : Nat)
  /-- CLZ (R96). -/
  | clz (d a : Nat)
  /-- CTZ (R96). -/
  | ctz (d a : Nat)
  /-- POPC (R96). -/
  | popc (d a : Nat)
  /-- BSWAP (R96). -/
  | bswap (d a : Nat)
  /-- SEXT_I8 (R96). -/
  | sextI8 (d a : Nat)
  /-- SEXT_I16 (R96). -/
  | sextI16 (d a : Nat)
  /-- SEXT_I32 (R96). -/
  | sextI32 (d a : Nat)
  /-- ZEXT_N8 (R96). -/
  | zextN8 (d a : Nat)
  /-- ZEXT_N16 (R96). -/
  | zextN16 (d a : Nat)
  /-- ZEXT_N32 (R96). -/
  | zextN32 (d a : Nat)
  /-- ADDI (R98). -/
  | addi (d a i : Nat)
  /-- ANDI (R98). -/
  | andi (d a i : Nat)
  /-- ORI (R98). -/
  | ori (d a i : Nat)
  /-- XORI (R98). -/
  | xori (d a i : Nat)
  /-- SLTI (R98). -/
  | slti (d a i : Nat)
  /-- SLTIN (R98). -/
  | sltin (d a i : Nat)
  /-- LIH (R43). -/
  | lih (d a i : Nat)
  /-- SLLI (R99). -/
  | slli (d a h : Nat)
  /-- SRLI (R99). -/
  | srli (d a h : Nat)
  /-- SRAI (R99). -/
  | srai (d a h : Nat)
  /-- RORI (R99). -/
  | rori (d a h : Nat)
  /-- EXTR (R100). -/
  | extr (d a p l : Nat)
  /-- INSR (R100). -/
  | insr (d a p l : Nat)
  /-- ADDSH (R100). -/
  | addsh (d a h b : Nat)
  /-- BEQ (R102). -/
  | beq (a b o : Nat)
  /-- BNE (R102). -/
  | bne (a b o : Nat)
  /-- BLT (R102). -/
  | blt (a b o : Nat)
  /-- BGE (R102). -/
  | bge (a b o : Nat)
  /-- BLTN (R102). -/
  | bltn (a b o : Nat)
  /-- BGEN (R102). -/
  | bgen (a b o : Nat)
  /-- JAL (R104). -/
  | jal (o : Nat)
  /-- JALR (R104). -/
  | jalr (d a i : Nat)
  /-- LOOP (R105). -/
  | loop (a l : Nat)
  /-- LDS_B (R213). -/
  | ldsB (d a o : Nat)
  /-- LDS_BN (R213). -/
  | ldsBn (d a o : Nat)
  /-- LDS_H (R213). -/
  | ldsH (d a o : Nat)
  /-- LDS_HN (R213). -/
  | ldsHn (d a o : Nat)
  /-- LDS_W (R213). -/
  | ldsW (d a o : Nat)
  /-- LDS_WN (R213). -/
  | ldsWn (d a o : Nat)
  /-- LDS_D (R213). -/
  | ldsD (d a o : Nat)
  /-- STS_B (R213). -/
  | stsB (d a o : Nat)
  /-- STS_H (R213). -/
  | stsH (d a o : Nat)
  /-- STS_W (R213). -/
  | stsW (d a o : Nat)
  /-- STS_D (R213). -/
  | stsD (d a o : Nat)
  /-- VLD (R215). -/
  | vld (d a o : Nat)
  /-- VLDS (R215). -/
  | vlds (d a o : Nat)
  /-- VLDZ (R215). -/
  | vldz (d a o : Nat)
  /-- VLDB (R215). -/
  | vldb (d a o : Nat)
  /-- VLDX (R215). -/
  | vldx (d a b m : Nat) (z : Bool) (h : Nat)
  /-- VST (R215). -/
  | vst (d a o : Nat)
  /-- VSTS (R215). -/
  | vsts (d a o : Nat)
  /-- VSTZ (R215). -/
  | vstz (d a o : Nat)
  /-- VSTX (R215). -/
  | vstx (d a b m h : Nat)
  /-- PCNT (R119). -/
  | pcnt (d p : Nat)
  /-- PFREE (R119). -/
  | pfree (d p : Nat)
  /-- PEEK (R120). -/
  | peek (d a p : Nat)
  /-- PSKIP (R120). -/
  | pskip (a p : Nat)
  /-- VTAKE (R121). -/
  | vtake (d p : Nat)
  /-- VPUT (R121). -/
  | vput (a p : Nat)
  /-- PSCALE (R124). -/
  | pscale (d p : Nat)
  /-- PSCALEW (R124). -/
  | pscalew (a p : Nat)
  /-- PMARK (R122). -/
  | pmark (p : Nat)
  /-- PISMARK (R122). -/
  | pismark (d p : Nat)
  /-- GAUGE (R126). -/
  | gauge (d r : Nat)
  /-- NPTR (R126). -/
  | nptr (d r : Nat)
  /-- FCTR (R126). -/
  | fctr (d : Nat)
  /-- JST_W (R170). -/
  | jstW (d a : Nat)
  /-- JST_D (R170). -/
  | jstD (d a : Nat)
  /-- TAKEN (R171). -/
  | taken (d p : Nat)
  /-- MADE (R171). -/
  | made (d p : Nat)
  /-- SCOPE (R172). -/
  | scope (d a : Nat)
  /-- SEAL (R173). -/
  | seal (a : Nat)
  /-- ORDINAL (R171). -/
  | ordinal (d : Nat)
  /-- VFADD (R231). -/
  | vfadd (d a b m : Nat) (z : Bool) (t : FpType)
  /-- VFSUB (R231). -/
  | vfsub (d a b m : Nat) (z : Bool) (t : FpType)
  /-- VFMUL (R231). -/
  | vfmul (d a b m : Nat) (z : Bool) (t : FpType)
  /-- VFDIV (R231). -/
  | vfdiv (d a b m : Nat) (z : Bool) (t : FpType)
  /-- VFSQRT (R231). -/
  | vfsqrt (d a m : Nat) (z : Bool) (t : FpType)
  /-- VFMIN (R232). -/
  | vfmin (d a b m : Nat) (z : Bool) (t : FpType)
  /-- VFMAX (R232). -/
  | vfmax (d a b m : Nat) (z : Bool) (t : FpType)
  /-- VFABS (R233). -/
  | vfabs (d a m : Nat) (z : Bool) (t : FpType)
  /-- VFNEG (R233). -/
  | vfneg (d a m : Nat) (z : Bool) (t : FpType)
  /-- VFCLASS (R233). -/
  | vfclass (d a m : Nat) (z : Bool) (t : FpType)
  /-- VFMA_VFP (R234). -/
  | vfmaVfp (d a b m : Nat) (z : Bool) (t : FpType)
  /-- VFMS_VFP (R234). -/
  | vfmsVfp (d a b m : Nat) (z : Bool) (t : FpType)
  /-- VFNMA_VFP (R234). -/
  | vfnmaVfp (d a b m : Nat) (z : Bool) (t : FpType)
  /-- VFNMS_VFP (R234). -/
  | vfnmsVfp (d a b m : Nat) (z : Bool) (t : FpType)
  /-- VFMA_V4 (R234). -/
  | vfmaV4 (d a b c m : Nat) (z : Bool)
  /-- VFMS_V4 (R234). -/
  | vfmsV4 (d a b c m : Nat) (z : Bool)
  /-- VFNMA_V4 (R234). -/
  | vfnmaV4 (d a b c m : Nat) (z : Bool)
  /-- VFNMS_V4 (R234). -/
  | vfnmsV4 (d a b c m : Nat) (z : Bool)
  /-- VADD (R235). -/
  | vadd (d a b m : Nat) (z : Bool) (w : IntWidth)
  /-- VSUB (R235). -/
  | vsub (d a b m : Nat) (z : Bool) (w : IntWidth)
  /-- VMUL (R235). -/
  | vmul (d a b m : Nat) (z : Bool) (w : IntWidth)
  /-- VMULH_I (R235). -/
  | vmulhI (d a b m : Nat) (z : Bool) (w : IntWidth)
  /-- VMULH_N (R235). -/
  | vmulhN (d a b m : Nat) (z : Bool) (w : IntWidth)
  /-- VAND (R235). -/
  | vand (d a b m : Nat) (z : Bool) (w : IntWidth)
  /-- VOR (R235). -/
  | vor (d a b m : Nat) (z : Bool) (w : IntWidth)
  /-- VXOR (R235). -/
  | vxor (d a b m : Nat) (z : Bool) (w : IntWidth)
  /-- VANDN (R235). -/
  | vandn (d a b m : Nat) (z : Bool) (w : IntWidth)
  /-- VSLL (R235). -/
  | vsll (d a b m : Nat) (z : Bool) (w : IntWidth)
  /-- VSRL (R235). -/
  | vsrl (d a b m : Nat) (z : Bool) (w : IntWidth)
  /-- VSRA (R235). -/
  | vsra (d a b m : Nat) (z : Bool) (w : IntWidth)
  /-- VMIN_I (R235). -/
  | vminI (d a b m : Nat) (z : Bool) (w : IntWidth)
  /-- VMIN_N (R235). -/
  | vminN (d a b m : Nat) (z : Bool) (w : IntWidth)
  /-- VMAX_I (R235). -/
  | vmaxI (d a b m : Nat) (z : Bool) (w : IntWidth)
  /-- VMAX_N (R235). -/
  | vmaxN (d a b m : Nat) (z : Bool) (w : IntWidth)
  /-- VADDS_I (R235). -/
  | vaddsI (d a b m : Nat) (z : Bool) (w : IntWidth)
  /-- VADDS_N (R235). -/
  | vaddsN (d a b m : Nat) (z : Bool) (w : IntWidth)
  /-- VSUBS_I (R235). -/
  | vsubsI (d a b m : Nat) (z : Bool) (w : IntWidth)
  /-- VSUBS_N (R235). -/
  | vsubsN (d a b m : Nat) (z : Bool) (w : IntWidth)
  /-- VABSD_I (R235). -/
  | vabsdI (d a b m : Nat) (z : Bool) (w : IntWidth)
  /-- VABSD_N (R235). -/
  | vabsdN (d a b m : Nat) (z : Bool) (w : IntWidth)
  /-- VDOT4_I8 (R236). -/
  | vdot4I8 (d a b m : Nat) (z : Bool)
  /-- VDOT4_N8 (R236). -/
  | vdot4N8 (d a b m : Nat) (z : Bool)
  /-- VCEQ (R237). -/
  | vceq (d a b m : Nat) (z : Bool) (t : CmpType)
  /-- VCNE (R237). -/
  | vcne (d a b m : Nat) (z : Bool) (t : CmpType)
  /-- VCLT (R237). -/
  | vclt (d a b m : Nat) (z : Bool) (t : CmpType)
  /-- VCLE (R237). -/
  | vcle (d a b m : Nat) (z : Bool) (t : CmpType)
  /-- VCGT (R237). -/
  | vcgt (d a b m : Nat) (z : Bool) (t : CmpType)
  /-- VCGE (R237). -/
  | vcge (d a b m : Nat) (z : Bool) (t : CmpType)
  /-- VCUN (R237). -/
  | vcun (d a b m : Nat) (z : Bool)
  /-- VSEL (R238). -/
  | vsel (d a b k : Nat)
  /-- VCVT_F32_I32 (R239). -/
  | vcvtF32I32 (d a m : Nat) (z : Bool)
  /-- VCVT_F32_N32 (R239). -/
  | vcvtF32N32 (d a m : Nat) (z : Bool)
  /-- VCVT_I32_F32 (R239). -/
  | vcvtI32F32 (d a m : Nat) (z : Bool)
  /-- VCVT_N32_F32 (R239). -/
  | vcvtN32F32 (d a m : Nat) (z : Bool)
  /-- VPK_F16 (R240). -/
  | vpkF16 (d a b m : Nat) (z : Bool)
  /-- VPK_BF16 (R240). -/
  | vpkBf16 (d a b m : Nat) (z : Bool)
  /-- VUPK_F16 (R240). -/
  | vupkF16 (d a q m : Nat) (z : Bool)
  /-- VUPK_BF16 (R240). -/
  | vupkBf16 (d a q m : Nat) (z : Bool)
  /-- VPK_E4M3 (R241). -/
  | vpkE4m3 (d a q m : Nat) (z : Bool)
  /-- VPK_E5M2 (R241). -/
  | vpkE5m2 (d a q m : Nat) (z : Bool)
  /-- VPK_E3M2 (R241). -/
  | vpkE3m2 (d a q m : Nat) (z : Bool)
  /-- VPK_E2M3 (R241). -/
  | vpkE2m3 (d a q m : Nat) (z : Bool)
  /-- VPK_E2M1 (R241). -/
  | vpkE2m1 (d a q m : Nat) (z : Bool)
  /-- VUPK_E4M3 (R241). -/
  | vupkE4m3 (d a q m : Nat) (z : Bool)
  /-- VUPK_E5M2 (R241). -/
  | vupkE5m2 (d a q m : Nat) (z : Bool)
  /-- VUPK_E3M2 (R241). -/
  | vupkE3m2 (d a q m : Nat) (z : Bool)
  /-- VUPK_E2M3 (R241). -/
  | vupkE2m3 (d a q m : Nat) (z : Bool)
  /-- VUPK_E2M1 (R241). -/
  | vupkE2m1 (d a q m : Nat) (z : Bool)
  /-- VRSUM (R242). -/
  | vrsum (d a m : Nat) (t : CmpType)
  /-- VRMIN (R242). -/
  | vrmin (d a m : Nat) (t : CmpType)
  /-- VRMAX (R242). -/
  | vrmax (d a m : Nat) (t : CmpType)
  /-- VRAND (R242). -/
  | vrand (d a m : Nat) (t : CmpType)
  /-- VROR (R242). -/
  | vror (d a m : Nat) (t : CmpType)
  /-- VRXOR (R242). -/
  | vrxor (d a m : Nat) (t : CmpType)
  /-- VPERM (R243). -/
  | vperm (d a b m : Nat) (z : Bool)
  /-- VSHUF (R243). -/
  | vshuf (d a b m : Nat) (z : Bool)
  /-- VSLIDEU (R243). -/
  | vslideu (d a k m : Nat) (z : Bool)
  /-- VSLIDED (R243). -/
  | vslided (d a k m : Nat) (z : Bool)
  /-- VMV (R244). -/
  | vmv (d a m : Nat) (z : Bool)
  /-- VSPLAT (R244). -/
  | vsplat (d a m : Nat) (z : Bool)
  /-- VINS (R244). -/
  | vins (d a k m : Nat) (z : Bool)
  /-- VEXT (R244). -/
  | vext (d a k : Nat)
  /-- VMSK (R244). -/
  | vmsk (d a : Nat)
  /-- MSHAPE (R249). -/
  | mshape (m s : Nat)
  /-- MZERO (R260). -/
  | mzero (c : Nat)
  /-- MANCH (R260). -/
  | manch (c s : Nat)
  /-- MFLAGS (R261). -/
  | mflags (c s : Nat)
  /-- MLD (R254). -/
  | mld (m s : Nat)
  /-- MLD_T (R254). -/
  | mldT (m s : Nat)
  /-- MST (R254). -/
  | mst (m s : Nat)
  /-- MLDS (R255). -/
  | mlds (m s : Nat)
  /-- MLDX (R256). -/
  | mldx (m s : Nat)
  /-- MMA (R258). -/
  | mma (c a b : Nat)
  /-- MMA_S (R259). -/
  | mmaS (c a b : Nat)
  /-- MMA_Q (R258). -/
  | mmaQ (c a b : Nat)
  /-- MADDA (R260). -/
  | madda (c s : Nat)
  /-- MDRAIN (R263). -/
  | mdrain (c s : Nat) (f : ElemFmt)
  /-- MDRAIN_M (R264). -/
  | mdrainM (c s : Nat) (f : ElemFmt)
  /-- MREAD (R262). -/
  | mread (c s : Nat)
  /-- SGO (R287). -/
  | sgo (a : Nat)
  /-- SSTOP (R288). -/
  | sstop (a : Nat)
  /-- SSTAT (R289). -/
  | sstat (d a : Nat)
  /-- SBAR (R290). -/
  | sbar (a : Nat)
  /-- CREQ (R293). -/
  | creq (a : Nat)
  /-- MSGTAKE (R309). -/
  | msgtake (d : Nat)
  /-- MSGCNT (R309). -/
  | msgcnt (d : Nat)
  /-- SCFG (R285). -/
  | scfg (d a : Nat) (role : EpRole) (kind : EpKind) (f : ElemFmt) (i : Nat)
  /-- SDIM (R286). -/
  | sdim (d a l i : Nat)
  /-- COPY (R291). -/
  | copy (d a b i : Nat)
  /-- SEND (R129). -/
  | send (d a tag i : Nat)
  /-- AADD (R324). -/
  | aadd (d a : Nat) (s : AtomSize) (i : Nat)
  /-- AAND (R324). -/
  | aand (d a : Nat) (s : AtomSize) (i : Nat)
  /-- AOR (R324). -/
  | aor (d a : Nat) (s : AtomSize) (i : Nat)
  /-- AXOR (R324). -/
  | axor (d a : Nat) (s : AtomSize) (i : Nat)
  /-- AMIN (R324). -/
  | amin (d a : Nat) (n : Bool) (s : AtomSize) (i : Nat)
  /-- AMAX (R324). -/
  | amax (d a : Nat) (n : Bool) (s : AtomSize) (i : Nat)
  /-- ASWAP (R324). -/
  | aswap (d a : Nat) (s : AtomSize) (i : Nat)
  /-- ACAS (R324). -/
  | acas (d a b : Nat) (s : AtomSize) (i : Nat)
  /-- AXADD (R324). -/
  | axadd (d a b i : Nat)
  /-- AWATCH (R326). -/
  | awatch (d a b : Nat) (n : Bool) (s : AtomSize) (i : Nat)
  /-- SEMINC (R314). -/
  | seminc (a b : Nat)
  /-- SEMDEC (R314). -/
  | semdec (a b : Nat)
  /-- SEMWAIT (R314). -/
  | semwait (a b : Nat)
  /-- SEMRD (R314). -/
  | semrd (d b : Nat)
  /-- SEMSET (R314). -/
  | semset (a b : Nat)
  /-- FENCE_STR (R327). -/
  | fenceStr (a : Nat)
  /-- FENCE_LVL (R327). -/
  | fenceLvl (l : Nat)
  /-- BINIT (R318). -/
  | binit (a b : Nat)
  /-- ARRIVE (R319). -/
  | arrive (d a b : Nat)
  /-- ARRIVEDROP (R319). -/
  | arrivedrop (d a b : Nat)
  /-- BWAIT (R322). -/
  | bwait (a b : Nat)
  /-- BTEST (R322). -/
  | btest (d a b : Nat)
  /-- BRET (R322). -/
  | bret (a : Nat)
  /-- BEXP (R321). -/
  | bexp (a b : Nat)
  /-- CW_LC_WRITE (R109). -/
  | cwLcWrite (level a : Nat)
  /-- CW_FFLAGS_WRITE (R230). -/
  | cwFflagsWrite (a : Nat)
  /-- CW_ROUND_WRITE (R72). -/
  | cwRoundWrite (a : Nat)
  /-- CW_MCTL_WRITE (R248). -/
  | cwMctlWrite (a : Nat)
  /-- TRET (R342). -/
  | tret
  /-- HALTQ (R346). -/
  | haltq
  /-- END (R167). -/
  | endF
  /-- VOIDF (R168). -/
  | voidf
  /-- ABORTS (R169). -/
  | aborts
  /-- WAITMSG (R309). -/
  | waitmsg
  /-- MSGDROP (R309). -/
  | msgdrop
  /-- FENCE_CORE (R327). -/
  | fenceCore
  /-- FENCE_XPATH (R327). -/
  | fenceXpath
  /-- FIRING_START (R163). -/
  | firingStart (t : Nat)
  /-- COMMIT_POINT (R176). -/
  | commitPoint (t : Nat)
  /-- BUDGET_EXCEEDED (R165). -/
  | budgetExceeded (t : Nat)
  /-- FIRING_RETRY (R182). -/
  | firingRetry (t : Nat)
  /-- INSTRUCTION_WAIT_END (R91). -/
  | instructionWaitEnd (t : Nat)
  /-- TOKEN_LANDING (R115). -/
  | tokenLanding (src dst : Nat)
  /-- RECORD_FETCH (R206). -/
  | recordFetch (t : Nat)
  /-- TILE_WAKE (R148). -/
  | tileWake (t : Nat)
  /-- TILE_GATING (R17). -/
  | tileGating (t : Nat) (power : Bool)
  /-- SLOT_RETURN (R181). -/
  | slotReturn (src dst : Nat)
  /-- ACTIVE_MESSAGE_LANDING (R131). -/
  | activeMessageLanding (src dst : Nat)
  /-- PERMIT_RETURN (R199). -/
  | permitReturn (src dst : Nat)
  /-- LOOP_CLOSE (R199). -/
  | loopClose (src dst : Nat)
  /-- CLOSE_REPLY (R199). -/
  | closeReply (src dst : Nat)
  /-- LOOP_DISCARD (R199). -/
  | loopDiscard (t slot : Nat)
  /-- SCOPE_COMPLETE (R195). -/
  | scopeComplete (sw sc : Nat)
  /-- SCOPE_ABORTED (R191). -/
  | scopeAborted (sw sc : Nat)
  /-- CAST_ON_SEGMENT (R205). -/
  | castOnSegment (sw t : Nat)
  /-- FOLLOW_HOLD_RELEASE (R205). -/
  | followHoldRelease (sw t : Nat)
  /-- CONFIGURATION_COMPLETE (R26). -/
  | configurationComplete (sw : Nat)
  /-- KNOT_INTERVAL_EXPIRY (R149). -/
  | knotIntervalExpiry (t : Nat)
  /-- KNOT_PROBE (R149). -/
  | knotProbe (i : Nat)
  /-- STARVED_CYCLE_PROBE (R151). -/
  | starvedCycleProbe (i : Nat)
  /-- KNOT_REPORT (R149). -/
  | knotReport (i : Nat)
  /-- STARVED_CYCLE_REPORT (R151). -/
  | starvedCycleReport (i : Nat)
  /-- REBALANCER_MOVE (R208). -/
  | rebalancerMove (t slot t2 slot2 : Nat)
  /-- REBIND_HOLD (R145). -/
  | rebindHold (m sender : Nat)
  /-- HOLD_ACKNOWLEDGEMENT (R145). -/
  | holdAcknowledgement (m sender : Nat)
  /-- REMAP_ENTRY_CHANGE (R137). -/
  | remapEntryChange (t dir entry : Nat)
  /-- FLIT_CRC_ERROR (R142). -/
  | flitCrcError (link : Nat)
  /-- LANE_DIAGNOSIS (R142). -/
  | laneDiagnosis (link failing : Nat)
  /-- PATH_DOWN (R143). -/
  | pathDown (t dir : Nat) (alt : PathAlt)
  /-- GAUGE_REFRESH (R139). -/
  | gaugeRefresh (t dir entry : Nat)
  /-- FIELD_OFFSET_MEASUREMENT (R30). -/
  | fieldOffsetMeasurement (f dir : Nat) (offset : Int) (unc : Nat) (drift : Int)
  /-- EVENT_DEADLINE (R344). -/
  | eventDeadline (t : Nat)
  /-- SCRUB (R225). -/
  | scrub (t addr : Nat)
  /-- PARITY_DELTA (R147). -/
  | parityDelta (t : Nat)
  /-- DARNING (R147). -/
  | darning (t spare : Nat)
  /-- TILE_RETIREMENT (R351). -/
  | tileRetirement (t spare : Nat)
  /-- REGULATOR_PHASE_LOSS (R350). -/
  | regulatorPhaseLoss (phys : Nat) (keepAlive : Bool)
  /-- STREAM_ELEMENT (R282). -/
  | streamElement (t k : Nat)
  /-- TRANSLATION_PROBE (R298). -/
  | translationProbe (i : Nat)
  /-- PAGE_WALK (R301). -/
  | pageWalk (i : Nat)
  /-- PROBE_REPLY (R298). -/
  | probeReply (i : Nat)
  /-- FAULT_NOTICE (R302). -/
  | faultNotice (i : Nat)
  /-- MEMORY_REQUEST (R298). -/
  | memoryRequest (i : Nat)
  /-- MEMORY_REPLY (R283). -/
  | memoryReply (i : Nat)
  /-- WATCH_REGISTER (R326). -/
  | watchRegister (i : Nat)
  /-- STREAM_STOP_BOUNDARY (R279). -/
  | streamStopBoundary (t k : Nat)
  /-- COPY_REQUEST_TOKEN (R294). -/
  | copyRequestToken (t slot port : Nat)
  /-- COMPLETION_MESSAGE (R308). -/
  | completionMessage (t : Nat) (key : OpKey)
  /-- HOST_SINK (R188). -/
  | hostSink (src : Nat)
  /-- REMOTE_ARRIVAL (R320). -/
  | remoteArrival (src dst : Nat)
  /-- MATRIX_START (R267). -/
  | matrixStart (t : Nat) (pipe : MPipe)
  /-- MATRIX_COMPLETE (R272). -/
  | matrixComplete (t : Nat) (pipe : MPipe)
  /-- ARRAY_IDLE (R273). -/
  | arrayIdle (t : Nat)
  /-- ACTIVITY_GRANT (R273). -/
  | activityGrant (f : Nat)
  /-- RAMP_END (R274). -/
  | rampEnd (t : Nat)
  /-- SWATCH_STOPPED (R192). -/
  | swatchStopped (sw : Nat)
  /-- PREEMPT_SAVE (R353). -/
  | preemptSave (sw : Nat)
  /-- BIND_OFF_RELEASE (R358). -/
  | bindOffRelease (sw : Nat)
  /-- HOME_LIST_REBUILD (R297). -/
  | homeListRebuild (station : Bool) (n : Nat)
  /-- POWER_FAIL_TRAP (R363). -/
  | powerFailTrap
  /-- FLASH_DRAIN (R397). -/
  | flashDrain
  /-- GRID_SIGNAL (R396). -/
  | gridSignal (k : Nat)
  /-- POWER_WINDOW (R396). -/
  | powerWindow (exceeds : Bool)
  /-- COLD_START (R395). -/
  | coldStart
  /-- WARM_START (R364). -/
  | warmStart
  /-- OWNER_SILENCE (R393). -/
  | ownerSilence
  /-- PEER_LINK_DOWN (R394). -/
  | peerLinkDown (i : Nat)
  /-- LAUNCH (R26). -/
  | launch (h : Hdr) (va : Nat)
  /-- SEAL_SCOPE (R195). -/
  | sealScope (h : Hdr) (sw sc : Nat)
  /-- ABORT_SCOPE (R195). -/
  | abortScope (h : Hdr) (sw sc : Nat)
  /-- RELEASE_SCOPE (R195). -/
  | releaseScope (h : Hdr) (sw sc : Nat)
  /-- WAITSCOPE (R390). -/
  | waitscope (h : Hdr) (sw sc : Nat)
  /-- PREEMPT (R353). -/
  | preempt (h : Hdr) (sw va : Nat) (urgent : Bool)
  /-- STOPANSWER (R352). -/
  | stopanswer (h : Hdr) (sw : Nat) (ans : StopAns)
  /-- BINDOFF (R358). -/
  | bindoff (h : Hdr) (sw : Nat)
  /-- REKNIT (R357). -/
  | reknit (h : Hdr) (va : Nat)
  /-- FAULTANSWER (R302). -/
  | faultanswer (h : Hdr) (id : Nat) (resume : Bool)
  /-- READNODES (R390). -/
  | readnodes (h : Hdr) (sw dx dy slot va : Nat)
  /-- READLOG (R153). -/
  | readlog (h : Hdr) (logical : Bool) (x y va : Nat)
  /-- SEMPOST (R313). -/
  | sempost (h : Hdr) (sw dx dy slot k value : Nat)
  /-- XLATEINV (R301). -/
  | xlateinv (h : Hdr) (tag : Nat) (all : Bool) (lo hi : Nat)
  /-- SETCTX (R299). -/
  | setctx (h : Hdr) (pa : Nat)
  /-- POWERSTEP (R396). -/
  | powerstep (h : Hdr) (k : Nat)
  /-- DEBUG (R361). -/
  | debugCmd (h : Hdr) (t : Nat) (op : DebugOp)
  /-- ATTEST (R399). -/
  | attest (h : Hdr) (nonce va : Nat)
  /-- HANDOVER (R393). -/
  | handover (h : Hdr) (adapter : Nat)
  /-- GUILT (R392). -/
  | guilt (h : Hdr) (tag limit : Nat)
  /-- BINDPEER (R394). -/
  | bindpeer (h : Hdr) (sw edge peer peerEdge : Nat)
  /-- PERSIST (R397). -/
  | persist (h : Hdr) (lo len : Nat)
  /-- STATUS (R390). -/
  | status (h : Hdr) (va : Nat)
  /-- TOKEN (R390). -/
  | token (h : Hdr) (sw edge : Nat) (mark : Bool) (words : List Nat)
  /-- QCREATE (R391). -/
  | qcreate (h : Hdr) (adapter q sub comp n tag : Nat)
  /-- QDELETE (R391). -/
  | qdelete (h : Hdr) (adapter q : Nat)
  /-- ILLEGAL_INSTRUCTION (R39). -/
  | illegalInstruction
  /-- MALFORMED_PACKET (R390). -/
  | malformedPacket (h : Hdr)
  /-- COPY_WORD (R295). -/
  | copyWord (t id : Nat)
  /-- POWER_FAIL_DEADLINE (R363). -/
  | powerFailDeadline
  /-- FIRMWARE_IMAGE (R395). -/
  | firmwareImage (img : Nat)
  deriving DecidableEq, Repr

end Sys2Proof
end

