-- ==== Sys2Proof/Config.lean ====
section
/-! DEFINITION. What one part fixes, and the values that the spec leaves open. A constant with no body is a free value: nothing is known of
it but its type, so a claim about the model holds for every value of it. Most are applied to State.tick, a counter that every step advances. -/

namespace Sys2Proof

/-- The three variants (R1). -/
inductive Variant where | w2 | w2_42 | w2q
  deriving DecidableEq, Repr

/-- What the outside world does to the module that no row of the table names: a soft error in an SRAM word, or in the slot of a token that
waits in a queue, and the refill of one (R223, R224); firmware's setting of a tile's clock, in steps of 12.5 MHz, and supply, in mV (R16,
R17); two nodes of one parity group lost at once (R351); a packet written to a ring that is full (R392); what comes from the peer module of a
bound edge: slot returns, a token, or a replay after which it has the first tokens sent and not the rest (R394). -/
inductive Input where
  | softError (t addr bits : Nat)
  | queueError (t slot port i : Nat)
  | queueRefill (t slot port : Nat)
  | setClock (phys clock supply : Nat)
  | twoLost (a b : Nat)
  | ringOverrun (adapter queue : Nat)
  | peerReturn (i n : Nat)
  | peerToken (i : Nat) (words : List (BitVec 32)) (void mark : Bool)
  | peerReplay (i n : Nat)
  deriving DecidableEq, Repr

/-- Which agent moves next: the core of a tile, one of the other steps of the opcode table, or the outside world. -/
inductive Turn where
  | core (t : Nat)
  | event (i : Instr)
  | input (e : Input)
  deriving DecidableEq, Repr

/-- The turn taken where the agenda of the state names none (log entry 1). -/
opaque Config.turn : Nat → Option Turn

/-- Tile cycles that an instruction takes beyond one (R91, R92; log entry 2): tick, tile. -/
opaque Config.stall : Nat → Nat → Nat

/-- Counts by which a field counter has advanced since it was last looked at (R30; log entry 2): tick, field. -/
opaque Config.fieldRate : Nat → Nat → Nat

/-- How many of the latest updates of a scope's words have not reached a tile's copy (R172; log entry 9): tick, tile. -/
opaque Config.scopeLag : Nat → Nat → Nat

/-- How many of the latest writes that no rule orders before a read or a write it comes before (R112, R332; log entry 8): tick, memory node,
address. -/
opaque Config.stale : Nat → Nat → Nat → Nat

/-- Whether a byte of a tile's system region lies in the retention area (R211, R224; log entry 13): tile, address. -/
opaque Config.retained : Nat → Nat → Bool

/-- The host that the remap build of a cold start would give a node: a logical tile, or the parity tile of a group (R13, R14, R395; log
entry 4): cold start, node. -/
opaque Config.startBinding : Nat → Nat → Nat

/-- Which of its legal paths a logical hop gets at start (R133; log entry 4): cold start, tile, direction. -/
opaque Config.startPath : Nat → Nat → Nat → Nat

/-- The band that firmware measures on a hop at start (R139; log entry 4): cold start, tile, direction. -/
opaque Config.startBand : Nat → Nat → Nat → Nat

/-- The clock, in steps of 12.5 MHz, and supply, in mV, that firmware sets for a physical tile at start (R17; log entry 4): cold start,
physical tile. -/
opaque Config.startClock : Nat → Nat → Nat × Nat

/-- CW.SYSB at start (R210; log entry 4). -/
opaque Config.startSysb : Nat → BitVec 12

/-- The virtual address of the gauge view of a swatch (R140; log entry 4). -/
opaque Config.gview : Nat → BitVec 57

/-- The field-offset record that firmware measures at start (R141; log entry 4): start, field, direction; offset, uncertainty, drift. -/
opaque Config.startOffset : Nat → Nat → Nat → Int × Nat × Int

/-- Which of the spares that meet the stretch bound firmware takes (R143, R351; log entry 10): tick. -/
opaque Config.spareChoice : Nat → Nat

/-- Which of its legal paths firmware gives a hop, and the band it measures there (R133, R139, R145; log entry 10): tick, tile, direction. -/
opaque Config.reroute : Nat → Nat → Nat → Nat × Nat

/-- What a physical address beyond the module's memory reads as (R11; log entry 12): tick, address. -/
opaque Config.absentByte : Nat → Nat → BitVec 8

/-- The cycle count of a spare that takes over a logical tile (R345; log entry 2): tick, tile. -/
opaque Config.spareCycles : Nat → Nat → Nat

/-- Whether a flit got across a link since the last CRC error there (R142; log entry 2): tick, link. -/
opaque Config.flitPassed : Nat → Nat → Bool

/-- Whether a packet, request or reply lay in the replay buffer of a path that goes down (R144; log entry 2): tick, place in its list. -/
opaque Config.lost : Nat → Nat → Bool

/-- Slots of a tile's reserve pool for loosening (R150; log entry 10). -/
opaque Config.reservePool : Nat → Nat

/-- Whether a tile has room for queues of the given slots and widths (R207; log entry 10): tile, list of slots and words a token. -/
opaque Config.queueFits : Nat → List (Nat × Nat) → Bool

/-- Whether fravar-map pinned the actor of a slot by at(), which no field of its record says (R208; log entry 10): tile, slot. -/
opaque Config.pinned : Nat → Nat → Bool

/-- Which of the origins that qualify the selvage chooses (R24; log entry 10): tick. -/
opaque Config.origin : Nat → Nat

/-- Adapters of the module beside its first one (R389, R391; log entry 7). -/
opaque Config.moreAdapters : Nat

/-- Adapters of the module: one at the least, the one that owns it (R389, R391, R393; log entry 7). -/
def Config.adapters : Nat := 1 + Config.moreAdapters

/-- The rings of an adapter's admin queue, which its host writes before it enables the link (R391; log entry 7): submission ring, completion
ring, entries. -/
opaque Config.adminRings : Nat → Nat × Nat × Nat

/-- Which of the adapters that hold a certificate presents the first one, while no root key is held (R393; log entry 7): tick. -/
opaque Config.firstCert : Nat → Nat

/-- Whether one of the steps 2 to 6 of a start fails (R395; log entry 11): tick. -/
opaque Config.startFails : Nat → Bool

/-- Whether an adapter that holds so many queues can hold one more (R391; log entry 7): adapter, queues. -/
opaque Config.queueRoom : Nat → Nat → Bool

/-- The SM3 digest of GB/T 32905, 32 bytes (R355, R397, R399; log entry 7). -/
opaque Config.sm3 : List (BitVec 8) → List (BitVec 8)

/-- The SM2 signature by the identity key, 64 bytes (R399; log entry 7). -/
opaque Config.sm2Sign : List (BitVec 8) → List (BitVec 8)

/-- Whether an adapter presents an owner certificate that the stored root, if any, accepts (R393; log entry 7): adapter, root key held. -/
opaque Config.certOk : Nat → Option Nat → Bool

/-- The key that issued the certificate of an adapter (R393; log entry 7). -/
opaque Config.certIssuer : Nat → Nat

/-- Whether the SM2 check of a firmware image passes (R395, R398; log entry 7). -/
opaque Config.imageOk : Nat → Bool

/-- The SM3 digests of firmware and selvage image, 0 and 1 (R399; log entry 7): firmware image, which. -/
opaque Config.firmwareDigest : Nat → Nat → List (BitVec 8)

/-- The SM3 digest of the stored remap (R398, R399; log entry 7): the cold start that built it, the hosts rebound since. -/
opaque Config.remapDigest : Nat → List (Nat × Nat) → List (BitVec 8)

/-- Which of the places in its block that an image allows the first token of an edge takes (R123, R357; log entry 31): tick, edge. -/
opaque Config.blockPlace : Nat → Nat → Nat

/-- Whether the stored charge lasts until a drain record is written (R397; log entry 11): tick. -/
opaque Config.drainLasts : Nat → Bool

/-- The slots of the peer module's consumer of a bound edge (R394; log entry 26): tick. -/
opaque Config.peerSlots : Nat → Nat

/-- Words the spec names but does not lay out, such as the power state that STATUS writes (R390; log entry 12). -/
opaque Config.openWord : Nat → Nat → BitVec 32

end Sys2Proof
end

