-- ==== Sys2Proof/Machine/Maps.lean ====
section
/-! DEFINITION. Sparse tables: a list of key and value pairs, keys rising, read with a default for a key that is not listed; and memory,
the same list over bytes in canonical form (no entry equal to 0, which every unlisted address reads as; R395 steps 5 and 6). -/

namespace Sys2Proof

/-- A table from numbers to values, as a list of pairs whose keys rise. -/
abbrev Map (α : Type) := List (Nat × α)

/-- The value at key k, or d where the table lists none. -/
def Map.get {α : Type} (d : α) : Map α → Nat → α
  | [], _ => d
  | (k', v) :: m, k => if k' = k then v else Map.get d m k

/-- The value at key k, where the table lists one. -/
def Map.find {α : Type} : Map α → Nat → Option α
  | [], _ => none
  | (k', v) :: m, k => if k' = k then some v else Map.find m k

/-- The table with value v at key k. -/
def Map.set {α : Type} : Map α → Nat → α → Map α
  | [], k, v => [(k, v)]
  | (k', v') :: m, k, v =>
    if k' < k then (k', v') :: Map.set m k v
    else if k' = k then (k, v) :: m
    else (k, v) :: (k', v') :: m

/-- The table without key k. -/
def Map.erase {α : Type} (m : Map α) (k : Nat) : Map α := m.filter fun e => !(e.1 == k)

/-- The table with the value at key k changed by f. -/
def Map.modify {α : Type} (d : α) (m : Map α) (k : Nat) (f : α → α) : Map α := Map.set m k (f (Map.get d m k))

/-- The keys of a table, in order. -/
def Map.keys {α : Type} (m : Map α) : List Nat := m.map (·.1)

/-- Bytes by address, in canonical form (Memory.wf). -/
abbrev Memory := List Host.Cell

/-- The byte at address a; an unlisted address reads 0 (R395 steps 5 and 6). -/
def Memory.read (m : Memory) (a : Nat) : Byte := Map.get 0 m a

/-- Memory with byte b at address a. A 0 is stored by listing nothing. -/
def Memory.write (m : Memory) (a : Nat) (b : Byte) : Memory :=
  if b = 0 then Map.erase m a else Map.set m a b

/-- The n bytes from address a up, lowest first. -/
def Memory.readN (m : Memory) (a : Nat) : Nat → List Byte
  | 0 => []
  | n + 1 => Memory.read m a :: Memory.readN m (a + 1) n

/-- Memory with the bytes of a list stored from address a up. -/
def Memory.writeN (m : Memory) (a : Nat) : List Byte → Memory
  | [] => m
  | b :: bs => Memory.writeN (Memory.write m a b) (a + 1) bs

/-- The canonical form: addresses strictly rising, and no entry that holds what an unlisted address reads as. -/
def Memory.wf : Memory → Bool
  | [] => true
  | [(_, b)] => !(b == 0)
  | (a, b) :: (a', b') :: m => decide (a < a') && !(b == 0) && Memory.wf ((a', b') :: m)

end Sys2Proof
end

