-- ==== Sys2Proof/Machine/Bits.lean ====
section
/-! DEFINITION. Bit fields, extension and byte order (R4, R10), and records of 32-bit words. -/

namespace Sys2Proof

/-- The number that the low n bits of x hold in two's complement (R10, sext). -/
def sextInt (n x : Nat) : Int :=
  if 2 ^ (n - 1) ≤ x % 2 ^ n then (x % 2 ^ n : Int) - 2 ^ n else (x % 2 ^ n : Int)

/-- An integer modulo 2^n (R67). -/
def wrapInt (n : Nat) (x : Int) : Nat := (x % (2 ^ n : Int)).toNat

/-- sext(n, x) as a 64-bit pattern. -/
def sext64 (n x : Nat) : Nat := wrapInt 64 (sextInt n x)

/-- The field [lo + n - 1 : lo] of x (R4). -/
def bitField (x lo n : Nat) : Nat := x / 2 ^ lo % 2 ^ n

/-- x with the field of n bits at lo replaced by v. -/
def setBitField (x lo n v : Nat) : Nat := x - bitField x lo n * 2 ^ lo + v % 2 ^ n * 2 ^ lo

/-- The number that bytes hold, little-endian (R4). -/
def leNat : List Byte → Nat
  | [] => 0
  | b :: bs => b.toNat + 256 * leNat bs

/-- The n bytes of a number, little-endian (R4). -/
def leBytes : Nat → Nat → List Byte
  | 0, _ => []
  | n + 1, x => BitVec.ofNat 8 x :: leBytes n (x / 256)

/-- A record of 32-bit words by word number; a word not listed is 0. -/
abbrev Words := Map Word32

/-- The value of word w of a record. -/
def Words.word (r : Words) (w : Nat) : Nat := (Map.get 0 r w).toNat

/-- The record with word w replaced. -/
def Words.setWord (r : Words) (w v : Nat) : Words := Map.set r w (BitVec.ofNat 32 v)

/-- Field [lo + n - 1 : lo] of word w of a record. -/
def Words.field (r : Words) (w lo n : Nat) : Nat := bitField (Words.word r w) lo n

/-- The record with field [lo + n - 1 : lo] of word w replaced. -/
def Words.setField (r : Words) (w lo n v : Nat) : Words := Words.setWord r w (setBitField (Words.word r w) lo n v)

/-- The 64-bit value in words w and w + 1. -/
def Words.dword (r : Words) (w : Nat) : Nat := Words.word r w + 2 ^ 32 * Words.word r (w + 1)

/-- The record with the 64-bit value in words w and w + 1 replaced. -/
def Words.setDword (r : Words) (w v : Nat) : Words := Words.setWord (Words.setWord r w v) (w + 1) (v / 2 ^ 32)

/-- The first n words of a record as a list. -/
def Words.toList (r : Words) (n : Nat) : List Nat := (List.range n).map (Words.word r)

/-- A record from a list of words. -/
def Words.ofList (l : List Nat) : Words := (l.zipIdx).foldl (fun r e => Words.setWord r e.2 e.1) []

/-- Words as bytes, each little-endian. -/
def wordsBytes (l : List Nat) : List Byte := l.flatMap (leBytes 4)

/-- Bytes as words, each little-endian; a shorter tail is dropped. -/
def bytesWords : List Byte → List Nat
  | b0 :: b1 :: b2 :: b3 :: r => leNat [b0, b1, b2, b3] :: bytesWords r
  | _ => []

/-- rel(dx, dy) packed as R61 packs it. -/
def packRel (dx dy : Int) : Nat := wrapInt 16 dx + 2 ^ 16 * wrapInt 16 dy

/-- The dx of a packed relative name (R129). -/
def relDx (a : Nat) : Int := sextInt 16 a

/-- The dy of a packed relative name (R129). -/
def relDy (a : Nat) : Int := sextInt 16 (a / 2 ^ 16)

/-- ceil(a / b). -/
def ceilDiv (a b : Nat) : Nat := (a + b - 1) / b

/-- The lowest bits set of a mask below n, as a list of bit numbers. -/
def bitsOf (m n : Nat) : List Nat := (List.range n).filter fun k => bitField m k 1 == 1

end Sys2Proof
end

