-- ==== Sys2Proof/Machine/State.lean ====
section
/-! DEFINITION. The state of the machine: everything the spec gives it, as plain data. A tile is named by the number 256 y + x of its
logical coordinate (R8), a physical tile by 256 row + column, a node of the network by its tile or by the number of the selvage. -/

namespace Sys2Proof.Machine

/-- Why a step stops. -/
inductive Fault where
  /-- Raised by an instruction of the tile core where no firing runs on the tile that State.focus names: no instruction issues there
  (R91, R163). Safe: Machine.step never executes an instruction on such a tile. -/
  | noFiring
  deriving DecidableEq, Repr

/-- Why an instruction has no meaning here. -/
inductive Refusal where
  /-- Raised by an arm of exec whose instruction the model does not yet give a meaning. Safe: nothing is claimed of it. -/
  | notModelled (mnemonic : String)
  deriving DecidableEq, Repr

/-- The sixteen lanes of a vector register, lane 0 first (R226). -/
abbrev Lanes := List Word32

/-- A token (R20). -/
structure Token where
  words : List Word32
  void : Bool
  mark : Bool
  tag : Nat
  deriving DecidableEq, Repr

/-- A scale token of the side band of a scaled edge (R123, R125). -/
structure ScaleTok where
  word : Word32
  void : Bool
  deriving DecidableEq, Repr

/-- The place of a write in the service order of a memory node, the fraction num / 2 ^ exp, so that between two places there is always another
(R329). -/
structure Stamp where
  num : Nat
  exp : Nat
  deriving DecidableEq, Repr

/-- Before every write. -/
def Stamp.zero : Stamp := { num := 0, exp := 0 }

/-- How far into the service order of each memory actor the accesses reach that come before what an agent does next (R329 to R331): for an
actor, the place of the latest write among them. -/
abbrev View := Map Stamp

/-- The queue of an input port (R19, R123): tokens, what the sender of each had before it (R330), scale tokens, the place of the first token in
its block, and the places in the queue of tokens whose slot is being refilled and which are not present (R224). -/
structure InQueue where
  toks : List Token
  views : List View
  scales : List ScaleTok
  pos : Nat
  refilling : List Nat
  deriving DecidableEq, Repr

/-- The state kept at an output port: copies of the tokens sent and not yet returned, each with the scale token sent ahead of it (R181);
the push count of the edge (R161); the place of the next token in its block (R123); and the queue of a stream or copy edge, whose slots lie
on the tile itself (R281, R294). -/
structure OutQueue where
  retained : List (Token × Option ScaleTok)
  pushed : Nat
  pos : Nat
  local_ : List Token
  deriving DecidableEq, Repr

/-- The accesses that come before those of an engine operation, or that its completion puts before what follows it: in DRAM, and in the SRAM
of its tile, by the place of the latest write there among them (R330, R331). -/
structure Reach where
  dram : View
  sram : Stamp
  deriving DecidableEq, Repr

/-- A node-record slot: the record's 64 words (R154), and what the tile keeps beside it: the swatch that configured it, the firing ordinal
(R161), the age (R163), retried attempts of the firing (R182), the number that the tile gave its latest firing or
the fetch that loaded it (R206), and the queues of its ports. -/
structure Slot where
  record : Words
  swatch : Nat
  ordinal : Nat
  age : Nat
  attempts : Nat
  lastUid : Nat
  inq : Map InQueue
  outq : Map OutQueue
  deriving DecidableEq, Repr

/-- Which operation a request belongs to: the tile, the engine operation, and the start count of a stream or number of the operation. -/
structure OpRef where
  tile : Nat
  key : OpKey
  run : Nat
  deriving DecidableEq, Repr

/-- The states of an inbox entry (R131, R310). -/
inductive EntryState where
  | free | reserved | full | taken
  deriving DecidableEq, Repr

/-- One of the 64 inbox entries (R306): its state, the slot it belongs to, its place in landing order (R309), the swatch of a message,
the attempt whose operation it completes (0 for none; R183), what it puts before the accesses that follow its dequeue, in DRAM and in the
tile's SRAM (R330), and its sixteen words. -/
structure InboxEntry where
  state : EntryState
  owner : Nat
  stamp : Nat
  attempt : Nat
  swatch : Nat
  reach : Reach
  words : List Word32
  deriving DecidableEq, Repr

/-- A request of an engine operation to DRAM that has been sent and not yet performed: its sequence number, its first element or word, how
many elements or words it covers, whether it writes, for a read the bytes returned (R298, R290), and how often it was lost (R304). -/
structure Outstanding where
  seq : Nat
  first : Nat
  count : Nat
  write : Bool
  data : Option (List Byte)
  losses : Nat
  deriving DecidableEq, Repr

/-- What an engine knows of a virtual page: the page's number, its physical page and whether it was probed for a write (R298). -/
structure PageInfo where
  vpage : Nat
  ppage : Nat
  write : Bool
  deriving DecidableEq, Repr

/-- What is common to every operation of an engine that reaches DRAM: the pages it knows, the page it has probed, the requests
outstanding, the last request to each memory actor (R298), the next sequence number, the attempt that issued it, its inbox entry, whether
its attempt was abandoned (R183), a standing fault notice (R302), the swatch and scope in which the operation was issued and counts (R28),
and the accesses to DRAM and to the tile's SRAM that come before its next one (R331). -/
structure Engine where
  pages : List PageInfo
  probing : Option Nat
  outstanding : List Outstanding
  lastReq : Map Nat
  seq : Nat
  attempt : Nat
  entry : Nat
  orphan : Bool
  notice : Option Nat
  swatch : Nat
  scope : Nat
  reach : Reach
  deriving DecidableEq, Repr

/-- A running, paused, deferred or stopping stream beside its record (R278, R279): the operation's engine state, elements begun, bytes of the
token being filled (R283), elements taken of the token being drained (R284), the elements performed and the next sequence number when its record
was last written to the retention area (R278), the tokens drained since the last outer-loop boundary, each with its first element and the element
after its last, and those to be drained once more after the loss of the tile (R304), the runs it is held back for by an SBAR (R290), the status
with which it stops and whether only at an outer-loop boundary (R305), whether it pushes voids for what it has not delivered (R189), and whether
a marked token has ended it (R284). -/
structure StreamRun where
  eng : Engine
  begun : Nat
  filling : List Byte
  drained : Nat
  kept : Nat
  keptSeq : Nat
  since : List (Nat × Nat × Token)
  redo : List Token
  sbar : List (Nat × Nat)
  stopStatus : Nat
  outerOnly : Bool
  voiding : Bool
  marked : Bool
  deriving DecidableEq, Repr

/-- A copy in progress or waiting (R291 to R295). -/
structure Copy where
  id : Nat
  slot : Nat
  kind : Nat
  src : Nat
  dst : Nat
  len : Nat
  tag : Nat
  packet : List Word32
  begun : Nat
  done : Nat
  deferred : Bool
  paused : Bool
  status : Nat
  eng : Engine
  deriving DecidableEq, Repr

/-- An atomic or watch issued and not completed (R323 to R326): op 0 to 9, size code, the n bit, the b field of AWATCH, operands. -/
structure Atomic where
  id : Nat
  slot : Nat
  op : Nat
  size : Nat
  unsigned_ : Bool
  cond : Nat
  addr : Nat
  d : Word64
  b : Word64
  tag : Nat
  deferred : Bool
  paused : Bool
  eng : Engine
  deriving DecidableEq, Repr

/-- An operation deferred to the commit point of its firing (R178), in issue order. -/
inductive Deferred where
  | stream (k : Nat) | copy (id : Nat) | atomic (id : Nat)
  deriving DecidableEq, Repr

/-- A message or remote arrival staged by a firing (R130, R319). -/
inductive Staged where
  | message (dst : Nat) (words : List Word32)
  | arrival (dst addr phase : Nat) (drop : Bool)
  deriving DecidableEq, Repr

/-- A staged semaphore change (R314). -/
inductive SemChange where
  | add (k x : Nat) | sub (k x : Nat) | set (k x : Nat)
  deriving DecidableEq, Repr

/-- A staged barrier change (R317). -/
inductive BarChange where
  | init (x expect : Nat) | exp (x y : Nat) | ret (x : Nat) | arrive (x phase : Nat) (drop : Bool)
  deriving DecidableEq, Repr

/-- A journal entry (R170). -/
structure JournalEntry where
  addr : Nat
  bytes : List Byte
  deriving DecidableEq, Repr

/-- A level of a zero-overhead loop (R105). -/
structure LoopLevel where
  ls : Nat
  le : Nat
  lc : Nat
  deriving DecidableEq, Repr

/-- A matrix register m0 to m7 (R246): element storage of 8,192 bytes, shape word, scale side-file of 512 entries, index side-file. -/
structure MatReg where
  storage : Map Byte
  shape : Option Nat
  scales : Map Nat
  index : Map Byte
  valid : Bool
  deriving DecidableEq, Repr

/-- An accumulator a0 to a3 (R79): elements by 32 i + j as 128-bit patterns, anchor, and the two sticky flags. -/
structure Acc where
  elems : Map (BitVec 128)
  anchor : Int
  satFlag : Bool
  invFlag : Bool
  deriving DecidableEq, Repr

/-- What a waiting instruction waits for (R91, R115, R131, R309, R314, R322, R327, R344, R266). A FENCE.STR keeps how far the accesses that it
covers have reached so far. -/
inductive WaitCond where
  | token (port k : Nat)
  | inboxEntry
  | message
  | semaphore (k x : Nat)
  | barrier (x phase : Nat)
  | events (mask : Nat)
  | accesses (upTo : List (OpKey × Nat)) (reach : Reach)
  | operations (ops : List (OpKey × Nat))
  | matrixQueue
  | matrixIdle
  | matrixDone
  | accumulator (c : Nat)
  deriving DecidableEq, Repr

/-- Where a firing stands (R91, R176, R360). One that is released has sent its tokens, messages and operations, and the rest of its commit,
its barrier changes first among it, is still to come (R176, R379, R383). -/
inductive Phase where
  | running
  | waiting (c : WaitCond)
  | committing (acked : Bool)
  | released
  | abandoned
  | halted (resumeAt : Nat)
  deriving DecidableEq, Repr

/-- A matrix instruction that has issued and not completed (R267): its pipe, its accumulator where it is of the array pipe or drains one,
whether it has started, what it reads and what it writes (m registers 0 to 7, scale side-files 8 to 15, index side-files 16 to 23,
accumulators 24 to 27), whether it is one that raises 0x0C when it completes (R272), what MFLAGS reads of its accumulator after it (R261,
R361), and its address. -/
structure MatOp where
  pipe : MPipe
  acc : Nat
  started : Bool
  uses : List Nat
  defs : List Nat
  clamped : Bool
  mflags : Nat
  pc : Nat
  deriving DecidableEq, Repr

/-- The firing that a tile runs: the state that the first instruction finds fresh (R87, R164, R226, R247, R337). -/
structure Firing where
  slot : Nat
  uid : Nat
  pc : Nat
  sregs : Map Word64
  vregs : Map Lanes
  mregs : Map MatReg
  accs : Map Acc
  levels : List LoopLevel
  savedLevels : List LoopLevel
  round : Nat
  fflags : Nat
  mctl : Nat
  tvec : Nat
  tpc : Nat
  tstat : Nat
  evdl : Nat
  evDue : Bool
  evpend : Nat
  spent : Nat
  cursors : Map Nat
  staged : Map (List Word32)
  marks : Map (List Nat)
  scales : Map (List Nat)
  journal : List JournalEntry
  messages : List Staged
  deferred : List Deferred
  seals : List Nat
  semChanges : List SemChange
  barChanges : List BarChange
  haltq : Bool
  delta : List (Nat × Byte)
  readyAtStart : List Nat
  bpPassed : Bool
  phase : Phase
  msgEntry : Option Nat
  deriving DecidableEq, Repr

/-- Clock and power gating of a tile (R17, R148). -/
inductive Gating where
  | running | clockGated | powerGated | waking
  deriving DecidableEq, Repr

/-- The state of a tile's array toward the activity governor of its field (R273). -/
inductive ArrayState where
  | idle | waiting | ramping | active | leaving
  deriving DecidableEq, Repr

/-- A write kept in the service order of its memory node, for the accesses that no rule orders after it (R112, R329, R332): its place, the node,
its address, what the bytes held before it in that order, and whether the core made it. -/
structure Kept where
  stamp : Stamp
  node : Nat
  addr : Nat
  old : List Byte
  core : Bool
  deriving DecidableEq, Repr

/-- A read kept in a service order: it comes right after the write at a place, and no write to its bytes that is still to come may be put before
it (R329). -/
structure ReadMark where
  place : Stamp
  node : Nat
  addr : Nat
  len : Nat
  deriving DecidableEq, Repr

/-- The service order of a tile's SRAM, or of the memory actors together, each a node of its own (R329): the writes in that order, the reads
among them, and the place of the last write. -/
structure Order where
  hist : List Kept
  reads : List ReadMark
  last : Stamp
  deriving DecidableEq, Repr

/-- What a tile keeps beside a live barrier slot: the swatch that registered it (R316), and what the arrivals of the current phase, and those
of the phases that have ended, put before an instruction that sees their end (R330, R333). -/
structure BarInfo where
  swatch : Nat
  coming : View
  done : View
  deriving DecidableEq, Repr

/-- A user tile (R16). SRAM holds what the last writes of its service order left. coreSeen and engineSeen say how far the accesses reach that
come before every later core access and engine operation (C and E of R330), coreAcq how far the engine accesses in C do; fetchAcq is coreAcq
as of the last FENCE.CORE, and the core stores up to fetchSeen are those older than it (R112); view is C and E for DRAM. ended says how far
the accesses of ended operations reached: the latest run of each engine stream at its number, the copies and atomics of each slot at 32 more
than its number. keptStreams is what the retention area holds of the records of streams that do not run (R278). -/
structure Tile where
  sram : Memory
  order : Order
  coreSeen : Stamp
  engineSeen : Stamp
  coreAcq : Stamp
  fetchAcq : Stamp
  fetchSeen : Stamp
  view : View
  ended : Map Reach
  poisoned : List Nat
  uncorrectable : List Nat
  singleError : List Nat
  slots : Map Slot
  inbox : Map InboxEntry
  stamp : Nat
  streams : Map Words
  keptStreams : Map Words
  runs : Map StreamRun
  barred : Map (List (Nat × Nat))
  copies : List Copy
  atomics : List Atomic
  nextOp : Nat
  sems : Map Word32
  barriers : List (Nat × Nat)
  barInfo : Map BarInfo
  cwords : Map Word32
  gauge : Map Word32
  nptr : Map Word32
  edgeTab : Map Word32
  scopeCopy : Map Nat
  cycles : Nat
  gating : Gating
  array : ArrayState
  rampFrom : Nat
  matOps : List MatOp
  lastFired : Nat
  fired : Bool
  nextUid : Nat
  firing : Option Firing
  debugLog : List (List Word32)
  poolUsed : Nat
  deriving DecidableEq, Repr

/-- A physical tile (R16, R17, R350): the clock and supply that firmware has set since start, regulator phases lost, keep-alive lost,
retired, lost (R147), and its host's error log (R152). -/
structure PhysTile where
  setting : Option (Nat × Nat)
  phasesLost : Nat
  keepAliveLost : Bool
  retired : Bool
  lost : Bool
  errors : List (List Byte)
  errorCount : Nat
  former : Option Nat
  deriving DecidableEq, Repr

/-- A physical link, by 4 times the physical tile it leaves plus the direction (R142, R143). -/
structure Link where
  failing : Nat
  badLanes : Nat
  diagnosing : Bool
  deriving DecidableEq, Repr

/-- What the lane and tile scan of the latest cold start found (R395). -/
structure Scan where
  phys : Map PhysTile
  links : Map Link
  deriving DecidableEq, Repr

/-- Traffic classes of packets that tiles exchange (R136); token-class traffic of a paged launch has a channel of its own (R135). -/
inductive TrafficClass where
  | token | paged | slotReturn | control
  deriving DecidableEq, Repr

/-- What a packet carries. Traffic of a paged launch names its consumer by edge and swatch, whichever slot holds it (R206). -/
inductive PacketBody where
  | token (slot port : Nat) (tok : Token)
  | scale (slot port : Nat) (sc : ScaleTok)
  | paged (edge swatch : Nat) (tok : Token)
  | pagedScale (edge swatch : Nat) (sc : ScaleTok)
  | message (swatch : Nat) (words : List Word32)
  | arrival (addr phase : Nat) (drop : Bool) (slot tag : Nat)
  | slotReturn (slot port count : Nat)
  | permit (slot : Nat)
  | pagedPermit (edge swatch : Nat)
  | close (slot : Nat) (exitTile exitSlot : Nat)
  | pagedClose (edge swatch : Nat) (exitTile exitSlot : Nat)
  | closeReply (slot c : Nat)
  | holdAck (move : Nat)
  deriving DecidableEq, Repr

/-- A packet in flight, with what its sender had before it in DRAM (R330), the number of the firing that sent it (R177) and the swatch and scope
of that firing (R28). The list of packets is in send order, so that the first of one source, destination and class lands first (R136). -/
structure Packet where
  src : Nat
  dst : Nat
  cls : TrafficClass
  body : PacketBody
  view : View := []
  batch : Nat := 0
  sender : Nat × Nat := (0, 0)
  deriving DecidableEq, Repr

/-- An actor move in progress (R145, R208): the actor's tile and slot, the tile and slot it goes to, its senders, those of them that have
received the hold, and those whose acknowledgement is in. A tile rebind is one step. -/
structure Rebind where
  id : Nat
  tile : Nat
  slot : Nat
  toTile : Nat
  toSlot : Nat
  senders : List Nat
  held : List Nat
  acked : List Nat
  deriving DecidableEq, Repr

/-- A probe of R149 or R151 on its way: the actor it started from and the one it comes to next, each as tile and slot; the members so far,
the edges and what each member's counts and queues were; and the place reached of the confirming pass, none in the first. -/
structure Probe where
  starved : Bool
  origin : Nat × Nat
  node : Nat × Nat
  members : List (Nat × Nat)
  edges : List Nat
  snapshot : List (List Nat)
  confirm : Option Nat
  deriving DecidableEq, Repr

/-- A confirmed report (R149, R151): the swatch, the edge names in probe order, the members, for a knot the new slot counts of its edges and
whether the reserve is exhausted (R150), and for a starved cycle the flagged actors are the members. -/
structure Report where
  starved : Bool
  swatch : Nat
  edges : List Nat
  members : List (Nat × Nat)
  counts : List Nat
  exhausted : Bool
  deriving DecidableEq, Repr

/-- A probe on its way to a station or waiting there for a walk (R298, R301). -/
structure XlateProbe where
  op : OpRef
  tag : Nat
  vpage : Nat
  write : Bool
  atomic : Bool
  watch : Bool
  walking : Bool
  deriving DecidableEq, Repr

/-- The answer to a probe: the physical page, or none and the cause (R298, R302). -/
structure ProbeReply where
  op : OpRef
  vpage : Nat
  write : Bool
  page : Option Nat
  cause : Nat
  deriving DecidableEq, Repr

/-- A cached translation of a station (R301). -/
structure Xlation where
  tag : Nat
  base : Nat
  size : Nat
  pa : Nat
  rights : Nat
  deriving DecidableEq, Repr

/-- What a memory request asks (R296, R324). -/
inductive MemKind where
  | read (n : Nat)
  | write (data : List Byte)
  | atomic (op size : Nat) (uns : Bool) (d b : Word64)
  | watch (cond size : Nat) (uns : Bool) (d : Word64)
  deriving DecidableEq, Repr

/-- A request to a memory actor (R296, R298): who asks, the station at which it enters the ring, its sequence number, its predecessor to the
same memory actor, the physical address. -/
structure MemReq where
  op : OpRef
  station : Nat
  seq : Nat
  pred : Option Nat
  actor : Nat
  pa : Nat
  kind : MemKind
  held : Bool
  deriving DecidableEq, Repr

/-- A reply of a memory actor, with the number of that actor and of the station at which it leaves the ring: the data read, or the old value of
an atomic or watch and its flag (R325); or the request itself, refused because the reorder store was full (R298). -/
structure MemReply where
  op : OpRef
  station : Nat
  actor : Nat
  seq : Nat
  data : List Byte
  flag : Nat
  again : Option MemReq
  deriving DecidableEq, Repr

/-- A watch registered at a station or waiting there (R326). -/
structure Watch where
  op : OpRef
  seq : Nat
  actor : Nat
  pa : Nat
  cond : Nat
  size : Nat
  unsigned_ : Bool
  d : Word64
  waiting : Bool
  deriving DecidableEq, Repr

/-- A fault notice (R302): identity, operation, tag, address, cause; 0 on its way, 1 passed to the owner, 2 answered, 3 withdrawn. -/
structure Notice where
  id : Nat
  op : OpRef
  tag : Nat
  va : Nat
  cause : Nat
  stage : Nat
  deriving DecidableEq, Repr

/-- An entry of a scope table with its void log (R194): four words, the log as pairs of edge name and token ordinal, and what a scope query
has been able to return since the table was loaded, oldest first: the updates that the occupancy tree carries to the tiles (R172). -/
structure ScopeEntry where
  words : Words
  log : List (Nat × Nat)
  trail : List Word64
  deriving DecidableEq, Repr

/-- A scope command of the host (R390). -/
inductive ScopeCmd where
  | seal | abort | release
  deriving DecidableEq, Repr

/-- Why a swatch stops (R192, R352): the cause, the tile and slot at fault, whether a firing of that slot faulted and may be voided, and
whether the owner has been told, and the inbox entry of the message that the firing served (R201). -/
structure StopInfo where
  cause : Nat
  tile : Nat
  slot : Nat
  firing : Bool
  message : Option Nat
  notified : Bool
  deriving DecidableEq, Repr

/-- Where a swatch stands (R26, R352, R353, R358). -/
inductive SwatchPhase where
  | casting
  | open_
  | stopping
  | stopped
  | bindingOff
  deriving DecidableEq, Repr

/-- A live swatch (R24 to R28, R202): launch record and where it lay, image header, cast-on segments not yet applied, gates, scope table, held
scope commands, seeds and host tokens not yet entered, the packet of a launch under way, the save asked for (its address and whether it is
urgent), a pre-emption that waits for moves of its actors (R353), whether HALTQ asked for it and whether it asked while the swatch was stopping
(R346), why it stops, whether it is parked, ordinals and credits of host edges, where paged records lie, the block positions of the edges of
evicted ones (R123) and the tiles to which moves have taken the ends of host edges (R208), and whether the save follows a stop. -/
structure Swatch where
  x0 : Nat
  y0 : Nat
  w : Nat
  h : Nat
  tag : Nat
  launch : Words
  launchVa : Nat
  orderDependent : Bool
  edgeCount : Nat
  phase : SwatchPhase
  gates : Bool
  paged : Bool
  segments : Map (Bool × List (Nat × Nat))
  scopes : Map ScopeEntry
  tableLoaded : Bool
  heldCmds : List (Hdr × ScopeCmd × Nat)
  seeds : List (Nat × Token)
  hostToks : List (Nat × Token)
  launchHdr : Option Hdr
  preempt : Option (Nat × Bool)
  preemptWait : Option (Nat × Bool)
  haltReq : Bool
  haltPending : Bool
  stop : Option StopInfo
  parked : Bool
  hostPushed : Map Nat
  hostFree : Map Nat
  recordTable : List (Nat × Nat × Nat)
  edgePos : Map Nat
  edgeTile : Map Nat
  afterStop : Bool
  deriving DecidableEq, Repr

/-- A queue pair (R389, R391): tag, rings, size, the sequence number of its latest packet, and the QDELETE packets that wait for it. -/
structure HostQueue where
  tag : Nat
  sub : Nat
  comp : Nat
  size : Nat
  lastSeq : Option Nat
  deleting : List Hdr
  deriving DecidableEq, Repr

/-- A completion entry (R389). -/
structure Completion where
  adapter : Nat
  queue : Nat
  seq : Nat
  status : Nat
  b9 : Nat
  b10 : Nat
  result : Nat
  deriving DecidableEq, Repr

/-- What the selvage tells the owner beside completions (R143, R149, R192, R302, R353, R354, R358, R364, R396). -/
inductive OwnerNotice where
  | stopped (swatch cause tile slot : Nat)
  | saved (swatch va len : Nat)
  | saveFailed (swatch len : Nat)
  | released (swatch : Nat)
  | lost (swatch : Nat)
  | fault (id : Nat)
  | withdrawn (id : Nat)
  | report (r : Report)
  | shortfall
  deriving DecidableEq, Repr

/-- A token delivered to the host on a host output edge (R188, R196). -/
structure HostToken where
  swatch : Nat
  edge : Nat
  tok : Token
  deriving DecidableEq, Repr

/-- A binding of a host edge to a peer module's edge (R394): the tokens that wait at the gateway for a credit, those that crossed and were not
returned, both in order, the credits left, and the slots that the gateway has returned to the peer for tokens that came from there. -/
structure Peer where
  swatch : Nat
  edge : Nat
  peer : Nat
  peerEdge : Nat
  waiting : List Token
  crossed : List Token
  credits : Nat
  returned : Nat
  down : Bool
  deriving DecidableEq, Repr

/-- The host side of the selvage (R389 to R394). A handover waits for the packets of owner class that were taken before it. -/
structure HostSide where
  queues : Map HostQueue
  completions : List Completion
  notices : List OwnerNotice
  delivered : List HostToken
  owner : Option Nat
  rootKey : Option Nat
  pending : List (Hdr × Nat × Nat)
  guilt : Map Nat
  limits : Map Nat
  barred : List Nat
  handovers : List (Nat × Hdr × List Hdr)
  peers : List Peer
  silent : List Nat
  deriving DecidableEq, Repr

/-- Power delivery as the selvage sees it (R396, R397), and the direct actors whose firings a power failure abandoned (R363). -/
structure Power where
  capPacket : Nat
  capGrid : Nat
  step : Nat
  clockDown : Nat
  shortfall : Bool
  failing : Bool
  aborted : List (Nat × Nat)
  deriving DecidableEq, Repr

/-- What board flash holds after a drain (R397): save images by swatch as bytes with the swatch, the swatches whose cast-on was under way and
which have no image, the selvage state, the copies and atomics that go on after a warm start and the direct actors that take cause 0x30
there (R363), persistent pages, the block positions of the edges of each image (log entry 31), the digest and signature of the stored remap
(R395), and those of the drain record, none where the charge did not last until it was written. -/
structure Flash where
  images : List (Nat × Swatch × List Byte)
  casting : List Nat
  guilt : Map Nat
  limits : Map Nat
  barred : List Nat
  owner : Option Nat
  errors : Map PhysTile
  binding : Map Nat
  hops : List (Nat × Map Word32 × Map Word32)
  copies : List (Nat × Copy)
  atomics : List (Nat × Atomic)
  aborted : List (Nat × Nat)
  persist : List (Nat × Nat)
  pages : Memory
  places : List (List Byte × Map Nat)
  remap : List Byte × List Byte
  record : Option (List Byte × List Byte)
  deriving DecidableEq, Repr

/-- The whole machine. places holds the block positions of the edges of each swatch that was saved, by its image, which has no room for them
(R23, R123, R356; log entry 31). -/
structure State where
  variant : Variant
  tick : Nat
  agenda : List Turn
  focus : Nat
  tiles : Map Tile
  scan : Scan
  binding : Map Nat
  phys : Map PhysTile
  links : Map Link
  net : List Packet
  rebinds : List Rebind
  nextMove : Nat
  probes : List Probe
  reports : List Report
  dram : Memory
  dramOrder : Order
  context : Nat
  stations : List Nat
  actors : List Nat
  xlations : Map (List Xlation)
  xprobes : List XlateProbe
  probeReplies : List ProbeReply
  memReqs : List MemReq
  memReplies : List MemReply
  performed : List (Nat × OpRef × Nat)
  watches : List Watch
  notices : List Notice
  nextNotice : Nat
  swatches : Map Swatch
  nextSwatch : Nat
  parity : Map Memory
  fieldCtr : Map Nat
  offsets : Map (Int × Nat × Int)
  gaugeGen : Nat
  grants : Map (List Nat)
  requests : List Nat
  host : HostSide
  power : Power
  persist : List (Nat × Nat)
  flash : Option Flash
  places : List (List Byte × Map Nat)
  startCount : Nat
  lastCold : Bool
  recovery : Bool
  coldNext : Bool
  layout : Nat
  firmware : Nat
  deriving DecidableEq, Repr

/-- The host side after a cold start: admin queues alone, no owner yet, no guilt (R391 to R393; log entry 5). -/
def HostSide.reset : HostSide :=
  { queues := [], completions := [], notices := [], delivered := [], owner := none, rootKey := none, pending := [], guilt := [], limits := [],
    barred := [], handovers := [], peers := [], silent := [] }

/-- No cap set and no shortfall (R339, R396). -/
def Power.reset : Power := { capPacket := 0, capGrid := 0, step := 0, clockDown := 0, shortfall := false, failing := false, aborted := [] }

/-- The service order before any access. -/
def Order.empty : Order := { hist := [], reads := [], last := Stamp.zero }

/-- The machine after a cold start (R395): every tile empty, SRAM and DRAM cleared, all stations and memory actors in service, no launch. An
unlisted key of a table reads as that table's default, which is the value at start. -/
def State.reset : State :=
  { variant := .w2, tick := 0, agenda := [], focus := 0, tiles := [], scan := { phys := [], links := [] }, binding := [], phys := [],
    links := [], net := [], rebinds := [],
    nextMove := 0, probes := [], reports := [], dram := [], dramOrder := Order.empty, context := 0, stations := List.range 64, actors := List.range 64,
    xlations := [], xprobes := [], probeReplies := [], memReqs := [], memReplies := [], performed := [], watches := [],
    notices := [], nextNotice := 0, swatches := [], nextSwatch := 1, parity := [], fieldCtr := [], offsets := [], gaugeGen := 0,
    grants := [], requests := [], host := HostSide.reset, power := Power.reset, persist := [], flash := none, places := [], startCount := 1, lastCold := true,
    recovery := false, coldNext := false, layout := 1, firmware := 0 }

end Sys2Proof.Machine
end

