-- ==== Sys2Proof/Machine/Place.lean ====
section
/-! DEFINITION. The physical array: tiles, the selvage, parity tiles and spares (R8, R11 to R14), links and their lanes (R12, R143), the paths
of logical hops (R133, R138), and the binding and the gauge that a cold start sets up (R395 step 2). -/

namespace Sys2Proof.Machine

/-! ### Logical tiles and nodes -/

/-- The number of a logical tile. -/
def tileId (x y : Nat) : Nat := 256 * y + x

def tileX (t : Nat) : Nat := t % 256
def tileY (t : Nat) : Nat := t / 256

/-- The node number of the selvage in the network. -/
def selvage : Nat := 65536

/-- Field columns of the variant (R11, R12). -/
def fieldCols : Variant → Nat
  | .w2_42 => 6 | _ => 8

/-- Width of the user mesh (R1). -/
def meshW : Variant → Nat
  | .w2_42 => 132 | _ => 176

/-- Parity groups, and as many parity tiles (R11, R14). -/
def parityTiles (v : Variant) : Nat := 25 * (meshW v / 4)

/-- The node number of the parity tile of a group. -/
def parityNode (g : Nat) : Nat := 65537 + g

/-- Everything that the remap build gives a host: the tiles of the user mesh and the parity tiles (R11). -/
def meshNodes (v : Variant) : List Nat :=
  ((List.range 200).flatMap fun y => (List.range (meshW v)).map fun x => tileId x y) ++ (List.range (parityTiles v)).map parityNode

/-- Memory actors, and as many stations (R1, R11). -/
def memActors : Variant → Nat
  | .w2_42 => 48 | _ => 64

/-- The stack that a memory actor serves (R296). -/
def stackOf (m : Nat) : Nat := m / 2

/-- Bytes of off-wafer memory: 24 or 32 stacks of 48 GiB, that is 1,152 GiB or 1.5 TiB (R11). -/
def memBytes : Variant → Nat
  | .w2_42 => 1236950581248 | _ => 1649267441664

/-- The logical tile through which station m is reached, at the north edge or the south (R296). -/
def gateway (v : Variant) (m : Nat) : Nat :=
  let n := memActors v / 2
  tileId ((2 * (m % n) + 1) * meshW v / (2 * n)) (if m < n then 0 else 199)

/-- Whether the logical mesh has a neighbour of t in a direction: n 0, e 1, s 2, w 3 (R126). -/
def State.hasNeighbour (s : State) (t dir : Nat) : Bool :=
  if dir = 0 then decide (0 < tileY t)
  else if dir = 1 then decide (tileX t + 1 < meshW s.variant)
  else if dir = 2 then decide (tileY t + 1 < 200)
  else decide (0 < tileX t)

/-- The neighbour in a direction. -/
def neighbour (t dir : Nat) : Nat :=
  if dir = 0 then t - 256 else if dir = 1 then t + 1 else if dir = 2 then t + 256 else t - 1

/-- The opposite direction. -/
def opposite (dir : Nat) : Nat := (dir + 2) % 4

/-! ### The physical array (R8, R11, R12); physical tile P(col,row) is 256 row + col -/

/-- Columns of the physical array; it has 210 rows (R11). -/
def gridW (v : Variant) : Nat := 24 * fieldCols v

def inGrid (v : Variant) (p : Nat) : Bool := decide (p % 256 < gridW v) && decide (p / 256 < 210)

/-- Whether a physical tile is one of the selvage: columns 0 to 3, which host no user tile (R8, R11, R18). -/
def inSelvage (p : Nat) : Bool := decide (p % 256 < 4)

/-- The physical tiles of the selvage. -/
def selvageGrid : List Nat := (List.range 210).flatMap fun y => [0, 1, 2, 3].map fun x => 256 * y + x

/-- Logical selvage tiles, and the spares that the selvage has beside them (R11). -/
def selvageLogical : Nat := 4 * 200
def selvageSpares : Nat := selvageGrid.length - selvageLogical

/-- Spare tiles outside the selvage (R11). -/
def userSpares (v : Variant) : Nat := 210 * gridW v - selvageGrid.length - (meshNodes v).length

/-- The field of a physical tile (R12). -/
def State.fieldOfPhys (s : State) (p : Nat) : Nat := (fieldCols s.variant) * (p / 256 / 30) + p % 256 / 24

def healthyPhys : PhysTile :=
  { setting := none, phasesLost := 0, keepAliveLost := false, retired := false, lost := false, errors := [], errorCount := 0, former := none }

def State.physTile (s : State) (p : Nat) : PhysTile := Map.get healthyPhys s.phys p

def healthyLink : Link := { failing := 0, badLanes := 0, diagnosing := false }

/-! ### Links and lanes (R12, R142, R143) -/

/-- The physical tile one hop from p: n 0, e 1, s 2, w 3 (R138). -/
def physStep (p dir : Nat) : Nat := if dir = 0 then p - 256 else if dir = 1 then p + 1 else if dir = 2 then p + 256 else p - 1

/-- Whether the array has a physical tile one hop from p in a direction. -/
def hasStep (v : Variant) (p dir : Nat) : Bool :=
  if dir = 0 then decide (0 < p / 256)
  else if dir = 1 then decide (p % 256 + 1 < gridW v)
  else if dir = 2 then decide (p / 256 + 1 < 210)
  else decide (0 < p % 256)

/-- Whether the link from p in a direction crosses a seam (R12). -/
def State.crossesSeam (s : State) (p dir : Nat) : Bool := !(s.fieldOfPhys p == s.fieldOfPhys (physStep p dir))

def State.link (s : State) (p dir : Nat) : Link := Map.get healthyLink s.links (4 * p + dir)

/-- Spare lanes of a link at start (R143). -/
def State.spares (s : State) (p dir : Nat) : Nat := if s.crossesSeam p dir then 16 else 4

/-- The lane state of a link: 0 full, 1 half, 2 down; a link is down too where a router at its ends has lost its keep-alive (R143, R350). -/
def State.laneState (s : State) (p dir : Nat) : Nat :=
  let working := 256 + s.spares p dir - (s.link p dir).badLanes
  if (s.physTile p).keepAliveLost || (s.physTile (physStep p dir)).keepAliveLost then 2
  else if 256 ≤ working then 0
  else if 128 ≤ working then 1 else 2

/-! ### Paths (R133, R138) -/

/-- The directions of the path in a gauge entry, HOPS + 1 of them, none where HOPS is 3. -/
def pathDirs (entry : Nat) : List Nat :=
  if bitField entry 0 2 = 3 then [] else ([10, 12, 14].map fun lo => bitField entry lo 2).take (bitField entry 0 2 + 1)

/-- The physical tiles along a path, each with the direction in which the path leaves it. -/
def pathLinks : Nat → List Nat → List (Nat × Nat)
  | _, [] => []
  | p, d :: ds => (p, d) :: pathLinks (physStep p d) ds

/-- Where a path ends. -/
def pathEnd : Nat → List Nat → Nat
  | p, [] => p
  | p, d :: ds => pathEnd (physStep p d) ds

/-- The lane state of a path: the worst of its links. -/
def State.dirsState (s : State) (p : Nat) (ds : List Nat) : Nat :=
  (pathLinks p ds).foldl (fun m e => max m (s.laneState e.1 e.2)) 0

/-- Every sequence of one to three directions. -/
def allDirs : List (List Nat) :=
  let one := [0, 1, 2, 3].map fun d => [d]
  let two := one.flatMap fun l => [0, 1, 2, 3].map fun d => l ++ [d]
  one ++ two ++ two.flatMap fun l => [0, 1, 2, 3].map fun d => l ++ [d]

/-- The legal paths from one physical tile to another: one to three hops inside the array, over links in service (R133, R143). -/
def State.legalDirs (s : State) (p q : Nat) : List (List Nat) :=
  allDirs.filter fun ds =>
    pathEnd p ds == q && (pathLinks p ds).all (fun e => hasStep s.variant e.1 e.2) && decide (s.dirsState p ds < 2)

/-! ### The binding (R13, R395 step 2) -/

/-- A place for every node, in rows: where no binding is one that R13 allows, and the start that would build it fails (R395). -/
def nominalHost (v : Variant) (n : Nat) : Nat :=
  if n < selvage then n + 4
  else 256 * (200 + (n - 65537) / (gridW v - 4)) + 4 + (n - 65537) % (gridW v - 4)

/-- Whether firmware may bind a node to a physical tile: in the array, no selvage tile, neither retired nor lost, its router in service (R11,
R13). -/
def State.hostable (s : State) (p : Nat) : Bool :=
  inGrid s.variant p && !inSelvage p && !(s.physTile p).retired && !(s.physTile p).lost && !(s.physTile p).keepAliveLost

/-- Whether a binding is one that R13 and R133 allow: every node has a working host of its own, and every logical hop a legal path. -/
def State.bindingOk (s : State) (host : Nat → Nat) : Bool :=
  (meshNodes s.variant).all (fun n => s.hostable (host n)) && decide ((meshNodes s.variant).map host).Nodup &&
    (meshNodes s.variant).all fun n =>
      !decide (n < selvage) || [0, 1, 2, 3].all fun d => !s.hasNeighbour n d || !(s.legalDirs (host n) (host (neighbour n d))).isEmpty

/-- The physical tiles of the array. -/
def gridTiles (v : Variant) : List Nat := (List.range 210).flatMap fun y => (List.range (gridW v)).map fun x => tileId x y

/-- The first binding that R13 and R133 allow, where there is one: a host is tried for each node of a list in turn. -/
def State.findBinding (s : State) : List Nat → List (Nat × Nat) → Option (List (Nat × Nat))
  | [], m => if s.bindingOk (Map.get 0 m) then some m else none
  | n :: ns, m => (gridTiles s.variant).findSome? fun p =>
    if s.hostable p && !(m.any fun e => e.2 == p) then s.findBinding ns (m ++ [(n, p)]) else none

/-- What the lane and tile scan of the latest cold start found, with no host rebound since. -/
def State.atScan (s : State) : State := { s with binding := [], phys := s.scan.phys, links := s.scan.links }

/-- The binding that a remap build finds: the free one where R13 and R133 allow it, else the first that they allow (R395; log entry 4). -/
def State.builtBinding (s : State) : Option (Nat → Nat) :=
  if s.bindingOk (Config.startBinding s.layout) then some (Config.startBinding s.layout)
  else (s.findBinding (meshNodes s.variant) []).map fun m => Map.get 0 m

/-- The host that the remap build of the latest cold start gave a node (R395; log entry 4). -/
def State.startHost (s : State) (n : Nat) : Nat := (s.atScan.builtBinding.getD (nominalHost s.variant)) n

/-- The physical tile that hosts a node: a logical tile, or the parity tile of a group (R13, R14). -/
def State.physOf (s : State) (n : Nat) : Nat := Map.get (s.startHost n) s.binding n

/-- Whether the physical tile of a node is lost, and no spare has taken its place (R13, R351). -/
def State.hostLost (s : State) (n : Nat) : Bool := !(n == selvage) && s.phys.any fun e => (e.2.lost || e.2.retired) && s.physOf n == e.1

/-- The field that hosts a logical tile (R12). -/
def State.fieldOf (s : State) (t : Nat) : Nat := s.fieldOfPhys (s.physOf t)

/-- The node that a physical tile hosts. -/
def State.nodeAt (s : State) (p : Nat) : Option Nat := (meshNodes s.variant).find? fun n => s.physOf n == p

/-- The parity group of a logical tile (R14). -/
def State.group (s : State) (t : Nat) : Nat := (meshW s.variant / 4) * (tileY t / 8) + tileX t / 4

/-- The tiles of a group (R14). -/
def State.groupMembers (s : State) (g : Nat) : List Nat :=
  let gw := meshW s.variant / 4
  (List.range 8).flatMap fun j => (List.range 4).map fun i => tileId (4 * (g % gw) + i) (8 * (g / gw) + j)

/-! ### Gauge entries (R127, R138) -/

/-- The lane state of the path that an entry of tile t gives. -/
def State.pathState (s : State) (t entry : Nat) : Nat := s.dirsState (s.physOf t) (pathDirs entry)

/-- Whether an entry gives a legal path for a logical hop (R133, R143). -/
def State.legalPath (s : State) (t dir entry : Nat) : Bool :=
  (s.legalDirs (s.physOf t) (s.physOf (neighbour t dir))).contains (pathDirs entry)

/-- A gauge entry: the path and the latency band as given, and spare lanes, seam, field and lane state as the links have them (R138). -/
def State.composeGauge (s : State) (t : Nat) (ds : List Nat) (band : Nat) : Nat :=
  let p := s.physOf t
  let spare := s.spares p (ds.getD 0 0) - (s.link p (ds.getD 0 0)).badLanes
  2 ^ 16 * spare + 2 ^ 14 * ds.getD 2 0 + 2 ^ 12 * ds.getD 1 0 + 2 ^ 10 * ds.getD 0 0 +
    2 ^ 9 * (if s.fieldOfPhys p = s.fieldOfPhys (pathEnd p ds) then 0 else 1) +
    2 ^ 8 * (if (pathLinks p ds).any fun e => s.crossesSeam e.1 e.2 then 1 else 0) + 2 ^ 6 * s.dirsState p ds + 2 ^ 2 * (band % 16) + (ds.length - 1)

/-- CW.NPTR for a logical neighbour (R127). -/
def State.composeNptr (s : State) (t dir hops : Nat) : Nat :=
  let p := s.physOf t
  let q := s.physOf (neighbour t dir)
  2 ^ 31 + 2 ^ 16 * hops + 2 ^ 8 * wrapInt 8 ((q / 256 : Int) - (p / 256 : Nat)) + wrapInt 8 ((q % 256 : Int) - (p % 256 : Nat))

/-- The legal path of a hop that a number picks, where it has one. -/
def State.pickPath (s : State) (t dir i : Nat) : Option (List Nat) :=
  let l := s.legalDirs (s.physOf t) (s.physOf (neighbour t dir))
  l[i % l.length]?

/-- The path of a hop after the latest cold start (R133; log entry 4). -/
def State.startDirs (s : State) (t dir : Nat) : List Nat := (s.atScan.pickPath t dir (Config.startPath s.layout t dir)).getD []

/-! ### Clock and supply (R16, R17, R350) -/

/-- A clock in steps of 12.5 MHz and a supply in mV, brought into the ranges of R16. -/
def clampClock (c : Nat × Nat) : Nat × Nat := (min (max c.1 36) 112, min (max c.2 550) 820)

/-- The nominal point, 1.05 GHz at 675 mV (R17). -/
def nominalClock : Nat × Nat := (84, 675)

/-- Firmware's setting of a physical tile's clock and supply (R17; log entry 4). -/
def State.clockSetting (s : State) (p : Nat) : Nat × Nat :=
  (s.physTile p).setting.getD (clampClock (Config.startClock s.layout p))

/-- Regulator phases left of four (R350). -/
def State.phasesLeft (s : State) (p : Nat) : Nat := 4 - (s.physTile p).phasesLost

/-- The clock that a tile may run at, in steps of 12.5 MHz, capped at p/4 of its setting (R350). -/
def State.clockCap (s : State) (p : Nat) : Nat := (s.clockSetting p).1 * s.phasesLeft p / 4

/-- Whether too few regulator phases are left: one or none, or a cap below 0.45 GHz (R350). -/
def State.tooWeak (s : State) (p : Nat) : Bool :=
  decide (s.phasesLeft p ≤ 1) || decide ((s.clockSetting p).1 * s.phasesLeft p < 4 * 36)

/-! ### Spares (R11, R143, R351) -/

/-- Whether a node could stand on a physical tile: hostable, hosting no node, strong enough, with legal paths over every logical hop from and
to the node's neighbours (R133, R143, R351). -/
def State.spareOk (s : State) (n p : Nat) : Bool :=
  s.hostable p && !s.tooWeak p && ([0, 1, 2, 3].all fun d =>
    !decide (n < selvage) || !s.hasNeighbour n d ||
      (!(s.legalDirs p (s.physOf (neighbour n d))).isEmpty && !(s.legalDirs (s.physOf (neighbour n d)) p).isEmpty)) &&
    (s.nodeAt p).isNone

/-- The physical tiles that three hops reach from p. -/
def near (v : Variant) (p : Nat) : List Nat :=
  ((allDirs.filter fun ds => (pathLinks p ds).all fun e => hasStep v e.1 e.2).map (pathEnd p)).eraseDups

/-- The spares a node could move to: for a logical tile they lie within three hops of a neighbour, for a parity tile anywhere. -/
def State.sparesFor (s : State) (n : Nat) : List Nat :=
  let cand :=
    if n < selvage then
      match [0, 1, 2, 3].find? fun d => s.hasNeighbour n d with
      | some d => near s.variant (s.physOf (neighbour n d))
      | none => []
    else gridTiles s.variant
  cand.filter (s.spareOk n)

/-- The spare that a node goes to: the one asked for where it fits, else one that firmware chooses of those that do (R143, R351; log entry
10). -/
def State.chooseSpare (s : State) (n hint : Nat) : Option Nat :=
  if s.spareOk n hint then some hint
  else
    let l := s.sparesFor n
    l[Config.spareChoice s.tick % l.length]?

end Sys2Proof.Machine
end

