-- ==== Sys2Proof/Machine/Record.lean ====
section
/-! DEFINITION. The empty tile and its parts, the fields of the node record (R154 to R160), of the stream record (R278), of the window
words (R210, R277, R312), of the launch record (R202) and of a scope entry (R194). -/

namespace Sys2Proof.Machine

/-- An empty slot (R158 code 0). -/
def emptySlot : Slot :=
  { record := [], swatch := 0, ordinal := 0, age := 0, attempts := 0, lastUid := 0, inq := [], outq := [] }

def emptyInQueue : InQueue := { toks := [], views := [], scales := [], pos := 0, refilling := [] }

def emptyOutQueue : OutQueue := { retained := [], pushed := 0, pos := 0, local_ := [] }

/-- Nothing that must come before. -/
def noReach : Reach := { dram := [], sram := Stamp.zero }

def freeEntry : InboxEntry :=
  { state := .free, owner := 0, stamp := 0, attempt := 0, swatch := 0, reach := noReach, words := [] }

def emptyEngine : Engine :=
  { pages := [], probing := none, outstanding := [], lastReq := [], seq := 0, attempt := 0, entry := 0, orphan := false,
    notice := none, swatch := 0, scope := 0, reach := noReach }

def emptyRun : StreamRun :=
  { eng := emptyEngine, begun := 0, filling := [], drained := 0, kept := 0, keptSeq := 0, since := [], redo := [], sbar := [], stopStatus := 0, outerOnly := false, voiding := false,
    marked := false }

def emptyMatReg : MatReg := { storage := [], shape := none, scales := [], index := [], valid := false }

def emptyAcc : Acc := { elems := [], anchor := 0, satFlag := false, invFlag := false }

/-- A user tile after a cold start (R395): SRAM cleared, every slot empty, every inbox entry free. -/
def emptyTile : Tile :=
  { sram := [], order := Order.empty, coreSeen := Stamp.zero, engineSeen := Stamp.zero, coreAcq := Stamp.zero,
    fetchAcq := Stamp.zero, fetchSeen := Stamp.zero, view := [], ended := [],
    poisoned := [], uncorrectable := [], singleError := [], slots := [], inbox := [], stamp := 0, streams := [], keptStreams := [],
    runs := [], barred := [], copies := [], atomics := [], nextOp := 0, sems := [], barriers := [], barInfo := [], cwords := [], gauge := [], nptr := [], edgeTab := [],
    scopeCopy := [], cycles := 0, gating := .running, array := .idle, rampFrom := 0, matOps := [], lastFired := 16, fired := false, nextUid := 1,
    firing := none, debugLog := [], poolUsed := 0 }

def emptyBarInfo : BarInfo := { swatch := 0, coming := [], done := [] }

def State.tile (s : State) (t : Nat) : Tile := Map.get emptyTile s.tiles t

/-- The gauge entry of a hop: as last written, else as measured at start (R138, R139). -/
def State.gaugeOf (s : State) (t dir : Nat) : Word32 :=
  Map.get (BitVec.ofNat 32 (s.atScan.composeGauge t (s.startDirs t dir) (Config.startBand s.layout t dir))) (s.tile t).gauge dir

/-- CW.NPTR of a hop: as last written, else as set at start (R127). -/
def State.nptrOf (s : State) (t dir : Nat) : Word32 :=
  Map.get (BitVec.ofNat 32 (s.atScan.composeNptr t dir ((s.startDirs t dir).length - 1))) (s.tile t).nptr dir

def State.setTile (s : State) (t : Nat) (x : Tile) : State := { s with tiles := Map.set s.tiles t x }

def State.modTile (s : State) (t : Nat) (f : Tile → Tile) : State := s.setTile t (f (s.tile t))

def Tile.slot (x : Tile) (k : Nat) : Slot := Map.get emptySlot x.slots k

def Tile.setSlot (x : Tile) (k : Nat) (v : Slot) : Tile := { x with slots := Map.set x.slots k v }

def Tile.modSlot (x : Tile) (k : Nat) (f : Slot → Slot) : Tile := x.setSlot k (f (x.slot k))

def State.slot (s : State) (t k : Nat) : Slot := (s.tile t).slot k

def State.modSlot (s : State) (t k : Nat) (f : Slot → Slot) : State := s.modTile t fun x => x.modSlot k f

def Slot.inQueue (k : Slot) (p : Nat) : InQueue := Map.get emptyInQueue k.inq p

def Slot.outQueue (k : Slot) (p : Nat) : OutQueue := Map.get emptyOutQueue k.outq p

def Slot.setInQueue (k : Slot) (p : Nat) (q : InQueue) : Slot := { k with inq := Map.set k.inq p q }

def Slot.setOutQueue (k : Slot) (p : Nat) (q : OutQueue) : Slot := { k with outq := Map.set k.outq p q }

/-! Node record (R154 to R160). -/

def Slot.handler (k : Slot) : Nat := Words.field k.record 0 0 22
def Slot.budget (k : Slot) : Nat := Words.field k.record 1 16 16
def Slot.scopeNo (k : Slot) : Nat := Words.field k.record 1 8 8
def Slot.disp (k : Slot) : Nat := Words.field k.record 1 6 2
def Slot.cls (k : Slot) : Nat := Words.field k.record 1 4 2
def Slot.prio (k : Slot) : Nat := Words.field k.record 1 0 4
def Slot.aflags (k : Slot) : Nat := Words.field k.record 2 20 6
def Slot.kindCode (k : Slot) : Nat := Words.field k.record 2 13 3
def Slot.tag (k : Slot) : Nat := Words.field k.record 2 0 13
def Slot.loopWait (k : Slot) : Bool := Words.field k.record 3 26 1 == 1
def Slot.isExit (k : Slot) : Bool := Words.field k.record 3 25 1 == 1
def Slot.loopClosed (k : Slot) : Bool := Words.field k.record 3 24 1 == 1
def Slot.discard (k : Slot) : Nat := Words.field k.record 3 16 8
def Slot.permits (k : Slot) : Nat := Words.field k.record 3 8 8
def Slot.loopK (k : Slot) : Nat := Words.field k.record 3 0 8
def Slot.firedCount (k : Slot) : Nat := Words.dword k.record 4
def Slot.voidedCount (k : Slot) : Nat := Words.word k.record 6
def Slot.retries (k : Slot) : Nat := Words.field k.record 7 0 16
def Slot.lastCause (k : Slot) : Nat := Words.field k.record 7 16 8
def Slot.stateCode (k : Slot) : Nat := Words.field k.record 7 24 8

def Slot.setRec (k : Slot) (w lo n v : Nat) : Slot := { k with record := Words.setField k.record w lo n v }

def Slot.setState (k : Slot) (code : Nat) : Slot := k.setRec 7 24 8 code

def Slot.setCause (k : Slot) (cause : Nat) : Slot := k.setRec 7 16 8 cause

/-- The number of words of a width code (R159). -/
def widthWords (code : Nat) : Nat := 2 ^ code

def Slot.inDecl (k : Slot) (p : Nat) : Bool := decide (p < 8) && Words.field k.record (8 + 3 * p) 5 1 == 1
def Slot.inMax (k : Slot) (p : Nat) : Nat := Words.field k.record (8 + 3 * p) 24 8
def Slot.inReq (k : Slot) (p : Nat) : Nat := Words.field k.record (8 + 3 * p) 16 8
def Slot.inScaled (k : Slot) (p : Nat) : Bool := Words.field k.record (8 + 3 * p) 4 1 == 1
def Slot.inBounded (k : Slot) (p : Nat) : Bool := Words.field k.record (8 + 3 * p) 3 1 == 1
def Slot.inWidth (k : Slot) (p : Nat) : Nat := widthWords (Words.field k.record (8 + 3 * p) 0 3)
def Slot.inSlots (k : Slot) (p : Nat) : Nat := Words.field k.record (9 + 3 * p) 16 16
def Slot.inEdge (k : Slot) (p : Nat) : Nat := Words.field k.record (9 + 3 * p) 0 16
def Slot.popped (k : Slot) (p : Nat) : Nat := Words.word k.record (10 + 3 * p)

def Slot.dest (k : Slot) (p : Nat) : Nat := Words.word k.record (32 + 4 * p)
def Slot.outMax (k : Slot) (p : Nat) : Nat := Words.field k.record (33 + 4 * p) 16 8
def Slot.outDecl (k : Slot) (p : Nat) : Bool := decide (p < 8) && Words.field k.record (33 + 4 * p) 13 1 == 1
def Slot.outScaled (k : Slot) (p : Nat) : Bool := Words.field k.record (33 + 4 * p) 12 1 == 1
def Slot.outBounded (k : Slot) (p : Nat) : Bool := Words.field k.record (33 + 4 * p) 11 1 == 1
def Slot.outWidth (k : Slot) (p : Nat) : Nat := widthWords (Words.field k.record (33 + 4 * p) 8 3)
def Slot.outHost (k : Slot) (p : Nat) : Bool := Words.field k.record (33 + 4 * p) 7 1 == 1
def Slot.dport (k : Slot) (p : Nat) : Nat := Words.field k.record (33 + 4 * p) 4 3
def Slot.dslot (k : Slot) (p : Nat) : Nat := Words.field k.record (33 + 4 * p) 0 4
def Slot.free (k : Slot) (p : Nat) : Nat := Words.field k.record (34 + 4 * p) 16 16
def Slot.outEdge (k : Slot) (p : Nat) : Nat := Words.field k.record (34 + 4 * p) 0 16
def Slot.retBase (k : Slot) (p : Nat) : Nat := Words.word k.record (35 + 4 * p)

def Slot.setFree (k : Slot) (p v : Nat) : Slot := k.setRec (34 + 4 * p) 16 16 v

def Slot.setPopped (k : Slot) (p v : Nat) : Slot := { k with record := Words.setWord k.record (10 + 3 * p) v }

def Slot.setRetBase (k : Slot) (p v : Nat) : Slot := { k with record := Words.setWord k.record (35 + 4 * p) v }

/-- The eight port numbers. -/
def ports : List Nat := [0, 1, 2, 3, 4, 5, 6, 7]

def Slot.inPorts (k : Slot) : List Nat := ports.filter k.inDecl

def Slot.outPorts (k : Slot) : List Nat := ports.filter k.outDecl

/-- Loaded slots of a tile, by number. -/
def Tile.loaded (x : Tile) : List Nat := (Map.keys x.slots).filter fun k => !((x.slot k).stateCode == 0)

/-! Control words of the configuration (R210, R277, R312). -/

def Tile.cword (x : Tile) (n : Nat) : Nat := (Map.get 0 x.cwords n).toNat

def Tile.pwin (x : Tile) (k : Nat) : Nat := x.cword (0x040 + k)
def Tile.swin (x : Tile) (k : Nat) : Nat := x.cword (0x060 + k)
def winBase (w : Nat) : Nat := bitField w 0 12
def winLen (w : Nat) : Nat := bitField w 12 12
def Tile.strBase (x : Tile) (k : Nat) : Nat := bitField (x.cword (0x0A0 + k)) 0 5
def Tile.strCount (x : Tile) (k : Nat) : Nat := bitField (x.cword (0x0A0 + k)) 5 5
def Tile.semBase (x : Tile) (k : Nat) : Nat := bitField (x.cword (0x0C0 + k)) 0 5
def Tile.semCount (x : Tile) (k : Nat) : Nat := bitField (x.cword (0x0C0 + k)) 5 6

/-- The first granule of the system region: set at start (R210; log entry 4), and by a KIND 3 command. -/
def Tile.sysb (x : Tile) (t : Nat) : Nat := (Map.get (BitVec.zeroExtend 32 (Config.startSysb t)) x.cwords 0x05F).toNat

/-- CW.CAP of the variant (R338). -/
def variantCap : Variant → Nat
  | .w2 => 0x00010807 | .w2_42 => 0x00010617 | .w2q => 0x00010820

/-! Swatches (R24, R202) and scopes (R194). -/

def emptySwatch : Swatch :=
  { x0 := 0, y0 := 0, w := 0, h := 0, tag := 0, launch := [], launchVa := 0, orderDependent := false, edgeCount := 0, phase := .casting,
    gates := false, paged := false, segments := [], scopes := [], tableLoaded := false, heldCmds := [], seeds := [], hostToks := [],
    launchHdr := none, preempt := none, preemptWait := none, haltReq := false, haltPending := false, stop := none, parked := false,
    hostPushed := [], hostFree := [], recordTable := [], edgePos := [], edgeTile := [], afterStop := false }

def State.swatch (s : State) (n : Nat) : Swatch := Map.get emptySwatch s.swatches n

def State.setSwatch (s : State) (n : Nat) (w : Swatch) : State := { s with swatches := Map.set s.swatches n w }

def State.modSwatch (s : State) (n : Nat) (f : Swatch → Swatch) : State := s.setSwatch n (f (s.swatch n))

/-- Whether a swatch of that number is live. -/
def State.liveSwatch (s : State) (n : Nat) : Bool := (Map.find s.swatches n).isSome

/-- The tiles of a swatch, in row order. -/
def Swatch.tiles (w : Swatch) : List Nat :=
  (List.range w.h).flatMap fun j => (List.range w.w).map fun i => tileId (w.x0 + i) (w.y0 + j)

/-- The tile at a relative name from tile t within a swatch, where it lies inside (R7, R132). -/
def Swatch.rel (w : Swatch) (t : Nat) (a : Nat) : Option Nat :=
  let x := (tileX t : Int) + relDx a
  let y := (tileY t : Int) + relDy a
  if (w.x0 : Int) ≤ x ∧ x < w.x0 + w.w ∧ (w.y0 : Int) ≤ y ∧ y < w.y0 + w.h then some (tileId x.toNat y.toNat) else none

/-- Word i of the launch record that says level i's domain, where the level is declared (R202). -/
def Swatch.level (w : Swatch) (i : Nat) : Option Nat :=
  if i < 8 ∧ Words.field w.launch 8 (4 * i + 3) 1 = 1 then some (Words.field w.launch 8 (4 * i) 3) else none

def emptyScope : ScopeEntry := { words := [], log := [], trail := [] }

def Swatch.scope (w : Swatch) (n : Nat) : ScopeEntry := Map.get emptyScope w.scopes n

def ScopeEntry.parent (e : ScopeEntry) : Nat := Words.field e.words 0 8 8
def ScopeEntry.stateCode (e : ScopeEntry) : Nat := Words.field e.words 0 0 3
def ScopeEntry.voids (e : ScopeEntry) : Nat := Words.word e.words 1

/-- What a scope query returns of an entry (R172, R194); 0 for a free one. -/
def ScopeEntry.value (e : ScopeEntry) : Word64 := if e.stateCode = 0 then 0 else BitVec.ofNat 64 (Words.dword e.words 0)

/-- The entry with the update that the tree sends where what a query returns has changed (R172). -/
def ScopeEntry.publish (e : ScopeEntry) : ScopeEntry :=
  if e.trail.getLast?.getD 0 = e.value then e else { e with trail := e.trail ++ [e.value] }

/-- What the first p updates of an entry left a tile's copy at. -/
def ScopeEntry.valueAt (e : ScopeEntry) (p : Nat) : Word64 := if p = 0 then 0 else e.trail.getD (p - 1) 0

def Swatch.setScope (w : Swatch) (n : Nat) (e : ScopeEntry) : Swatch := { w with scopes := Map.set w.scopes n e.publish }

def ScopeEntry.setState (e : ScopeEntry) (code : Nat) : ScopeEntry := { e with words := Words.setField e.words 0 0 3 code }

/-! Stream records (R278, R280). -/

def Tile.stream (x : Tile) (k : Nat) : Words := Map.get [] x.streams k

def Tile.setStream (x : Tile) (k : Nat) (r : Words) : Tile := { x with streams := Map.set x.streams k r }

def Tile.run (x : Tile) (k : Nat) : StreamRun := Map.get emptyRun x.runs k

def Tile.setRun (x : Tile) (k : Nat) (r : StreamRun) : Tile := { x with runs := Map.set x.runs k r }

def strState (r : Words) : Nat := Words.field r 0 0 3
def strOwner (r : Words) : Nat := Words.field r 0 16 5
def strLstat (r : Words) : Nat := Words.field r 0 8 8
def strStart (r : Words) : Nat := Words.word r 1
def strSrcBase (r : Words) : Nat := Words.dword r 2
def strDstBase (r : Words) : Nat := Words.dword r 4
def strSrcKind (r : Words) : Nat := Words.field r 6 0 2
def strSrcFmt (r : Words) : Nat := Words.field r 6 2 4
def strSrcSet (r : Words) : Bool := Words.field r 6 6 1 == 1
def strSrcParam (r : Words) : Nat := Words.word r 7
def strDstKind (r : Words) : Nat := Words.field r 8 0 2
def strDstFmt (r : Words) : Nat := Words.field r 8 2 4
def strDstSet (r : Words) : Bool := Words.field r 8 6 1 == 1
def strDstParam (r : Words) : Nat := Words.word r 9
def strCount (r : Words) (k : Nat) : Nat := Words.field r (10 + 2 * k) 0 24
def strStride (r : Words) (k : Nat) : Int := sextInt 32 (Words.word r (11 + 2 * k))
def strIndex (r : Words) (k : Nat) : Nat := Words.field r (18 + k) 0 24
def strPerformed (r : Words) : Nat := Words.dword r 22
def strTokens (r : Words) : Nat := Words.word r 24
def strVoids (r : Words) : Nat := Words.word r 25
def strPauses (r : Words) : Nat := Words.word r 27

/-- The record of a stream as it stands written to the retention area (R278). -/
def Tile.keepStream (x : Tile) (k : Nat) : Tile := { x with keptStreams := Map.set x.keptStreams k (x.stream k) }

/-! Reserved fields (R5): they read as zero, whatever is written to them. -/

/-- The bits of word i of a node record that are not reserved (R154 to R160). -/
def recordMask (i : Nat) : Nat :=
  if i = 0 then 0x003FFFFC
  else if i = 2 then 0x03FFFFFF
  else if i = 3 then 0x07FFFFFF
  else if 8 ≤ i ∧ i < 32 ∧ i % 3 = 2 then 0xFFFF003F
  else if 32 ≤ i ∧ i % 4 = 1 then 0x00FF3FFF
  else 0xFFFFFFFF

/-- The bits of word i of a stream record that are not reserved (R278). -/
def streamMask (i : Nat) : Nat :=
  if i = 0 then 0x001FFF87
  else if i = 6 ∨ i = 8 then 0x7F
  else if i = 10 ∨ i = 12 ∨ i = 14 ∨ i = 16 ∨ (18 ≤ i ∧ i < 22) then 0x00FFFFFF
  else if 28 ≤ i then 0
  else 0xFFFFFFFF

/-- The bits of word i of a scope entry that are not reserved (R194). -/
def scopeMask (i : Nat) : Nat := if i = 0 then 0xFFF7 else if i = 1 then 0xFFFFFFFF else if i = 2 then 0x7F else 0xFF

/-- The bits of configuration word n of a slot that are not reserved: the two windows, the streams and the semaphores (R210, R277, R312). -/
def grantMask (n : Nat) : Nat := if n < 2 then 0xFFFFFF else if n = 2 then 0x3FF else 0x7FF

/-- The first n words of a list as a record, reserved bits zero. -/
def maskedWords (mask : Nat → Nat) (l : List Nat) : Words := Words.ofList (l.zipIdx.map fun e => e.1 &&& mask e.2)

def setStrState (r : Words) (code : Nat) : Words := Words.setField r 0 0 3 code

end Sys2Proof.Machine
end

