-- ==== Sys2Proof/Machine/Order.lean ====
section
/-! DEFINITION. The service order of a memory node (R329 to R332): where a read or a write that the rules leave unordered with others may
stand among them, and what it finds or leaves there. -/

namespace Sys2Proof.Machine

/-! ### Places -/

def Stamp.lt (a b : Stamp) : Bool := decide (a.num * 2 ^ b.exp < b.num * 2 ^ a.exp)

def Stamp.max (a b : Stamp) : Stamp := if a.lt b then b else a

/-- A whole place after a. -/
def Stamp.next (a : Stamp) : Stamp := { num := a.num / 2 ^ a.exp + 1, exp := 0 }

/-- A place between a and b. -/
def Stamp.mid (a b : Stamp) : Stamp :=
  let e := Nat.max a.exp b.exp
  { num := a.num * 2 ^ (e - a.exp) + b.num * 2 ^ (e - b.exp), exp := e + 1 }

/-! ### The writes of a range -/

/-- Whether n bytes from a and m bytes from b have a byte in common. -/
def meets (a n b m : Nat) : Bool := decide (b < a + n) && decide (a < b + m)

def Kept.touches (e : Kept) (node a n : Nat) : Bool := e.node == node && meets a n e.addr e.old.length

/-- The places of the writes to a range that stand after a floor. -/
def Order.writesAfter (o : Order) (floor : Stamp) (node a n : Nat) : List Stamp :=
  (o.hist.filter fun e => e.touches node a n && floor.lt e.stamp).map (·.stamp)

/-- The place of the latest core store to a range among those that a test admits. -/
def Order.coreStores (o : Order) (node a n : Nat) (ok : Kept → Bool) : List Stamp :=
  (o.hist.filter fun e => e.core && e.touches node a n && ok e).map (·.stamp)

/-! ### Reads (R332) -/

/-- The place of a read that must stand after a floor, where the writes to its bytes after the floor stand at l: before the latest c of them. -/
def readPlace (l : List Stamp) (floor : Stamp) (c : Nat) : Stamp :=
  if l.isEmpty then floor else ((l.take (l.length - c % (l.length + 1))).getLast?).getD floor

/-- The byte at an address as the writes up to place p left it; now is what the last of them left. -/
def Order.byteAt (o : Order) (p : Stamp) (node a : Nat) (now : Byte) : Byte :=
  match o.hist.find? fun e => e.touches node a 1 && p.lt e.stamp with
  | some e => e.old.getD (a - e.addr) 0
  | none => now

/-- A read kept at its place; one before every write binds nothing. -/
def Order.noteRead (o : Order) (p : Stamp) (node a n : Nat) : Order :=
  if p = Stamp.zero then o
  else
    { o with reads := { place := p, node := node, addr := a, len := n } ::
        o.reads.filter fun r => !(r.node == node && r.addr == a && r.len == n && !p.lt r.place) }

/-! ### Writes (R332) -/

/-- Where a write must stand after: a floor, and the reads of its bytes so far, which did not find it. -/
def Order.writeFloor (o : Order) (floor : Stamp) (node a n : Nat) : Stamp :=
  o.reads.foldl (fun m r => if r.node == node && meets a n r.addr r.len then m.max r.place else m) floor

/-- The place of a new write that must stand after a floor: before the latest c of the node's writes that stand after it. -/
def Order.newStamp (o : Order) (floor : Stamp) (node c : Nat) : Stamp :=
  let l := (o.hist.filter fun e => e.node == node && floor.lt e.stamp).map (·.stamp)
  if l.isEmpty then (floor.max o.last).next
  else
    let before := l.take (l.length - c % (l.length + 1))
    match l.drop before.length with
    | [] => (floor.max o.last).next
    | next :: _ => Stamp.mid ((before.getLast?).getD floor) next

/-- Bytes with their addresses, from a up. -/
def byteCells (a : Nat) (bs : List Byte) : List (Nat × Byte) := bs.zipIdx.map fun e => (a + e.2, e.1)

/-- A kept write that found bytes of a list where it touches them. -/
def Kept.found (e : Kept) (node : Nat) (cells : List (Nat × Byte)) : Kept :=
  { e with old := (cells.filter fun b => e.touches node b.1 1).foldl (fun l b => l.set (b.1 - e.addr) b.2) e.old }

/-- Bytes written before the writes of a list: each is what the first of them to touch it found. -/
def replacedBy (node : Nat) : List Kept → List (Nat × Byte) → List Kept
  | [], _ => []
  | e :: es, cells => e.found node cells :: replacedBy node es (cells.filter fun b => !e.touches node b.1 1)

/-- A write put at a place, where its bytes held old. -/
def Order.insert (o : Order) (p : Stamp) (node a : Nat) (old bs : List Byte) (core : Bool) : Order :=
  { o with
    hist := (o.hist.filter fun e => !p.lt e.stamp) ++ { stamp := p, node := node, addr := a, old := old, core := core } ::
      replacedBy node (o.hist.filter fun e => p.lt e.stamp) (byteCells a bs)
    last := o.last.max p }

/-- The bytes of a write at place p that no later write has replaced already: those that memory holds after it. -/
def Order.standing (o : Order) (p : Stamp) (node a : Nat) (bs : List Byte) : List (Nat × Byte) :=
  (byteCells a bs).filter fun b => !(o.hist.any fun e => e.touches node b.1 1 && p.lt e.stamp)

/-- Bytes that every access to come finds, wherever it stands. -/
def Order.overlay (o : Order) (node a : Nat) (bs : List Byte) : Order :=
  { o with hist := o.hist.map fun e => e.found node (byteCells a bs) }

/-- Every access so far in its final place: what follows finds memory as it is. -/
def Order.settle (o : Order) : Order := { o with hist := [], reads := [] }

/-- Bytes written one by one. -/
def Memory.writeCells (m : Memory) (cells : List (Nat × Byte)) : Memory := cells.foldl (fun m e => Memory.write m e.1 e.2) m

/-! ### What comes before what (R330, R331) -/

/-- Two views together. -/
def View.join (v w : View) : View := w.foldl (fun v e => Map.set v e.1 ((Map.get Stamp.zero v e.1).max e.2)) v

/-- What comes before one of two operations. -/
def Reach.join (a b : Reach) : Reach := { dram := View.join a.dram b.dram, sram := a.sram.max b.sram }

/-- The accesses to DRAM of a view alone. -/
def View.reach (v : View) : Reach := { noReach with dram := v }

end Sys2Proof.Machine
end

