-- ==== Sys2Proof/Machine/Ops.lean ====
section
/-! DEFINITION. The named operations over memory, queues, the inbox, scopes and firings that the meanings share, among them taking an
exception (R185), its return beside it (R342), and the void commit (R186). -/

namespace Sys2Proof.Machine

/-- The outcome of a step. -/
abbrev Out := Host.Outcome State Fault Refusal

/-! ### Local memory -/

/-- The owner of a granule (R212, R276). -/
inductive Place where
  | own (k : Nat) | scratch (k : Nat) | unowned | system
  deriving DecidableEq, Repr

def inWindow (w g : Nat) : Bool := decide (winBase w ≤ g) && decide (g < winBase w + winLen w)

/-- The sixteen slots and the inbox actor slot. -/
def slotNumbers : List Nat := [0, 1, 2, 3, 4, 5, 6, 7, 8, 9, 10, 11, 12, 13, 14, 15, 16]

/-- The place of a byte of the SRAM window (R210, R212). -/
def Tile.place (x : Tile) (t a : Nat) : Place :=
  match slotNumbers.find? fun k => inWindow (x.pwin k) (a / 1024) with
  | some k => .own k
  | none =>
    match slotNumbers.find? fun k => inWindow (x.swin k) (a / 1024) with
    | some k => .scratch k
    | none => if x.sysb t ≤ a / 1024 then .system else .unowned

/-- Whether a byte lies in a protected window, and so under parity (R211). -/
def Tile.isProtected (x : Tile) (a : Nat) : Bool := slotNumbers.any fun k => inWindow (x.pwin k) (a / 1024)

/-! #### The service order of a tile's SRAM (R220, R221, R329 to R332) -/

/-- The byte at an address as the writes up to place p of the service order left it. -/
def Tile.byteAt (x : Tile) (p : Stamp) (a : Nat) : Byte := x.order.byteAt p 0 a (Memory.read x.sram a)

/-- The n bytes from a as the writes up to place p left them. -/
def Tile.bytesAt (x : Tile) (p : Stamp) (a n : Nat) : List Byte := (List.range n).map fun i => x.byteAt p (a + i)

/-- The place of a core read of n bytes: after everything in C of R330, before the latest c of the engine writes that are not. -/
def Tile.corePlace (x : Tile) (c a n : Nat) : Stamp := readPlace (x.order.writesAfter x.coreSeen 0 a n) x.coreSeen c

/-- A core read made at its place: every later core access comes after it, and no write to its bytes may be put before it (R330). -/
def Tile.seeRead (x : Tile) (p : Stamp) (a n : Nat) : Tile :=
  { x with coreSeen := x.coreSeen.max p, order := x.order.noteRead p 0 a n }

/-- The latest core store to a byte but one: where several stores to a byte wait to be ordered before an engine read, the read may come before
the last of them alone (R370, last row but one; log entry 8). -/
def Tile.olderStore (x : Tile) (a : Nat) : Stamp :=
  ((x.order.coreStores 0 a 1 fun _ => true).dropLast.getLast?).getD Stamp.zero

/-- The place of an engine read of n bytes: after everything that comes before it by R331, before the latest c of the writes that do not. -/
def Tile.enginePlace (x : Tile) (seen : Stamp) (c a n : Nat) : Stamp :=
  let floor := (List.range n).foldl (fun m i => m.max (x.olderStore (a + i))) seen
  readPlace (x.order.writesAfter floor 0 a n) floor c

/-- Bytes written at a place of the service order: SRAM holds those that no later write has replaced. -/
def Tile.putBytes (x : Tile) (p : Stamp) (a : Nat) (bs : List Byte) (core : Bool) : Tile :=
  { x with
    sram := Memory.writeCells x.sram (x.order.standing p 0 a bs)
    order := x.order.insert p 0 a (x.bytesAt p a bs.length) bs core }

/-- The place of a write of n bytes that must come after a floor: after the reads of its bytes and the core stores to them as well, which are
older (R220) and which an engine write does not pass (R370, last row but one; log entry 8), and before the latest c of the other writes. -/
def Tile.writeStamp (x : Tile) (floor : Stamp) (c a n : Nat) : Stamp :=
  x.order.newStamp ((x.order.coreStores 0 a n fun _ => true).foldl Stamp.max (x.order.writeFloor floor 0 a n)) 0 c

/-- A core store, performed whole at issue, which must come after a floor; every later core access comes after it (R220, R221, R330; log entry
8). -/
def Tile.storeAfter (x : Tile) (floor : Stamp) (c a : Nat) (bs : List Byte) : Tile :=
  let p := x.writeStamp floor c a bs.length
  { x.putBytes p a bs true with coreSeen := x.coreSeen.max p }

/-- A core store after everything in C. -/
def Tile.coreStore (x : Tile) (c a : Nat) (bs : List Byte) : Tile := x.storeAfter x.coreSeen c a bs

/-- Bytes of SRAM that every access to come finds: those that the configuration gives a tile and the words of a barrier slot (R204, R205,
R316). -/
def Tile.setBytes (x : Tile) (a : Nat) (bs : List Byte) : Tile :=
  { x with sram := Memory.writeN x.sram a bs, order := x.order.overlay 0 a bs }

/-- FENCE.XPATH: what comes before the core's next access comes before the next engine operation too (R327, R328, R330). -/
def Tile.crossPath (x : Tile) : Tile := { x with engineSeen := x.engineSeen.max x.coreSeen }

/-- FENCE.CORE: the instructions that follow are fetched after every older core store, and after the engine writes that are in C (R112, R327). -/
def Tile.refetch (x : Tile) : Tile := { x with fetchSeen := x.coreSeen, fetchAcq := x.coreAcq }

/-- Accesses put before everything that the tile issues from here on (R330). -/
def Tile.acquire (x : Tile) (r : Reach) : Tile :=
  { x with
    view := View.join x.view r.dram, coreSeen := x.coreSeen.max r.sram, engineSeen := x.engineSeen.max r.sram
    coreAcq := x.coreAcq.max r.sram }

/-- What the senders of the tokens that the running firing has entered had before them (R114, R330). -/
def Tile.entered (x : Tile) : View :=
  match x.firing with
  | none => []
  | some f => f.cursors.foldl (fun v e =>
      let sl := x.slot f.slot
      ((sl.inQueue e.1).views.take (ceilDiv e.2 (sl.inWidth e.1))).foldl View.join v) []

/-- What comes before the next engine operation in DRAM: what the tile has acquired, and what the tokens entered bring. -/
def Tile.viewNow (x : Tile) : View := View.join x.view x.entered

/-- What the tokens entered bring is kept beyond the firing. -/
def Tile.keepEntered (x : Tile) : Tile := { x with view := x.viewNow }

/-- What comes before the accesses of an engine operation issued now: E of R330. -/
def Tile.issueReach (x : Tile) : Reach := { dram := x.viewNow, sram := x.engineSeen }

/-- How far the accesses of an ended operation reached noted under a number of its own. -/
def Tile.noteEnded (x : Tile) (key : Nat) (r : Reach) : Tile :=
  { x with ended := Map.set x.ended key (Reach.join (Map.get noReach x.ended key) r) }

/-- The pieces of at most k bytes of the n bytes from a. -/
def chunks (k a n : Nat) : List (Nat × Nat) := (List.range ((n + k - 1) / k)).map fun i => (a + k * i, min k (n - k * i))

/-! #### Words in error (R223, R224) -/

/-- The word addresses that n bytes from a touch. -/
def wordsTouched (a n : Nat) : List Nat :=
  if n = 0 then [] else (List.range ((a + n - 1) / 4 - a / 4 + 1)).map fun i => 4 * (a / 4 + i)

/-- Words taken out of the kept writes and reads: every access finds of them what SRAM holds. -/
def Tile.settleWords (x : Tile) (ws : List Nat) : Tile :=
  let apart := fun a n => !(wordsTouched a n).any ws.contains
  { x with order := { x.order with
      hist := x.order.hist.filter fun e => apart e.addr e.old.length, reads := x.order.reads.filter fun r => apart r.addr r.len } }

/-- The check bits after a write of n bytes: whole words lose their poison and their errors, and a bad word written in part stays poisoned
(R223). -/
def Tile.cleanWords (x : Tile) (a n : Nat) : Tile :=
  if x.poisoned.isEmpty && x.uncorrectable.isEmpty && x.singleError.isEmpty then x
  else
    let ws := wordsTouched a n
    let whole := ws.filter fun w => decide (a ≤ w) && decide (w + 4 ≤ a + n)
    let torn := ws.filter fun w => !whole.contains w && x.uncorrectable.contains w
    let bad := ws.filter fun w => x.poisoned.contains w || x.uncorrectable.contains w
    Tile.settleWords { x with
      poisoned := torn ++ x.poisoned.filter fun w => !whole.contains w
      uncorrectable := x.uncorrectable.filter fun w => !ws.contains w
      singleError := x.singleError.filter fun w => !whole.contains w } bad

/-- The words of a range that cannot be read (R223). -/
def Tile.badWord (x : Tile) (a n : Nat) : Option Nat :=
  (wordsTouched a n).find? fun w => x.poisoned.contains w || x.uncorrectable.contains w

/-- Reading corrects words with one bit in error and counts them in CW.SECNT, saturating (R223, R210). -/
def Tile.correct (x : Tile) (a n : Nat) : Tile :=
  let hit := x.singleError.filter fun w => (wordsTouched a n).contains w
  if hit.isEmpty then x
  else
    { x with
      singleError := x.singleError.filter fun w => !hit.contains w
      cwords := Map.set x.cwords 0x07F (BitVec.ofNat 32 (min (x.cword 0x07F + hit.length) 0xFFFFFFFF)) }

/-- A soft error: one bit in a sound word can be corrected, and more cannot (R223). -/
def Tile.upset (x : Tile) (w bits : Nat) : Tile :=
  if bits = 0 ∨ x.uncorrectable.contains w ∨ x.poisoned.contains w then x
  else if bits = 1 ∧ !x.singleError.contains w then { x with singleError := w :: x.singleError }
  else Tile.settleWords { x with singleError := x.singleError.filter fun v => !(v == w), uncorrectable := w :: x.uncorrectable } [w]

/-- A protected byte of tile m as its parity group knows it: without the in-place stores whose delta has not been sent (R222). -/
def Tile.settledByte (x : Tile) (a : Nat) : Byte :=
  ((x.firing.map (·.delta)).getD []).foldl (fun b e => if e.1 = a then b ^^^ e.2 else b) (Memory.read x.sram a)

/-- A protected byte of tile t rebuilt: the parity XOR the same byte of the other members, each where it is protected there (R14, R147,
R224; log entry 13). -/
def State.rebuiltByte (s : State) (t a : Nat) : Byte :=
  let g := s.group t
  ((s.groupMembers g).filter fun m => !(m == t)).foldl
    (fun b m => if (s.tile m).isProtected a then b ^^^ (s.tile m).settledByte a else b) (Memory.read (Map.get [] s.parity g) a)

/-- Whether a byte of tile t is under parity: it lies in a protected window, or in the part of the system region that is the retention area,
whose place is open (R211; log entry 13). -/
def State.underParity (s : State) (t a : Nat) : Bool :=
  (s.tile t).isProtected a || ((s.tile t).place t a == .system && Config.retained t a)

/-- Whether word w of tile m is under parity and cannot be read. -/
def State.badUnderParity (s : State) (m w : Nat) : Bool :=
  ((s.tile m).uncorrectable.contains w || (s.tile m).poisoned.contains w) && s.underParity m w

/-- Whether another tile of the parity group of tile t, or its parity tile, is lost (R351). -/
def State.groupBroken (s : State) (t : Nat) : Bool :=
  s.hostLost (parityNode (s.group t)) || (s.groupMembers (s.group t)).any fun m => !(m == t) && s.hostLost m

/-- Whether a rebuild of word w of tile t meets a second bad word at the same offset of the group (R224). -/
def State.rebuildFails (s : State) (t w : Nat) : Bool :=
  s.groupBroken t || (s.groupMembers (s.group t)).any fun m => !(m == t) && s.badUnderParity m w

/-- Whether a word that cannot be read is lost, as the parity group cannot rebuild it (R224). -/
def State.lostWord (s : State) (t w : Nat) : Bool := s.underParity t w && s.rebuildFails t w

/-- What becomes of a word that cannot be read, by its place: rebuilt from the group in a protected window or the retention area, unless that
fails; refilled from a retained copy elsewhere in the system region; poisoned everywhere else (R224). What the system region holds stands in
fields of its own, which the repair leaves as they are. A rebuilt word holds no in-place store whose delta was still to be sent. -/
def State.repairWord (s : State) (t w : Nat) : State :=
  let x := s.tile t
  if x.uncorrectable.contains w || x.poisoned.contains w then
    let keep := fun (l : List Nat) => l.filter fun v => !(v == w)
    let x1 := { x with uncorrectable := keep x.uncorrectable, poisoned := keep x.poisoned }
    if s.lostWord t w then s
    else if x.isProtected w then
      s.setTile t { x1 with
        sram := Memory.writeN x.sram w ([w, w + 1, w + 2, w + 3].map (s.rebuiltByte t))
        firing := x.firing.map fun f => { f with delta := f.delta.filter fun e => !decide (w ≤ e.1 ∧ e.1 < w + 4) } }
    else if x.place t w = .system then s.setTile t x1
    else s.setTile t { x1 with poisoned := w :: x1.poisoned }
  else s

/-- The change that a write of n bytes from a, which turned tile x into y, makes to the parity of protected windows (R222). -/
def storeDelta (x y : Tile) (a n : Nat) : List (Nat × Byte) :=
  (List.range n).filterMap fun i =>
    if x.isProtected (a + i) then some (a + i, Memory.read x.sram (a + i) ^^^ Memory.read y.sram (a + i)) else none

/-- A journal applied, its entries core stores in order (R170, R176); stale places each among the engine writes. -/
def Tile.applyJournal (x : Tile) (stale : Nat → Nat) (es : List JournalEntry) : Tile :=
  es.foldl (fun x e => x.coreStore (stale e.addr) e.addr e.bytes) x

/-- The change that a journal makes to the parity of protected windows, its entries in order (R176, R222). -/
def journalDelta (stale : Nat → Nat) (x : Tile) : List JournalEntry → List (Nat × Byte)
  | [] => []
  | e :: es =>
    let y := x.coreStore (stale e.addr) e.addr e.bytes
    storeDelta x y e.addr e.bytes.length ++ journalDelta stale y es

/-- The record of slot k as a launch has it: the slot's own, and for the inbox actor slot, which serves one message after another, the inbox
settings of the launch (R155, R185, R201, R303). -/
def State.slotIn (s : State) (t k sw : Nat) : Slot :=
  let sl := s.slot t k
  if k = 16 then
    let w := s.swatch sw
    { sl with record := Words.setField (Words.setWord sl.record 1 (Words.word w.launch 9)) 2 0 13 w.tag, swatch := sw }
  else sl

/-- Whether a byte of a range lies in a live barrier slot (R316). -/
def touchesBarrier (bars : List (Nat × Nat)) (a n : Nat) : Bool :=
  bars.any fun b => decide (a < b.1 + 16) && decide (b.1 < a + n)

/-! ### Time -/

/-- The field counter of a field, advanced by a free count since it was last looked at (R30). -/
def State.advanceField (s : State) (f : Nat) : State :=
  { s with fieldCtr := Map.set s.fieldCtr f ((Map.get 0 s.fieldCtr f + Config.fieldRate s.tick f) % 2 ^ 64) }

/-! ### Error records (R152) -/

/-- The 32 bytes of an error record (R152). -/
def errorBytes (p t : Nat) (cause unit_ slot flags ctr tag edge detail : Nat) : List Byte :=
  leBytes 1 (p % 256) ++ leBytes 1 (p / 256) ++ leBytes 1 (tileX t) ++ leBytes 1 (tileY t) ++ leBytes 1 cause ++ leBytes 1 unit_ ++
  leBytes 1 slot ++ leBytes 1 flags ++ leBytes 8 ctr ++ leBytes 2 tag ++ leBytes 2 edge ++ leBytes 4 detail ++ leBytes 8 0

/-- A record written to the selvage log under the physical tile, sixteen kept (R152). -/
def State.writeError (s : State) (t cause unit_ slot flags tag edge detail : Nat) : State :=
  let f := s.fieldOf t
  let s1 := s.advanceField f
  let p := s.physOf t
  let h := s1.physTile p
  let e := errorBytes p t cause unit_ slot flags (Map.get 0 s1.fieldCtr f) tag edge detail
  { s1 with phys := Map.set s1.phys p { h with errors := (e :: h.errors).take 16, errorCount := h.errorCount + 1 } }

/-- Bit [1] of the latest record of a tile whose slot is k and whose bit [0] is set: the retry has succeeded (R182). -/
def State.markRetrySucceeded (s : State) (t k : Nat) : State :=
  let p := s.physOf t
  let h := s.physTile p
  let isIt := fun (e : List Byte) => decide ((e.getD 6 0).toNat = k) && decide ((e.getD 7 0).toNat % 2 = 1)
  match h.errors.findIdx? isIt with
  | some i =>
    { s with phys := Map.set s.phys p { h with errors := h.errors.modify i fun e => e.set 7 (e.getD 7 0 ||| 2#8) } }
  | none => s

/-! ### Packets and events -/

/-- A packet sent: it lands after every earlier packet of the same source, destination and class (R136), and takes along what comes before the
next engine operation of its sender (R330), and the number of the firing that runs there with its swatch and scope (R28, R177). -/
def State.send (s : State) (p : Packet) : State :=
  let x := s.tile p.src
  let q := match x.firing with
    | some f => { p with batch := f.uid, sender := ((x.slot f.slot).swatch, (x.slot f.slot).scopeNo) }
    | none => p
  { s with net := s.net ++ [{ q with view := x.viewNow }] }

/-- The first packet of a source, destination and class, and the packets without it. -/
def takePacket (src dst : Nat) (cls : TrafficClass) : List Packet → Option (Packet × List Packet)
  | [] => none
  | p :: ps =>
    if p.src = src ∧ p.dst = dst ∧ p.cls = cls then some (p, ps)
    else match takePacket src dst cls ps with
      | some (q, qs) => some (q, p :: qs)
      | none => none

/-- Whether no earlier member of a list has the key of the member at place i: what travels between the same two ends in one class keeps its
order (R31, R136, R296). -/
def isFirst {α : Type} (key : α → Option (List Nat)) (l : List α) (i : Nat) : Bool :=
  match l[i]?.bind key with
  | none => true
  | some k => !(l.take i).any fun a => key a == some k

/-- An event bit of EVPEND set for the firing of slot k, where it is the one that runs (R344). -/
def Tile.event (x : Tile) (k bit : Nat) : Tile :=
  match x.firing with
  | some f => if f.slot = k then { x with firing := some { f with evpend := f.evpend ||| 2 ^ bit } } else x
  | none => x

/-! ### The inbox (R131, R306 to R310) -/

def Tile.entry (x : Tile) (i : Nat) : InboxEntry := Map.get freeEntry x.inbox i

def Tile.setEntry (x : Tile) (i : Nat) (e : InboxEntry) : Tile := { x with inbox := Map.set x.inbox i e }

/-- The lowest free inbox entry of 64. -/
def Tile.freeEntryNo (x : Tile) : Option Nat := (List.range 64).find? fun i => (x.entry i).state == .free

/-- An entry reserved for slot k at issue of an operation of a swatch (R131). -/
def Tile.reserve (x : Tile) (k i sw : Nat) : Tile := x.setEntry i { freeEntry with state := .reserved, owner := k, swatch := sw }

/-- A reserved or free entry made full: it takes its place in landing order (R309). -/
def Tile.fill (x : Tile) (i owner attempt sw : Nat) (reach : Reach) (words : List Word32) : Tile :=
  (Tile.setEntry { x with stamp := x.stamp + 1 } i
    { state := .full, owner := owner, stamp := x.stamp, attempt := attempt, swatch := sw, reach := reach, words := words }).event owner 0

/-- Entries of slot k in a given state, by number. -/
def Tile.entries (x : Tile) (k : Nat) (st : EntryState) : List Nat :=
  (List.range 64).filter fun i => (x.entry i).state == st && (x.entry i).owner == k

/-- The oldest full entry of a slot (R309). -/
def Tile.oldestFull (x : Tile) (k : Nat) : Option Nat :=
  (x.entries k .full).foldl (fun best i => match best with
    | none => some i
    | some j => if (x.entry i).stamp < (x.entry j).stamp then some i else some j) none

/-- Taken entries of a slot freed (R310). -/
def Tile.freeTaken (x : Tile) (k : Nat) : Tile :=
  (x.entries k .taken).foldl (fun x i => x.setEntry i freeEntry) x

/-- Taken entries of a slot made full and untaken again, each in its former place (R310). -/
def Tile.untake (x : Tile) (k : Nat) : Tile :=
  (x.entries k .taken).foldl (fun x i => x.setEntry i { x.entry i with state := .full }) x

/-! ### Edges and queues (R123, R159 to R161) -/

/-- The tile, slot and output port from which an edge of a swatch comes; none where it comes from the host or a stream. -/
def State.producer (s : State) (sw edge : Nat) : Option (Nat × Nat × Nat) :=
  (s.tiles.flatMap fun e => e.2.loaded.flatMap fun k =>
    if (e.2.slot k).swatch = sw then ((e.2.slot k).outPorts.filter fun p => (e.2.slot k).outEdge p == edge).map fun p => (e.1, k, p)
    else []).head?

/-- The tile, slot and input port to which an edge of a swatch goes. -/
def State.consumer (s : State) (sw edge : Nat) : Option (Nat × Nat × Nat) :=
  (s.tiles.flatMap fun e => e.2.loaded.flatMap fun k =>
    if (e.2.slot k).swatch = sw then ((e.2.slot k).inPorts.filter fun p => (e.2.slot k).inEdge p == edge).map fun p => (e.1, k, p)
    else []).head?

/-- Flags of an edge end of slot k in the router edge table of a tile (log entry 6): bit 0 a stream edge, bit 1 a copy edge. -/
def Tile.edgeFlags (x : Tile) (k edge : Nat) : Nat :=
  match x.edgeTab.find? fun e => e.1 % 4 == 0 && e.2.toNat % 65536 == edge && bitField e.2.toNat 24 5 == k with
  | some e => bitField e.2.toNat 22 2
  | none => 0

/-- The place after a token in its block of 32; a marked token ends the block (R123). -/
def nextPos (pos : Nat) (tok : Token) : Nat := if tok.mark || decide (31 ≤ pos) then 0 else pos + 1

/-- The number, from 0, of the block of each token of a queue whose first token has place pos (R123). -/
def blockNumbers : Nat → Nat → List Token → List Nat
  | _, _, [] => []
  | b, pos, tok :: ts => b :: blockNumbers (if nextPos pos tok = 0 then b + 1 else b) (nextPos pos tok) ts

/-- Tokens of an input port that are present: those before a slot that is being refilled, and on a scaled port those whose block's scale has
landed (R115, R125, R224). -/
def Slot.presentCount (k : Slot) (p : Nat) : Nat :=
  let q := k.inQueue p
  q.refilling.foldl min
    (if k.inScaled p then ((blockNumbers 0 q.pos q.toks).filter fun b => decide (b < q.scales.length)).length else q.toks.length)

/-- One token popped from a queue; a scale goes with the last token of its block (R125). -/
def InQueue.pop1 (q : InQueue) : InQueue :=
  match q.toks with
  | [] => q
  | tok :: ts =>
    { toks := ts, views := q.views.drop 1, pos := nextPos q.pos tok, scales := if nextPos q.pos tok = 0 then q.scales.drop 1 else q.scales,
      refilling := (q.refilling.filter fun i => decide (0 < i)).map (· - 1) }

def InQueue.pop : InQueue → Nat → InQueue
  | q, 0 => q
  | q, n + 1 => InQueue.pop (InQueue.pop1 q) n

/-- The slot returns for n tokens popped from input port p of slot k of tile t: to the producer's tile, to the selvage for a host edge, and
nothing for an edge that a stream feeds (R181, R281). -/
def State.returnSlots (s : State) (t k p n : Nat) : State :=
  let sl := s.slot t k
  if n = 0 then s
  else if bitField ((s.tile t).edgeFlags k (sl.inEdge p)) 0 1 = 1 then s
  else match s.producer sl.swatch (sl.inEdge p) with
    | some (pt, pk, pp) => s.send { src := t, dst := pt, cls := .slotReturn, body := .slotReturn pk pp n }
    | none => s.send { src := t, dst := selvage, cls := .slotReturn, body := .slotReturn sl.swatch (sl.inEdge p) n }

/-- n tokens popped from an input port, POPPED advanced and their slots returned (R159, R176 step 5). -/
def State.popInput (s : State) (t k p n : Nat) : State :=
  let n' := min n (((s.slot t k).inQueue p).toks.length)
  (s.modSlot t k fun sl =>
    (sl.setInQueue p ((sl.inQueue p).pop n')).setPopped p (sl.popped p + n')).returnSlots t k p n'

/-- Every token that an actor holds popped and counted nowhere: what a draining actor does (R191). -/
def State.popAll (s : State) (t k : Nat) : State :=
  (s.slot t k).inPorts.foldl (fun s p => s.popInput t k p (((s.slot t k).inQueue p).toks.length)) s

/-! ### Scopes (R194 to R196) -/

/-- Whether scope n of a swatch is sc or lies below it, following at most fuel parents; a free entry is nobody's child (R27, R195). -/
def Swatch.below (w : Swatch) (sc : Nat) : Nat → Nat → Bool
  | 0, _ => false
  | fuel + 1, n => n == sc || (n != 0 && !((w.scope n).stateCode == 0) && Swatch.below w sc fuel (w.scope n).parent)

/-- The scopes with an entry in a swatch's table that is not free. -/
def Swatch.scopeNumbers (w : Swatch) : List Nat := (Map.keys w.scopes).filter fun n => !((w.scope n).stateCode == 0)

/-- Whether a scope is complete, complete-with-voids or aborted (R27). -/
def terminalCode (c : Nat) : Bool := c == 3 || c == 4 || c == 5

/-- One more void counted in a scope, saturating; an aborted or free scope counts none (R194, R195). -/
def State.addVoid (s : State) (sw sc : Nat) : State :=
  s.modSwatch sw fun w =>
    let e := w.scope sc
    if e.stateCode = 0 ∨ e.stateCode = 5 then w
    else w.setScope sc { e with words := Words.setWord e.words 1 (min (e.voids + 1) 0xFFFFFFFF) }

/-- An entry in a scope's void log, or LOGOVF when 64 are held (R188, R194, R195). -/
def State.logVoid (s : State) (sw sc edge ordinal : Nat) : State :=
  s.modSwatch sw fun w =>
    let e := w.scope sc
    if e.stateCode = 0 ∨ e.stateCode = 5 then w
    else if e.log.length < 64 then
      w.setScope sc { e with log := e.log ++ [(edge, ordinal)], words := Words.setField e.words 2 0 7 (e.log.length + 1) }
    else w.setScope sc { e with words := Words.setField e.words 0 7 1 1 }

/-! ### Ends of engine operations (R279, R305 to R308, R325, R326) -/

/-- A completion message: word 1 laid out as R307 gives, the other words as given. -/
def completionWords (kind status engine source : Nat) (rest : List Nat) : List Word32 :=
  ([0, kind + 2 ^ 8 * status + 2 ^ 16 * engine + 2 ^ 24 * source] ++ rest ++ List.replicate 14 0).take 16 |>.map (BitVec.ofNat 32)

/-- The payload of a stream completion (R308): words 2 to 12. -/
def streamPayload (r : Words) (whole : Bool) : List Nat :=
  [strStart r, 0, strPerformed r % 2 ^ 32, strPerformed r / 2 ^ 32, strTokens r, strVoids r] ++
  (if whole then [0, 0, 0, 0] else [strIndex r 0, strIndex r 1, strIndex r 2, strIndex r 3]) ++ [strPauses r]

/-- An entry of the debug log while the core is halted, sixty-four kept and OVF set beyond (R361). -/
def Tile.logDebug (x : Tile) (words : List Nat) : Tile :=
  if bitField (x.cword 0x405) 5 1 = 1 then
    if x.debugLog.length < 64 then
      { x with
        debugLog := x.debugLog ++ [words.map (BitVec.ofNat 32)]
        cwords := Map.set x.cwords 0x405 (BitVec.ofNat 32 (setBitField (x.cword 0x405) 24 7 (x.debugLog.length + 1))) }
    else { x with cwords := Map.set x.cwords 0x405 (BitVec.ofNat 32 (setBitField (x.cword 0x405) 31 1 1)) }
  else x

/-- The completion of a stream written, or discarded with its entry where its attempt was abandoned (R308, R183); the stream is idle
(R279). -/
def Tile.finishStream (x : Tile) (k status : Nat) (whole : Bool) : Tile :=
  let r := x.stream k
  let run := x.run k
  let owner := strOwner r
  let kprog := k - x.strBase owner
  let words := completionWords 0x01 status kprog owner (streamPayload r whole)
  let x1 := if run.eng.orphan then x.setEntry run.eng.entry freeEntry else x.fill run.eng.entry owner run.eng.attempt run.eng.swatch run.eng.reach words
  let held := if (Map.get [] x.barred k).isEmpty then 0 else 1
  let x2 := x1.setStream k (Words.setField (Words.setField (setStrState r 0) 0 8 8 status) 0 7 1 held)
  (((({ x2 with runs := Map.erase x2.runs k }).keepStream k).noteEnded k run.eng.reach).event owner 5).logDebug
    ([1 + 256 * status + 65536 * kprog, 0, strPerformed r % 2 ^ 32, strPerformed r / 2 ^ 32] ++
      [strIndex r 0, strIndex r 1, strIndex r 2, strIndex r 3])

/-- The completion of a copy (R307, R308). -/
def Tile.finishCopy (x : Tile) (id status : Nat) : Tile :=
  match x.copies.find? fun c => c.id == id with
  | none => x
  | some c =>
    let bad := !c.packet.isEmpty && (status == 0x14 || status == 0x11)
    let pk := c.packet.map BitVec.toNat
    let rest := [c.tag, 0, c.done, 0, 0, 0] ++ (if bad then pk.take 4 ++ [pk.getD 4 0, pk.getD 5 0, pk.getD 6 0, pk.getD 7 0] else [])
    let x1 := if c.eng.orphan then x.setEntry c.eng.entry freeEntry
      else x.fill c.eng.entry c.slot c.eng.attempt c.eng.swatch c.eng.reach (completionWords c.kind status 0x10 c.slot rest)
    (({ x1 with copies := x1.copies.filter fun c => !(c.id == id) }).noteEnded (32 + c.slot) c.eng.reach).logDebug
      [2 + 256 * status, c.tag, c.done, 0, 0, 0, 0, 0]

/-- The completion of an atomic or the reply of a watch; no fence waits for a watch (R307, R325, R327). -/
def Tile.finishAtomic (x : Tile) (id status : Nat) (value flag : Nat) : Tile :=
  match x.atomics.find? fun a => a.id == id with
  | none => x
  | some a =>
    let kind := if a.op = 9 then 0x05 else 0x04
    let rest := [a.tag, 0, value % 2 ^ 32, value / 2 ^ 32 % 2 ^ 32, value / 2 ^ 64 % 2 ^ 32, value / 2 ^ 96 % 2 ^ 32, flag]
    let x1 := if a.eng.orphan then x.setEntry a.eng.entry freeEntry
      else x.fill a.eng.entry a.slot a.eng.attempt a.eng.swatch a.eng.reach (completionWords kind status 0x11 a.slot rest)
    let x2 := { x1 with atomics := x1.atomics.filter fun a => !(a.id == id) }
    (if a.op = 9 then x2 else x2.noteEnded (32 + a.slot) a.eng.reach).logDebug
      [(if a.op = 9 then 4 else 3) + 256 * status, a.tag, value % 2 ^ 32, value / 2 ^ 32 % 2 ^ 32, 0, 0, 0, 0]

/-- A standing fault notice withdrawn, and the owner told (R302). -/
def State.withdraw (s : State) (n : Option Nat) : State :=
  match n with
  | none => s
  | some id =>
    if s.notices.any fun m => m.id == id && decide (m.stage ≤ 1) then
      let passed := s.notices.any fun m => m.id == id && m.stage == 1
      let s1 := { s with notices := s.notices.map fun m => if m.id = id then { m with stage := 3 } else m }
      if passed then { s1 with host := { s1.host with notices := s1.host.notices ++ [.withdrawn id] } } else s1
    else s

/-- A running stream asked to stop with a status; a paused one stops at once where it stands, its notice withdrawn (R279, R288, R305). One
that ends fatally goes on pushing its voids, and its completion carries the cause (R189, R303). -/
def State.stopStream (s : State) (t k status : Nat) (outerOnly : Bool) : State :=
  let x := s.tile t
  let r := x.stream k
  if (x.run k).voiding then s
  else if strState r = 2 then
    s.setTile t (((x.setStream k (setStrState r 5)).setRun k { x.run k with stopStatus := status, outerOnly := outerOnly }).event (strOwner r) 5)
  else if strState r = 3 then
    (s.withdraw (x.run k).eng.notice).modTile t fun x => x.finishStream k status false
  else s

/-- The streams of slot k that are running or paused. -/
def Tile.liveStreams (x : Tile) (k : Nat) : List Nat :=
  (List.range 16).filter fun j => strOwner (x.stream j) == k && (strState (x.stream j) == 2 || strState (x.stream j) == 3)

/-- Watches of a tile that meet a condition cancelled with a reply of a given status, the notice of a paused one withdrawn (R302, R326). -/
def State.cancelWatches (s : State) (t : Nat) (which : Atomic → Bool) (status : Nat) : State :=
  let gone := (s.tile t).atomics.filter fun a => a.op == 9 && which a
  let ids := gone.map (·.id)
  let s1 := gone.foldl (fun s a => (s.withdraw a.eng.notice).modTile t fun x => x.finishAtomic a.id status 0 0) s
  { s1 with
    watches := s1.watches.filter fun w => !(w.op.tile == t && ids.contains w.op.run)
    memReqs := s1.memReqs.filter fun r => !(r.op.tile == t && (match r.op.key with | .watch id => ids.contains id | _ => false)) }

/-! ### Firings -/

/-- The matrix, scalar and vector state, ports and control words that the first instruction of a firing finds (R164, R87, R226, R247). -/
def freshFiring (slot uid pc : Nat) (ready : List Nat) (msg : Option Nat) : Firing :=
  { slot := slot, uid := uid, pc := pc, sregs := [], vregs := [], mregs := [], accs := [], levels := [], savedLevels := [], round := 0,
    fflags := 0, mctl := 0, tvec := 0, tpc := 0, tstat := 0, evdl := 0, evDue := false, evpend := 0, spent := 0, cursors := [], staged := [], marks := [],
    scales := [], journal := [], messages := [], deferred := [], seals := [], semChanges := [], barChanges := [], haltq := false,
    delta := [], readyAtStart := ready, bpPassed := false, phase := .running, msgEntry := msg }

/-- Whether the scope of a slot is draining or aborted (R162, R191). -/
def State.scopeEnded (s : State) (k : Slot) : Bool :=
  let c := ((s.swatch k.swatch).scope k.scopeNo).stateCode
  c == 5 || c == 6

/-- Conditions 2 and 3 of R162 at the ports of an actor. -/
def Slot.inputsReady (k : Slot) : Bool :=
  k.inPorts.all fun p => decide ((if k.inBounded p then k.inReq p else k.inMax p) ≤ k.presentCount p)

def Slot.outputsReady (k : Slot) : Bool := k.outPorts.all fun p => decide (k.outMax p ≤ k.free p)

/-- Conditions 4 and 5 of R162 at a loop entry and a loop exit. -/
def Slot.loopReady (k : Slot) : Bool :=
  (k.loopK == 0 || (!k.loopClosed && decide (k.outMax 0 ≤ k.permits))) && (!k.isExit || (!k.loopWait && k.discard == 0))

/-- Whether a swatch lets its actors fire in a scope: the gates open, the launch not parked, the scope neither draining nor aborted (R162
condition 6). -/
def Swatch.letsFire (w : Swatch) (sc : Nat) : Bool :=
  let c := (w.scope sc).stateCode
  w.gates && !w.parked && !(c == 5 || c == 6)

/-- The scope of the inbox settings of a launch (R155, R201, R202). -/
def Swatch.inboxScope (w : Swatch) : Nat := Words.field w.launch 9 8 8

/-- The oldest active message with a handler whose launch lets the inbox actor fire (R162, R201; log entry 24). -/
def State.handlerMessage (s : State) (t : Nat) : Option Nat :=
  let x := s.tile t
  ((x.entries 16 .full).filter fun i =>
      !((x.entry i).words.getD 0 0 == 0) && (s.swatch (x.entry i).swatch).letsFire (s.swatch (x.entry i).swatch).inboxScope).foldl
    (fun best i => match best with
      | none => some i
      | some j => if (x.entry i).stamp < (x.entry j).stamp then some i else some j) none

/-- Readiness (R162, R201). -/
def State.isReady (s : State) (t k : Nat) : Bool :=
  let sl := s.slot t k
  if k = 16 then (s.handlerMessage t).isSome && !(sl.stateCode == 6)
  else (sl.stateCode == 1) && sl.inputsReady && sl.outputsReady && sl.loopReady && (s.swatch sl.swatch).letsFire sl.scopeNo

/-- The state a slot takes when its firing has ended: draining with its scope or under bind-off (R191, R358), held by a move (R145), stopped
by a pre-emption (R158), parked with its launch (R362), else waiting. -/
def State.restingCode (s : State) (t k : Nat) : Nat :=
  let sl := s.slot t k
  let w := s.swatch sl.swatch
  if s.scopeEnded sl || w.phase == .bindingOff then 5
  else if s.rebinds.any (fun r => r.tile == t && r.slot == k) then 4
  else if w.preempt.isSome && !(w.phase == .casting) then 6
  else if w.parked then 7 else 1

/-- The core is no longer halted: HALTED falls, and the log of the halt is gone with its count (R359, R361; log entry 17). -/
def Tile.unhalt (x : Tile) : Tile :=
  if bitField (x.cword 0x405) 5 1 = 1 then
    { x with debugLog := [], cwords := Map.set x.cwords 0x405 (BitVec.ofNat 32 (x.cword 0x405 % 256 - 32)) }
  else x

/-- The firing of a tile over: its slot takes a state, its own age becomes 0, and the tile remembers the slot (R163). -/
def State.closeFiring (s : State) (t : Nat) (code : Nat) : State :=
  match (s.tile t).firing with
  | none => s
  | some f =>
    s.modTile t fun x =>
      let x1 := x.unhalt.modSlot f.slot fun sl => { sl.setState code with age := 0, attempts := 0 }
      { x1 with firing := none, lastFired := f.slot, fired := true, matOps := [] }

/-- The end of a firing that ages slots: every other slot that has been ready since the selection gains one (R163). -/
def State.endFiring (s : State) (t : Nat) (code : Nat) : State :=
  match (s.tile t).firing with
  | none => s
  | some f =>
    let still := f.readyAtStart.filter fun k => s.isReady t k && !(k == f.slot)
    (s.modTile t fun x => still.foldl (fun x k => x.modSlot k fun sl => { sl with age := sl.age + 1 }) x).closeFiring t code

/-- What an actor that drains does once no firing of it runs: it pops every token it holds, its streams stop at the next outer-loop boundary,
and its watches are cancelled (R191, R305, R326). -/
def State.drainNow (s : State) (t k : Nat) : State :=
  let s1 := s.popAll t k
  (((s1.tile t).liveStreams k).foldl (fun s j => s.stopStream t j 0x81 true) s1).cancelWatches t (fun a => a.slot == k) 0x81

/-- The firing ended and its slot at rest: one whose scope drains, or whose swatch is bound off, drains with what the firing has started
(R191, R358). -/
def State.restFiring (s : State) (t k : Nat) : State :=
  let s1 := s.endFiring t (s.restingCode t k)
  if k < 16 ∧ (s1.slot t k).stateCode = 5 then s1.drainNow t k else s1

/-- Slots that are no longer ready drop out of the ageing of the firing that runs (R163: ready continuously). -/
def State.dropUnready (s : State) (t : Nat) : State :=
  s.modTile t fun x => { x with firing := x.firing.map fun f => { f with readyAtStart := f.readyAtStart.filter (s.isReady t) } }

/-- A deferred operation discarded: its inbox entry is freed, a stream goes back to configured, and what an SBAR held it back for holds back
its next SGO (R178, R279, R290). -/
def Tile.discardDeferred (x : Tile) : Deferred → Tile
  | .stream k =>
    if strState (x.stream k) = 4 then
      { (x.setEntry (x.run k).eng.entry freeEntry).setStream k (setStrState (x.stream k) 1) with
        runs := Map.erase x.runs k, barred := Map.set x.barred k ((x.run k).sbar ++ Map.get [] x.barred k) }
    else x
  | .copy id =>
    match x.copies.find? fun c => c.id == id with
    | some c => { x.setEntry c.eng.entry freeEntry with copies := x.copies.filter fun c => !(c.id == id) }
    | none => x
  | .atomic id =>
    match x.atomics.find? fun a => a.id == id with
    | some a => { x.setEntry a.eng.entry freeEntry with atomics := x.atomics.filter fun a => !(a.id == id) }
    | none => x

/-- The XOR of bytes folded into a group's parity (R14, R147). -/
def State.parityDelta (s : State) (t : Nat) (d : List (Nat × Byte)) : State :=
  if d.isEmpty then s
  else
    let g := s.group t
    let m1 := d.foldl (fun m e => Memory.write m e.1 (Memory.read m e.1 ^^^ e.2)) (Map.get [] s.parity g)
    { s with parity := Map.set s.parity g m1 }

/-- Bytes written at their place, and parity following in a protected window (R14, R222, R223). -/
def State.rewrite (s : State) (t a n : Nat) (y : Tile) : State :=
  (s.setTile t (y.cleanWords a n)).parityDelta t (storeDelta (s.tile t) y a n)

/-- Bytes that the part itself writes, as one act: the words of a barrier slot, which every read that follows finds as they stand (R14, R316). -/
def State.partWrite (s : State) (t a : Nat) (bs : List Byte) : State := s.rewrite t a bs.length ((s.tile t).setBytes a bs)

/-- Bytes that an engine writes, after everything up to a place, and the place that they take (R329, R331, R332). -/
def State.engineWrite (s : State) (t : Nat) (seen : Stamp) (a : Nat) (bs : List Byte) : State × Stamp :=
  let p := (s.tile t).writeStamp seen (Config.stale s.tick t a) a bs.length
  (s.rewrite t a bs.length ((s.tile t).putBytes p a bs false), p)

/-- The delta of in-place protected stores sent to the parity tile before the slot leaves the firing state, whatever ends the firing (R222). -/
def State.settleDelta (s : State) (t : Nat) : State :=
  match (s.tile t).firing with
  | some f => (s.parityDelta t f.delta).modTile t fun x => { x with firing := some { f with delta := [] } }
  | none => s

/-- What every end without a normal commit does to what the firing staged: deferred operations are discarded (R178), everything else is
forgotten with the firing; the tokens that it entered stay entered (R330). -/
def State.discardStaged (s : State) (t : Nat) : State :=
  match (s.tile t).firing with
  | some f => s.modTile t fun x => f.deferred.foldl Tile.discardDeferred x.keepEntered
  | none => s

/-! ### Pushing tokens (R176 step 3, R181, R186) -/

/-- The scale token that goes ahead of a token: the next staged scale where the token starts a block (R124, R125). -/
def scaleFor (scaled : Bool) (pos : Nat) (sc : Option ScaleTok) : Option ScaleTok := if scaled && pos == 0 then sc else none

/-- The channel of a swatch's tokens and messages: a paged launch has its own (R135). -/
def tokenClass (w : Swatch) : TrafficClass := if w.paged then .paged else .token

/-- One token pushed on output port p of slot k of tile t, with the scale of its block where it starts one; none goes to the selvage, a stream or
the copy engine, as the spec gives no scale token a way there, the model's choice (R78, R123; log entry 32). -/
def State.pushToken (s : State) (t k p : Nat) (tok : Token) (sc : Option ScaleTok) : State :=
  let x := s.tile t
  let sl := x.slot k
  let q := sl.outQueue p
  let flags := x.edgeFlags k (sl.outEdge p)
  let sc' := scaleFor (sl.outScaled p) q.pos sc
  let sl1 := sl.setFree p (sl.free p - 1)
  if flags ≠ 0 then
    s.setTile t (x.setSlot k (sl1.setOutQueue p { q with pushed := q.pushed + 1, pos := nextPos q.pos tok, local_ := q.local_ ++ [tok] }))
  else
    let s1 := s.setTile t (x.setSlot k (sl1.setOutQueue p
      { q with retained := q.retained ++ [(tok, sc')], pushed := q.pushed + 1, pos := nextPos q.pos tok }))
    if sl.outHost p then s1.send { src := t, dst := selvage, cls := .token, body := .token k p tok }
    else
      match (s.swatch sl.swatch).rel t (sl.dest p) with
      | none => s1
      | some dst =>
        let cls := tokenClass (s.swatch sl.swatch)
        let s2 := match sc' with
          | some c => s1.send { src := t, dst := dst, cls := cls, body :=
              if (s.swatch sl.swatch).paged then .pagedScale (sl.outEdge p) sl.swatch c else .scale (sl.dslot p) (sl.dport p) c }
          | none => s1
        if (s.swatch sl.swatch).paged then
          s2.send { src := t, dst := dst, cls := .paged, body := .paged (sl.outEdge p) sl.swatch tok }
        else s2.send { src := t, dst := dst, cls := .token, body := .token (sl.dslot p) (sl.dport p) tok }

/-- Tokens pushed in order, staged scales given to the block starts in order (R124). -/
def State.pushAll (s : State) (t k p : Nat) : List Token → List ScaleTok → State
  | [], _ => s
  | tok :: toks, scs =>
    let starts := (s.slot t k).outScaled p && ((s.slot t k).outQueue p).pos == 0
    State.pushAll (s.pushToken t k p tok (if starts then scs.head? else none)) t k p toks (if starts then scs.drop 1 else scs)

/-- The void tokens of a void commit at a port: MAX of them, void scale tokens with them (R186). -/
def State.pushVoids (s : State) (t k p n : Nat) : State :=
  let sl := s.slot t k
  let tok : Token := { words := List.replicate (sl.outWidth p) 0, void := true, mark := false, tag := sl.tag }
  s.pushAll t k p (List.replicate n tok) (List.replicate n { word := 0, void := true })

/-! ### Loops (R199) -/

/-- A permit return from an exit to its entry. -/
def Slot.permitBody (sl : Slot) (paged : Bool) : PacketBody :=
  if paged then .pagedPermit (sl.outEdge 0) sl.swatch else .permit (sl.dslot 0)

/-- A close from the exit in slot k of tile t to its entry. -/
def Slot.closeBody (sl : Slot) (paged : Bool) (t k : Nat) : PacketBody :=
  if paged then .pagedClose (sl.outEdge 0) sl.swatch t k else .close (sl.dslot 0) t k

/-- What an exit sends the entry at a commit: a close where it pushed on out1 or is void, a permit return otherwise. -/
def State.exitSends (s : State) (t k : Nat) (closing : Bool) : State :=
  let sl := s.slot t k
  let w := s.swatch sl.swatch
  if sl.isExit then
    match w.rel t (sl.dest 0) with
    | some et =>
      if closing then
        (s.send { src := t, dst := et, cls := .slotReturn, body := sl.closeBody w.paged t k }).modSlot t k fun sl => sl.setRec 3 26 1 1
      else s.send { src := t, dst := et, cls := .slotReturn, body := sl.permitBody w.paged }
    | none => s
  else s

/-- What an entry does at each commit: PERMITS less the tokens pushed on out0 (R199). -/
def State.entryCommits (s : State) (t k pushed : Nat) : State :=
  s.modSlot t k fun sl => if sl.loopK = 0 then sl else sl.setRec 3 8 8 (sl.permits - pushed)

/-! ### The void commit (R186) -/

/-- What each input port pops at a void commit: MAX where fixed, REQ where bounded, and on the port whose void token the handler read every
token up to and including it. -/
def voidPops (sl : Slot) (readVoid : Option (Nat × Nat)) (p : Nat) : Nat :=
  if sl.inBounded p then
    match readVoid with
    | some (p', upTo) => if p' = p then upTo + 1 else sl.inReq p
    | none => sl.inReq p
  else sl.inMax p

/-- What each output port pushes at a void commit: MAX voids, but a loop exit one on out1 and none on out0. -/
def voidPushes (sl : Slot) (p : Nat) : Nat := if sl.isExit && p == 0 then 0 else if sl.isExit && p == 1 then 1 else sl.outMax p

/-- What a void commit of slot k does to its ports and its record: voids pushed, tokens popped, an exit's close and an entry's permits, the
counts of voided firings and of the scope (R186, R199). -/
def State.voidEffects (s : State) (t k : Nat) (pushes pops : Nat → Nat) : State :=
  let sl := s.slot t k
  let s1 := sl.outPorts.foldl (fun s p => s.pushVoids t k p (pushes p)) s
  let s2 := sl.inPorts.foldl (fun s p => s.popInput t k p (pops p)) s1
  let s3 := (s2.exitSends t k true).entryCommits t k (if sl.outDecl 0 then pushes 0 else 0)
  (s3.modSlot t k fun sl =>
    { sl with record := Words.setWord sl.record 6 (min (sl.voidedCount + 1) 0xFFFFFFFF), ordinal := sl.ordinal + 1 }).addVoid sl.swatch sl.scopeNo

/-- The void commit of the firing that tile t runs (R186), with R310, R199, R222 and R328; slot 16 has no ports, and its message goes with its
taken entries (R201). -/
def State.voidCommit (s : State) (t : Nat) (readVoid : Option (Nat × Nat)) : State :=
  match (s.tile t).firing with
  | none => s
  | some f =>
    let k := f.slot
    let s1 := ((s.settleDelta t).discardStaged t).modTile t fun x =>
      let x1 := x.crossPath.freeTaken k
      match f.msgEntry with
      | some i => x1.setEntry i freeEntry
      | none => x1
    (s1.voidEffects t k (voidPushes (s1.slot t k)) (voidPops (s1.slot t k) readVoid)).restFiring t k

/-! ### Aborting a scope (R191) and stopping a swatch (R192) -/

/-- Whether the firing that a tile runs is of slot k: it runs, waits, commits, is halted, or is to be tried again. -/
def Tile.runs_ (x : Tile) (k : Nat) : Bool := (x.firing.map (·.slot)) == some k

/-- An actor set draining: it pops every token it holds, its streams stop at the next outer-loop boundary, its watches are cancelled; an
actor whose firing is not over finishes it first (R191, R305, R326). -/
def State.drainActor (s : State) (t k : Nat) : State :=
  if (s.tile t).runs_ k then
    (((s.tile t).liveStreams k).foldl (fun s j => s.stopStream t j 0x81 true) s).cancelWatches t (fun a => a.slot == k) 0x81
  else (s.drainNow t k).modSlot t k fun sl => sl.setState 5

/-- The actors of a swatch as tile and slot, the inbox actor slot not among them. -/
def State.actorsOf (s : State) (sw : Nat) : List (Nat × Nat) :=
  s.tiles.flatMap fun e => (e.2.loaded.filter fun k => decide (k < 16) && (e.2.slot k).swatch == sw).map fun k => (e.1, k)

/-- Abort of a scope: it and every descendant that has not ended drain, the cause is recorded in the entry of each, every actor bound to one
drains, and the watches that the inbox actor issued in one are cancelled (R191, R194, R195, R326). -/
def State.abortScope (s : State) (sw sc cause : Nat) : State :=
  let w := s.swatch sw
  let hit := w.scopeNumbers.filter fun n =>
    w.below sc 257 n && !terminalCode (w.scope n).stateCode && !((w.scope n).stateCode == 6)
  let s1 := s.modSwatch sw fun w => hit.foldl (fun w n =>
    let e := (w.scope n).setState 6
    w.setScope n { e with words := Words.setField e.words 3 0 8 cause }) w
  let s2 := (s1.actorsOf sw).foldl (fun s a => if hit.contains (s.slot a.1 a.2).scopeNo then s.drainActor a.1 a.2 else s) s1
  let s3 := (Map.keys s2.tiles).foldl
    (fun s t => s.cancelWatches t (fun a => a.slot == 16 && a.eng.swatch == sw && hit.contains a.eng.scope) 0x81) s2
  (s3.actorsOf sw).foldl (fun s a => s.dropUnready a.1) s3

/-- A swatch told to stop at firing boundaries: its gates close, and the cause and the faulting slot are kept for the owner (R192). -/
def State.stopSwatch (s : State) (sw cause t k : Nat) : State :=
  let s1 := s.modSwatch sw fun w =>
    match w.stop with
    | some _ => w
    | none =>
      if w.phase = .bindingOff then w
      else { w with gates := false, phase := if w.phase = .casting then .casting else .stopping, stop := some { cause := cause, tile := t, slot := k, firing := false, message := none, notified := false } }
  (s1.actorsOf sw).foldl (fun s a => s.dropUnready a.1) s1

/-- The firing of a slot, one that served a message or none, is the one whose fault stops a swatch: the owner may void it (R352). -/
def State.noteStopFiring (s : State) (sw cause t k : Nat) (msg : Option Nat) : State :=
  s.modSwatch sw fun w => { w with stop := w.stop.map fun i =>
    if i.cause == cause && i.tile == t && i.slot == k then { i with firing := true, message := msg } else i }

/-! ### Taking an exception (R185) and abandoning an attempt (R182) -/

/-- Operations that an attempt issued at once and that have not completed belong to no firing any more; watches among them are cancelled
and their entries freed without a reply (R183, R326). -/
def State.orphan (s : State) (t uid : Nat) : State :=
  let gone := ((s.tile t).atomics.filter fun a => a.op == 9 && a.eng.attempt == uid).map (·.id)
  let s1 := s.modTile t fun x =>
    let x1 := (x.atomics.filter fun a => gone.contains a.id).foldl (fun x a => x.setEntry a.eng.entry freeEntry) x
    { x1 with
      runs := x1.runs.map fun e => if e.2.eng.attempt = uid then (e.1, { e.2 with eng := { e.2.eng with orphan := true } }) else e
      copies := x1.copies.map fun c => if c.eng.attempt = uid then { c with eng := { c.eng with orphan := true } } else c
      atomics := (x1.atomics.filter fun a => !gone.contains a.id).map fun a =>
        if a.eng.attempt = uid then { a with eng := { a.eng with orphan := true } } else a }
  { s1 with
    watches := s1.watches.filter fun w => !(w.op.tile == t && gone.contains w.op.run)
    memReqs := s1.memReqs.filter fun r => !(r.op.tile == t && (match r.op.key with | .watch id => gone.contains id | _ => false)) }

/-- Taken entries of a slot made full and untaken for good, whichever operation they complete (R185, R310). -/
def Tile.keepTaken (x : Tile) (k : Nat) : Tile :=
  (x.entries k .taken).foldl (fun x i => x.setEntry i { x.entry i with state := .full, attempt := 0 }) x

/-- Completions that have landed already of the operations an attempt issued are discarded with their entries (R183). -/
def Tile.dropCompletions (x : Tile) (uid : Nat) : Tile :=
  ((List.range 64).filter fun i => (x.entry i).attempt == uid && ((x.entry i).state == .full || (x.entry i).state == .taken)).foldl
    (fun x i => x.setEntry i freeEntry) x

/-- The attempt is abandoned: nothing of it commits, its inputs stay, the inbox entries it took are full and untaken again (R182, R310). -/
def State.abandon (s : State) (t : Nat) : State :=
  match (s.tile t).firing with
  | none => s
  | some f =>
    ((((s.settleDelta t).discardStaged t).orphan t f.uid).modTile t fun x =>
      { (x.unhalt.dropCompletions f.uid).untake f.slot with firing := some { f with phase := .abandoned, deferred := [], delta := [] }, matOps := [] })

/-- The end of a firing that commits nothing and drains its scope: ABORTS, and a fault under abort scope (R169, R185, R191). -/
def State.abortFiring (s : State) (t cause : Nat) : State :=
  match (s.tile t).firing with
  | none => s
  | some f =>
    let sl := s.slot t f.slot
    let s1 := ((s.settleDelta t).discardStaged t).modTile t fun x =>
      let x1 := x.freeTaken f.slot
      match f.msgEntry with
      | some i => x1.setEntry i freeEntry
      | none => x1
    (s1.abortScope sl.swatch sl.scopeNo cause).restFiring t f.slot

/-- Disposition of a fault of the firing of tile t (R185): the slot's last fault cause takes the cause, a record is written, and the firing
commits as void, or its scope drains, or its swatch stops, where the entries that it took stay full, completions of its own operations among
them. No edge is concerned, and the edge field of the record is 0 (log entry 20). -/
def State.dispose (s : State) (t cause unit_ detail flags : Nat) : State :=
  match (s.tile t).firing with
  | none => s
  | some f =>
    let k := f.slot
    let sl := s.slot t k
    let s1 := (s.writeError t cause unit_ k (flags + (if sl.disp = 0 then 8 else 0)) sl.tag 0 detail).modSlot t k fun sl => sl.setCause cause
    if sl.disp = 0 then s1.voidCommit t none
    else if sl.disp = 1 then s1.abortFiring t cause
    else
      let s2 := (((s1.settleDelta t).discardStaged t).orphan t f.uid).modTile t fun x => (x.keepTaken k).dropCompletions f.uid
      ((s2.stopSwatch sl.swatch cause t k).noteStopFiring sl.swatch cause t k f.msgEntry).endFiring t 6

/-- Taking an exception: a hardware cause that strikes a pure or journaled firing abandons the attempt, up to three times (R182); every
other fault follows the disposition (R184, R185). -/
def State.takeFault (s : State) (t cause unit_ detail : Nat) : State :=
  match (s.tile t).firing with
  | none => s
  | some f =>
    let sl := s.slot t f.slot
    if (cause = 0x20 ∨ cause = 0x21 ∨ cause = 0x22) ∧ sl.cls ≠ 2 ∧ sl.attempts < 3 then
      (s.writeError t cause unit_ f.slot 1 sl.tag 0 detail).abandon t
    else s.dispose t cause unit_ detail 0

/-- The firing of a swatch that runs on a tile. -/
def State.firingIn (s : State) (sw t : Nat) : Option Firing := (s.tile t).firing.filter fun f => (s.slot t f.slot).swatch == sw

/-- The firings of a swatch that a pre-emption abandons as it begins: pure and journaled ones at once under an urgent request, and those that
the debugger has halted in any case (R353 step 2). -/
def State.abandonFor (s : State) (sw : Nat) (urgent : Bool) : State :=
  (s.swatch sw).tiles.foldl (fun s t => match s.firingIn sw t with
    | some f =>
      if (s.slot t f.slot).cls = 2 then s
      else match f.phase with
        | .halted _ => s.abandon t
        | .running => if urgent then s.abandon t else s
        | .waiting _ => if urgent then s.abandon t else s
        | _ => s
    | none => s) s

/-- Whether an actor of a swatch is moving (R145, R208). -/
def State.moving (s : State) (sw : Nat) : Bool := s.rebinds.any fun r => (s.slot r.tile r.slot).swatch == sw

/-- A pre-emption begun: the gates close, the slots at rest are stopped, no firing is selected any more, and what it abandons is abandoned
(R158, R353 steps 1 and 2). One asked for while an actor of the swatch moves waits until the move has completed, the gates open till then (R353
step 1), and one asked for during the cast-on waits for its end (R26). -/
def State.beginPreempt (s : State) (sw va : Nat) (urgent : Bool) : State :=
  if s.moving sw then s.modSwatch sw fun w => { w with preemptWait := some (va, urgent) }
  else
  let s1 := s.modSwatch sw fun w => { w with gates := false, preempt := some (va, urgent), preemptWait := none }
  if (s.swatch sw).phase = .casting then s1
  else
  let s2 := (s1.actorsOf sw).foldl (fun s a =>
    (if (s.slot a.1 a.2).stateCode = 1 ∨ (s.slot a.1 a.2).stateCode = 7 then s.modSlot a.1 a.2 fun sl => sl.setState 6 else s).dropUnready a.1) s1
  s2.abandonFor sw urgent

/-- A firing that has used its budget: fault 0x08 (R165), or, while its swatch is being pre-empted, a pure or journaled attempt is
abandoned (R353 step 2). -/
def State.overBudget (s : State) (t : Nat) : State :=
  match (s.tile t).firing with
  | none => s
  | some f =>
    let sl := s.slot t f.slot
    if (s.swatch sl.swatch).preempt.isSome ∧ sl.cls ≠ 2 then s.abandon t else s.takeFault t 0x08 0 f.pc

/-- Fault 0x20 of a core access that met a word it cannot read: the word is repaired by its place, and where a rebuild meets a second bad word
of the group the swatch stops (R224). -/
def State.takeBadWord (s : State) (t w unit_ detail : Nat) : State :=
  let x := s.tile t
  let s1 := (s.repairWord t w).takeFault t 0x20 unit_ detail
  if s.lostWord t w then
    match x.firing with
    | some f => s1.stopSwatch (s.slot t f.slot).swatch 0x20 t f.slot
    | none => s1
  else s1

end Sys2Proof.Machine
end

