-- ==== Sys2Proof/Machine/Operands.lean ====
section
/-! DEFINITION. What every instruction of the tile core shares: reading source fields and port words, writing a destination, the checks of
ports, completing with the end check of loops, transferring control, control words, and issuing one instruction (R35, R91, R94, R106,
R107, R114 to R117, R336). -/

namespace Sys2Proof.Machine

/-- Why an instruction does not complete at once. -/
inductive Stop where
  /-- A fault: cause, unit and detail of its record (R94, R152). -/
  | fault (cause unit_ detail : Nat)
  /-- A word that cannot be read, with the unit and the detail of the record (R224, R271). -/
  | badWord (w unit_ detail : Nat)
  /-- A wait; the instruction issues when it ends (R91). -/
  | wait (c : WaitCond)
  /-- A fault that leaves a change behind: the state with it (R320). -/
  | failed (s : State) (cause unit_ detail : Nat)
  /-- A window word of a void token was read: port and token (R116). -/
  | void (port tok : Nat)
  deriving DecidableEq, Repr

/-- The machine as an instruction sees it: the tile in focus and its firing taken out of the state. -/
structure Ctx where
  st : State
  t : Nat
  x : Tile
  f : Firing

abbrev Res (α : Type) := Except Stop α

/-- The slot whose firing runs. -/
def Ctx.slot (c : Ctx) : Slot := c.x.slot c.f.slot

/-- A fault of the core at the instruction, with its address as detail (R152; log entry 20). -/
def coreFault {α : Type} (c : Ctx) (cause : Nat) : Res α := .error (.fault cause 0 c.f.pc)

/-- A check that raises a fault of the core where it fails. -/
def check (c : Ctx) (ok : Bool) (cause : Nat) : Res Unit := if ok then .ok () else coreFault c cause

/-! ### Port words (R114 to R116) -/

/-- Whether window word k of input port p may not be named: undeclared port, or beyond M x W (R114, R115). -/
def badWindow (sl : Slot) (p k : Nat) : Bool := !sl.inDecl p || decide (sl.inMax p * sl.inWidth p ≤ k)

/-- The token of window word k of port p. -/
def tokenOf (sl : Slot) (p k : Nat) : Nat := k / sl.inWidth p

def Slot.token? (sl : Slot) (p i : Nat) : Option Token := (sl.inQueue p).toks[i]?

/-- Window word k of port p; 0 where the token is not there. -/
def windowWord (sl : Slot) (p k : Nat) : Word32 :=
  match sl.token? p (tokenOf sl p k) with
  | some tok => tok.words.getD (k % sl.inWidth p) 0
  | none => 0

def isPresent (sl : Slot) (p k : Nat) : Bool := decide (tokenOf sl p k < sl.presentCount p)

def isVoidWord (sl : Slot) (p k : Nat) : Bool :=
  match sl.token? p (tokenOf sl p k) with
  | some tok => tok.void
  | none => false

/-- The checks, the wait and the void of reading window words, in that order (R115, R116). -/
def readable (c : Ctx) (ws : List (Nat × Nat)) : Res Unit :=
  if ws.any fun w => badWindow c.slot w.1 w.2 then coreFault c 0x06
  else
    match ws.find? fun w => !isPresent c.slot w.1 w.2 with
    | some w => .error (.wait (.token w.1 (tokenOf c.slot w.1 w.2)))
    | none =>
      match ws.find? fun w => isVoidWord c.slot w.1 w.2 with
      | some w => .error (.void w.1 (tokenOf c.slot w.1 w.2))
      | none => .ok ()

/-! ### Register fields (R35, R86) -/

/-- The port words that source fields name, in field order: port and window word. -/
def portReads : List Nat → Map Nat → List (Nat × Nat)
  | [], _ => []
  | r :: rs, cur =>
    if r < 24 then portReads rs cur
    else (r - 24, Map.get 0 cur (r - 24)) :: portReads rs (Map.set cur (r - 24) (Map.get 0 cur (r - 24) + 1))

/-- The cursors after the source fields have been read. -/
def cursorsAfter : List Nat → Map Nat → Map Nat
  | [], cur => cur
  | r :: rs, cur => cursorsAfter rs (if r < 24 then cur else Map.set cur (r - 24) (Map.get 0 cur (r - 24) + 1))

/-- The value of scalar register r below 24; s0 is zero. -/
def Firing.sreg (f : Firing) (r : Nat) : Word64 := if r = 0 then 0 else Map.get 0 f.sregs r

/-- The values of the source fields in order; a port word is zero-extended. -/
def srcValues (f : Firing) (sl : Slot) : List Nat → Map Nat → List Word64
  | [], _ => []
  | r :: rs, cur =>
    if r < 24 then f.sreg r :: srcValues f sl rs cur
    else
      (windowWord sl (r - 24) (Map.get 0 cur (r - 24))).zeroExtend 64 ::
        srcValues f sl rs (Map.set cur (r - 24) (Map.get 0 cur (r - 24) + 1))

/-- Words staged on output port p so far. -/
def Firing.stagedCount (f : Firing) (p : Nat) : Nat := (Map.get [] f.staged p).length

/-- Whether n more words may not be staged on output port p (R117). -/
def badStage (c : Ctx) (p n : Nat) : Bool :=
  !c.slot.outDecl p || decide (c.slot.outMax p * c.slot.outWidth p < c.f.stagedCount p + n)

/-- Whether a destination field names an output port that cannot take one more word. -/
def badDest (c : Ctx) (d : Nat) : Bool := decide (24 ≤ d) && badStage c (d - 24) 1

/-- Source fields read in order, a destination field checked beside them: first the faults, then the wait, then a void, and then the values
with the cursors moved (R35, R91, R115, R116). -/
def readSrcs (c : Ctx) (srcs : List Nat) (dst : Option Nat) : Res (List Word64 × Ctx) :=
  let ws := portReads srcs c.f.cursors
  if ws.any (fun w => badWindow c.slot w.1 w.2) || dst.any (badDest c) then coreFault c 0x06
  else do
    readable c ws
    .ok (srcValues c.f c.slot srcs c.f.cursors, { c with f := { c.f with cursors := cursorsAfter srcs c.f.cursors } })

/-- A source value by its place. -/
def src (vs : List Word64) (i : Nat) : Word64 := vs.getD i 0

/-- Words appended to the staging of output port p (R117). -/
def Firing.stage (f : Firing) (p : Nat) (ws : List Word32) : Firing :=
  { f with staged := Map.set f.staged p (Map.get [] f.staged p ++ ws) }

/-- A scalar result written: discarded for s0, staged for a q register, else stored (R35). -/
def Firing.writeReg (f : Firing) (d : Nat) (v : Word64) : Firing :=
  if d = 0 then f else if d < 24 then { f with sregs := Map.set f.sregs d v } else f.stage (d - 24) [v.truncate 32]

def Ctx.writeReg (c : Ctx) (d : Nat) (v : Word64) : Ctx := { c with f := c.f.writeReg d v }

/-! ### Vector registers (R226, R36, R227) -/

def zeroLanes : Lanes := List.replicate 16 0

def Firing.vreg (f : Firing) (i : Nat) : Lanes := Map.get zeroLanes f.vregs i

def lane (v : Lanes) (j : Nat) : Word32 := v.getD j 0

def lanes16 : List Nat := [0, 1, 2, 3, 4, 5, 6, 7, 8, 9, 10, 11, 12, 13, 14, 15]

/-- Whether lane j is enabled by mask field m (R36). -/
def Firing.enabled (f : Firing) (m j : Nat) : Bool := m == 0 || (lane (f.vreg m) j).toNat % 2 == 1

def Firing.writeV (f : Firing) (d : Nat) (v : Lanes) : Firing := { f with vregs := Map.set f.vregs d v }

/-- The masked write of R227. -/
def maskWrite (f : Firing) (d m : Nat) (z : Bool) (r : Nat → Word32) : Lanes :=
  lanes16.map fun j => if f.enabled m j then r j else if z then 0 else lane (f.vreg d) j

/-! ### Completion and transfer of control (R33, R106, R107) -/

/-- The end check at address a, with next as the address that follows: innermost level first (R106). -/
def endCheckAt (a next : Nat) : List LoopLevel → Nat × List LoopLevel
  | [] => (next, [])
  | l :: ls =>
    if l.le = a then
      (if 1 < l.lc then (l.ls, { l with lc := l.lc - 1 } :: ls) else endCheckAt a (l.le + 4) ls)
    else (next, l :: ls)

/-- Completion without a taken transfer of an instruction of len bytes (R33, R106). -/
def Firing.complete (f : Firing) (len : Nat) : Firing :=
  let r := endCheckAt (f.pc + len - 4) (f.pc + len) f.levels
  { f with pc := r.1, levels := r.2 }

def Ctx.complete (c : Ctx) (len : Nat) : Res Ctx := .ok { c with f := c.f.complete len }

def inBody (l : LoopLevel) (a : Nat) : Bool := decide (l.ls ≤ a) && decide (a ≤ l.le)

/-- Levels left by a taken transfer that is no call (R107). -/
def leaveLevels (pc target : Nat) (ls : List LoopLevel) : List LoopLevel :=
  ls.filter fun l => !(inBody l pc && !inBody l target)

/-- End of the SRAM window (R33). -/
def sramEnd : Nat := 0x00300000

/-- The target of a transfer checked: in the window (0x04), then a multiple of 4 (0x03) (R103). -/
def checkTarget (c : Ctx) (target : Int) : Res Unit := do
  check c (decide (0 ≤ target) && decide (target < (sramEnd : Int))) 0x04
  check c (decide (target % 4 = 0)) 0x03

/-- A taken transfer (R103, R107). -/
def Firing.transfer (f : Firing) (target : Nat) (call : Bool) : Firing :=
  { f with pc := target, levels := if call then f.levels else leaveLevels f.pc target f.levels }

/-! ### Control words (R336, R337) -/

/-- Level i of the loop levels, 0 the outer (R108). -/
def Firing.level (f : Firing) (i : Nat) : Option LoopLevel := f.levels.reverse[i]?

def levelField (l : Option LoopLevel) (g : LoopLevel → Nat) : Nat :=
  match l with
  | some l => g l
  | none => 0

/-- The image of CW.PWRCAP in force (R339, R396). -/
def State.pwrcap (s : State) : Nat :=
  let k := max s.power.capPacket s.power.capGrid
  k + (if 1 ≤ s.power.step then 16 else 0) + (if 2 ≤ s.power.step then 32 else 0) + (if 3 ≤ s.power.step then 64 else 0) +
    (if 4 ≤ s.power.step then 128 else 0)

/-- The knot-interval word, 20 at reset (R337, R340). -/
def Tile.knotiv (x : Tile) : Nat := (Map.get 20 x.cwords 0x006).toNat

/-- The virtual address of the gauge view of a swatch, a whole page (R140; log entry 4). -/
def viewBase (sw : Nat) : Nat := (Config.gview sw).toNat / 4096 * 4096

/-- CW.SWPOS for the slot whose firing runs (R140). -/
def Ctx.swpos (c : Ctx) : Nat :=
  let w := c.st.swatch c.slot.swatch
  (tileX c.t - w.x0) + 2 ^ 16 * (tileY c.t - w.y0)

/-- The value of a control word that the map lists (R337). -/
def Ctx.cwRead (c : Ctx) (n : Nat) : Nat :=
  let f := c.f
  if n = 0x000 then variantCap c.st.variant
  else if n = 0x001 then f.round
  else if n = 0x002 then f.fflags
  else if n = 0x003 then c.swpos
  else if n = 0x004 then viewBase c.slot.swatch % 2 ^ 32
  else if n = 0x005 then viewBase c.slot.swatch / 2 ^ 32
  else if n = 0x006 then c.x.knotiv
  else if 0x008 ≤ n ∧ n ≤ 0x00B then
    (if c.st.hasNeighbour c.t (n - 8) then (c.st.nptrOf c.t (n - 8)).toNat else 0)
  else if n = 0x00C then c.st.pwrcap
  else if n = 0x010 then f.levels.length
  else if n = 0x011 then levelField (f.level 0) LoopLevel.lc
  else if n = 0x012 then levelField (f.level 0) LoopLevel.ls
  else if n = 0x013 then levelField (f.level 0) LoopLevel.le
  else if n = 0x014 then levelField (f.level 1) LoopLevel.lc
  else if n = 0x015 then levelField (f.level 1) LoopLevel.ls
  else if n = 0x016 then levelField (f.level 1) LoopLevel.le
  else if n = 0x020 then f.mctl
  else if n = 0x030 then f.tvec
  else if n = 0x031 then f.tpc
  else if n = 0x032 then f.tstat
  else if n = 0x034 then f.evdl % 2 ^ 32
  else if n = 0x035 then f.evdl / 2 ^ 32
  else if n = 0x036 then f.evpend
  else if n = 0x03E then c.x.pwin f.slot
  else if n = 0x03F then c.x.swin f.slot
  else if n = 0x05F then c.x.sysb c.t
  else c.x.cword n

/-- The innermost-first place of level i in the list of levels. -/
def setLevelLc (ls : List LoopLevel) (i v : Nat) : List LoopLevel :=
  if i < ls.length then ls.modify (ls.length - 1 - i) fun l => { l with lc := v } else ls

/-- The event deadline written: bit 6 is set at once when it has passed already (R344). -/
def Ctx.setEvdl (c : Ctx) (v : Nat) : Ctx :=
  let late := v ≠ 0 ∧ v ≤ Map.get 0 c.st.fieldCtr (c.st.fieldOf c.t)
  { c with f := { c.f with evdl := v, evDue := decide late, evpend := if late then c.f.evpend ||| 64 else c.f.evpend } }

/-- A write of a control word: a read-only word raises 0x11 and changes nothing (R336). -/
def Ctx.cwWrite (c : Ctx) (n v : Nat) : Res Ctx :=
  if n = 0x001 then .ok { c with f := { c.f with round := if v % 8 < 5 then v % 8 else 0 } }
  else if n = 0x002 then .ok { c with f := { c.f with fflags := v % 64 } }
  else if n = 0x011 then .ok { c with f := { c.f with levels := setLevelLc c.f.levels 0 (v % 2 ^ 32) } }
  else if n = 0x014 then .ok { c with f := { c.f with levels := setLevelLc c.f.levels 1 (v % 2 ^ 32) } }
  else if n = 0x020 then .ok { c with f := { c.f with mctl := v % 2 } }
  else if n = 0x030 then .ok { c with f := { c.f with tvec := v % 2 ^ 22 / 4 * 4 } }
  else if n = 0x034 then .ok (c.setEvdl (c.f.evdl / 2 ^ 32 * 2 ^ 32 + v % 2 ^ 32))
  else if n = 0x035 then .ok (c.setEvdl (v % 2 ^ 32 * 2 ^ 32 + c.f.evdl % 2 ^ 32))
  else coreFault c 0x11

/-! ### Issuing one instruction (R91, R94, R165) -/

/-- The state with the tile and the firing of a context put back. -/
def Ctx.store (c : Ctx) : State := c.st.setTile c.t { c.x with firing := some c.f }

/-- A context after an operation on the whole state. -/
def Ctx.onState (c : Ctx) (g : State → State) : Ctx :=
  let s := g c.store
  { c with st := s, x := s.tile c.t, f := (s.tile c.t).firing.getD c.f }

/-- What MFLAGS reads of an accumulator: anchor, saturation flag, invalid flag (R261). -/
def Acc.mflags (a : Acc) : Nat := wrapInt 16 a.anchor + (if a.satFlag then 2 ^ 16 else 0) + (if a.invFlag then 2 ^ 17 else 0)

/-- The log entry of a matrix instruction that completes (R361). -/
def matrixEvent (o : MatOp) : List Nat := [5 + 65536 * o.acc, 0, 0, 0, o.mflags % 2 ^ 32, o.mflags / 2 ^ 32, 0, 0]

/-- A halt of the core for the debugger, WHY as R359 codes it: the slot takes state 6, and the older matrix instructions that the halt waits
for complete and are logged; one that clamped raises its fault instead (R270, R272, R360, R361). While its swatch is being pre-empted a pure or
journaled firing is abandoned (R353 step 2). With STOPALL the swatch stops, its owner's notice with cause 0x28 for every kind of halt, the model's
choice, as no rule gives one (R360; log entry 32). -/
def State.halt (s : State) (t why resumeAt : Nat) : State :=
  match (s.tile t).firing, (s.tile t).matOps.find? (·.clamped) with
  | none, _ => s
  | some _, some o => s.takeFault t 0x0C 2 o.pc
  | some f, none =>
    if (s.swatch (s.slot t f.slot).swatch).preempt.isSome ∧ (s.slot t f.slot).cls ≠ 2 then s.abandon t
    else
    let s1 := s.modTile t fun x =>
      let v := setBitField (setBitField (setBitField (x.cword 0x405) 0 5 f.slot) 5 1 1) 6 2 why
      x.matOps.foldl (fun x o => x.logDebug (matrixEvent o))
        { (x.modSlot f.slot fun sl => sl.setState 6) with
          firing := some { f with phase := .halted resumeAt }, matOps := [], cwords := Map.set x.cwords 0x405 (BitVec.ofNat 32 v) }
    if bitField ((s.tile t).cword 0x400) 2 1 = 1 then s1.stopSwatch (s.slot t f.slot).swatch 0x28 t f.slot else s1

/-- What follows an instruction that has completed: the budget and cycle counts advance by its tc, and the core halts while STEP is set (R164,
R165, R345, R360). -/
def Ctx.retire (c : Ctx) : State :=
  let x1 := { c.x with cycles := (c.x.cycles + 1 + Config.stall c.st.tick c.t) % 2 ^ 64,
                       firing := some { c.f with spent := c.f.spent + 1 + Config.stall c.st.tick c.t, bpPassed := false } }
  let s1 := c.st.setTile c.t x1
  if c.f.phase = .running ∧ bitField (c.x.cword 0x400) 0 1 = 1 ∧ bitField (c.x.cword 0x400) 3 1 = 1 then s1.halt c.t 2 c.f.pc else s1

/-- The firing of tile t set to wait (R91). -/
def State.setWaiting (s : State) (t : Nat) (f : Firing) (c : WaitCond) : State :=
  s.modTile t fun x => { x with firing := some { f with phase := .waiting c } }

/-- An instruction of len bytes issued on the tile in focus: the budget (R165), a long form that starts at the innermost LE (R106), then the
instruction's own meaning; an instruction that ends its firing has that end in after. -/
def issueThen (s : State) (len : Nat) (body : Ctx → Res Ctx) (after : State → State) : Out :=
  match (s.tile s.focus).firing with
  | none => .fault .noFiring
  | some f =>
    if f.phase = .running then
      if (s.slot s.focus f.slot).budget * 256 ≤ f.spent then .next (s.overBudget s.focus)
      else if len = 8 ∧ f.levels.head?.any (fun l => l.le == f.pc) then .next (s.takeFault s.focus 0x01 0 f.pc)
      else
        match body { st := s, t := s.focus, x := s.tile s.focus, f := f } with
        | .ok c => .next (after c.retire)
        | .error (.fault cause unit_ detail) => .next (s.takeFault s.focus cause unit_ detail)
        | .error (.badWord w unit_ detail) => .next (s.takeBadWord s.focus w unit_ detail)
        | .error (.failed s' cause unit_ detail) => .next (s'.takeFault s.focus cause unit_ detail)
        | .error (.wait w) => .next (s.setWaiting s.focus f w)
        | .error (.void p k) => .next (s.voidCommit s.focus (some (p, k)))
    else .fault .noFiring

/-- An instruction after which its firing goes on. -/
def coreOp (s : State) (len : Nat) (body : Ctx → Res Ctx) : Out := issueThen s len body fun s => s

/-- The faults of an instruction name the unit that executes it: 1 vector, 2 matrix (R152; log entry 20). -/
def inUnit (u : Nat) : Res Ctx → Res Ctx
  | .error (.fault cause _ detail) => .error (.fault cause u detail)
  | r => r

/-- An instruction of the vector unit, after which its firing goes on. -/
def vecOp (s : State) (body : Ctx → Res Ctx) : Out := coreOp s 4 fun c => inUnit 1 (body c)

/-- An instruction of the matrix unit, after which its firing goes on. -/
def matOp (s : State) (body : Ctx → Res Ctx) : Out := coreOp s 4 fun c => inUnit 2 (body c)

/-- A one-word instruction that reads scalar sources and writes one scalar result. -/
def scalarOp (s : State) (srcs : List Nat) (d : Nat) (op : Ctx → List Word64 → Res Word64) : Out :=
  coreOp s 4 fun c => do
    let r ← readSrcs c srcs (some d)
    let v ← op c r.1
    (r.2.writeReg d v).complete 4

/-- The same of the vector unit. -/
def vecScalarOp (s : State) (d : Nat) (op : Ctx → Word64) : Out :=
  vecOp s fun c => do
    let r ← readSrcs c [] (some d)
    (r.2.writeReg d (op c)).complete 4

end Sys2Proof.Machine
end

