-- ==== Sys2Proof/Machine/Scalar.lean ====
section
/-! DEFINITION. Scalar integer and address instructions, majors 0x01 to 0x0A (R95 to R100). A and B are the source values as unsigned numbers;
a signed form takes them as two's complement (R95). -/

namespace Sys2Proof.Machine

/-- Least of the numbers below n that are bits set in A, or n. -/
def lowestBit (a : Nat) : Nat → Nat
  | 0 => 0
  | n + 1 => if a % 2 = 1 then 0 else 1 + lowestBit (a / 2) n

/-- Length of A in bits, looking at n of them. -/
def bitLength (a : Nat) : Nat → Nat
  | 0 => 0
  | n + 1 => if a = 0 then 0 else 1 + bitLength (a / 2) n

/-- Number of 1 bits among the low n (R96). -/
def popCount (a : Nat) : Nat → Nat
  | 0 => 0
  | n + 1 => a % 2 + popCount (a / 2) n

/-- CLZ (R96). -/
def clz64 (a : Word64) : Word64 := BitVec.ofNat 64 (64 - bitLength a.toNat 64)

/-- CTZ (R96). -/
def ctz64 (a : Word64) : Word64 := BitVec.ofNat 64 (lowestBit a.toNat 64)

/-- BSWAP: byte i of the result is byte 7 - i (R96). -/
def bswap64 (a : Word64) : Word64 := BitVec.ofNat 64 (leNat (leBytes 8 a.toNat).reverse)

/-- An exact integer result modulo 2^64 (R95). -/
def int64 (x : Int) : Word64 := BitVec.ofNat 64 (wrapInt 64 x)

def bool64 (b : Bool) : Word64 := if b then 1 else 0

/-- Rotation left by k below 64 (R96). -/
def rotl64 (a : Word64) (k : Nat) : Word64 := (a <<< k) ||| (a >>> (64 - k))

/-- Rotation right by k below 64 (R96). -/
def rotr64 (a : Word64) (k : Nat) : Word64 := (a >>> k) ||| (a <<< (64 - k))

/-- The shift count of a register form: bits above the sixth are ignored (R96). -/
def shiftCount (b : Word64) : Nat := b.toNat % 64

/-- A two-operand form whose result depends on the values alone. -/
def scalarBin (s : State) (d a b : Nat) (op : Word64 → Word64 → Word64) : Out :=
  scalarOp s [a, b] d fun _ vs => .ok (op (src vs 0) (src vs 1))

/-- A one-operand form whose result depends on the value alone. -/
def scalarUn (s : State) (d a : Nat) (op : Word64 → Word64) : Out := scalarOp s [a] d fun _ vs => .ok (op (src vs 0))

/-- A form of the divide group: a zero divisor raises 0x09 (R97). -/
def scalarDiv (s : State) (d a b : Nat) (op : Word64 → Word64 → Word64) : Out :=
  scalarOp s [a, b] d fun c vs => if src vs 1 = 0 then coreFault c 0x09 else .ok (op (src vs 0) (src vs 1))

/-- The sign-extended immediate of an I form (R37, R98). -/
def imm16s (i : Nat) : Word64 := BitVec.ofNat 64 (sext64 16 i)

/-- EXTR: the field of len bits at pos (R100). -/
def extractField (a : Word64) (pos len : Nat) : Word64 := BitVec.ofNat 64 (bitField a.toNat pos len)

/-- INSR: D with the field of len bits at pos replaced by the low bits of A (R100). -/
def insertField (d a : Word64) (pos len : Nat) : Word64 := BitVec.ofNat 64 (setBitField d.toNat pos len a.toNat)

/-- ADD: A + B (R96). -/
def execAdd (d a b : Nat) (s : State) : Out := scalarBin s d a b fun a b => a + b

/-- SUB: A - B (R96). -/
def execSub (d a b : Nat) (s : State) : Out := scalarBin s d a b fun a b => a - b

/-- AND: A and B (R96). -/
def execAnd (d a b : Nat) (s : State) : Out := scalarBin s d a b fun a b => a &&& b

/-- OR: A or B (R96). -/
def execOr (d a b : Nat) (s : State) : Out := scalarBin s d a b fun a b => a ||| b

/-- XOR: A xor B (R96). -/
def execXor (d a b : Nat) (s : State) : Out := scalarBin s d a b fun a b => a ^^^ b

/-- ANDN: A and not B (R96). -/
def execAndn (d a b : Nat) (s : State) : Out := scalarBin s d a b fun a b => a &&& ~~~b

/-- ORN: A or not B (R96). -/
def execOrn (d a b : Nat) (s : State) : Out := scalarBin s d a b fun a b => a ||| ~~~b

/-- XNOR: not (A xor B) (R96). -/
def execXnor (d a b : Nat) (s : State) : Out := scalarBin s d a b fun a b => ~~~(a ^^^ b)

/-- SLL: A x 2^k (R96). -/
def execSll (d a b : Nat) (s : State) : Out := scalarBin s d a b fun a b => a <<< shiftCount b

/-- SRL: floor(A / 2^k) (R96). -/
def execSrl (d a b : Nat) (s : State) : Out := scalarBin s d a b fun a b => a >>> shiftCount b

/-- SRA: floor(As / 2^k) (R96). -/
def execSra (d a b : Nat) (s : State) : Out := scalarBin s d a b fun a b => a.sshiftRight (shiftCount b)

/-- ROL: rotation left (R96). -/
def execRol (d a b : Nat) (s : State) : Out := scalarBin s d a b fun a b => rotl64 a (shiftCount b)

/-- ROR: rotation right (R96). -/
def execRor (d a b : Nat) (s : State) : Out := scalarBin s d a b fun a b => rotr64 a (shiftCount b)

/-- SLT: 1 if As < Bs (R96). -/
def execSlt (d a b : Nat) (s : State) : Out := scalarBin s d a b fun a b => bool64 (decide (a.toInt < b.toInt))

/-- SLTN: 1 if A < B (R96). -/
def execSltn (d a b : Nat) (s : State) : Out := scalarBin s d a b fun a b => bool64 (decide (a.toNat < b.toNat))

/-- MIN: the lesser of As and Bs (R96). -/
def execMin (d a b : Nat) (s : State) : Out := scalarBin s d a b fun a b => if a.toInt < b.toInt then a else b

/-- MAX: the greater of As and Bs (R96). -/
def execMax (d a b : Nat) (s : State) : Out := scalarBin s d a b fun a b => if a.toInt < b.toInt then b else a

/-- MINN: the lesser of A and B (R96). -/
def execMinn (d a b : Nat) (s : State) : Out := scalarBin s d a b fun a b => if a.toNat < b.toNat then a else b

/-- MAXN: the greater of A and B (R96). -/
def execMaxn (d a b : Nat) (s : State) : Out := scalarBin s d a b fun a b => if a.toNat < b.toNat then b else a

/-- ADDW: sext(32, (A + B) mod 2^32) (R96). -/
def execAddw (d a b : Nat) (s : State) : Out := scalarBin s d a b fun a b => ((a + b).truncate 32).signExtend 64

/-- SUBW: sext(32, (A - B) mod 2^32) (R96). -/
def execSubw (d a b : Nat) (s : State) : Out := scalarBin s d a b fun a b => ((a - b).truncate 32).signExtend 64

/-- MUL: the low half of the product (R97). -/
def execMul (d a b : Nat) (s : State) : Out := scalarBin s d a b fun a b => BitVec.ofNat 64 (a.toNat * b.toNat)

/-- MULH: the high half of the signed product (R97). -/
def execMulh (d a b : Nat) (s : State) : Out := scalarBin s d a b fun a b => int64 (a.toInt * b.toInt / 2 ^ 64)

/-- MULHN: the high half of the unsigned product (R97). -/
def execMulhn (d a b : Nat) (s : State) : Out := scalarBin s d a b fun a b => BitVec.ofNat 64 (a.toNat * b.toNat / 2 ^ 64)

/-- DIV: truncating signed division; the overflow case wraps (R97). -/
def execDiv (d a b : Nat) (s : State) : Out := scalarDiv s d a b fun a b => int64 (a.toInt.tdiv b.toInt)

/-- DIVN: unsigned division (R97). -/
def execDivn (d a b : Nat) (s : State) : Out := scalarDiv s d a b fun a b => BitVec.ofNat 64 (a.toNat / b.toNat)

/-- REM: the remainder with the sign of the dividend (R97). -/
def execRem (d a b : Nat) (s : State) : Out := scalarDiv s d a b fun a b => int64 (a.toInt - b.toInt * a.toInt.tdiv b.toInt)

/-- REMN: the unsigned remainder (R97). -/
def execRemn (d a b : Nat) (s : State) : Out :=
  scalarDiv s d a b fun a b => BitVec.ofNat 64 (a.toNat - b.toNat * (a.toNat / b.toNat))

/-- CLZ (R96). -/
def execClz (d a : Nat) (s : State) : Out := scalarUn s d a fun a => clz64 a

/-- CTZ (R96). -/
def execCtz (d a : Nat) (s : State) : Out := scalarUn s d a fun a => ctz64 a

/-- POPC (R96). -/
def execPopc (d a : Nat) (s : State) : Out := scalarUn s d a fun a => BitVec.ofNat 64 (popCount a.toNat 64)

/-- BSWAP (R96). -/
def execBswap (d a : Nat) (s : State) : Out := scalarUn s d a fun a => bswap64 a

/-- SEXTI8 (R96). -/
def execSextI8 (d a : Nat) (s : State) : Out := scalarUn s d a fun a => (a.truncate 8).signExtend 64

/-- SEXTI16 (R96). -/
def execSextI16 (d a : Nat) (s : State) : Out := scalarUn s d a fun a => (a.truncate 16).signExtend 64

/-- SEXTI32 (R96). -/
def execSextI32 (d a : Nat) (s : State) : Out := scalarUn s d a fun a => (a.truncate 32).signExtend 64

/-- ZEXTN8 (R96). -/
def execZextN8 (d a : Nat) (s : State) : Out := scalarUn s d a fun a => (a.truncate 8).zeroExtend 64

/-- ZEXTN16 (R96). -/
def execZextN16 (d a : Nat) (s : State) : Out := scalarUn s d a fun a => (a.truncate 16).zeroExtend 64

/-- ZEXTN32 (R96). -/
def execZextN32 (d a : Nat) (s : State) : Out := scalarUn s d a fun a => (a.truncate 32).zeroExtend 64

/-- ADDI: A + Is (R98). -/
def execAddi (d a i : Nat) (s : State) : Out := scalarUn s d a fun a => a + imm16s i

/-- ANDI: A and Iz (R98). -/
def execAndi (d a i : Nat) (s : State) : Out := scalarUn s d a fun a => a &&& BitVec.ofNat 64 (i % 65536)

/-- ORI: A or Iz (R98). -/
def execOri (d a i : Nat) (s : State) : Out := scalarUn s d a fun a => a ||| BitVec.ofNat 64 (i % 65536)

/-- XORI: A xor Iz (R98). -/
def execXori (d a i : Nat) (s : State) : Out := scalarUn s d a fun a => a ^^^ BitVec.ofNat 64 (i % 65536)

/-- SLTI: 1 if As < Is (R98). -/
def execSlti (d a i : Nat) (s : State) : Out := scalarUn s d a fun a => bool64 (decide (a.toInt < (imm16s i).toInt))

/-- SLTIN: 1 if A < Is mod 2^64 (R98). -/
def execSltin (d a i : Nat) (s : State) : Out := scalarUn s d a fun a => bool64 (decide (a.toNat < (imm16s i).toNat))

/-- LIH: the source up 16 bits, the low half from the immediate (R98, R43). -/
def execLih (d a i : Nat) (s : State) : Out := scalarUn s d a fun a => (a <<< 16) ||| BitVec.ofNat 64 (i % 65536)

/-- SLLI (R99). -/
def execSlli (d a h : Nat) (s : State) : Out := scalarUn s d a fun a => a <<< (h % 64)

/-- SRLI (R99). -/
def execSrli (d a h : Nat) (s : State) : Out := scalarUn s d a fun a => a >>> (h % 64)

/-- SRAI (R99). -/
def execSrai (d a h : Nat) (s : State) : Out := scalarUn s d a fun a => a.sshiftRight (h % 64)

/-- RORI (R99). -/
def execRori (d a h : Nat) (s : State) : Out := scalarUn s d a fun a => rotr64 a (h % 64)

/-- EXTR sd, sa, pos, len, with l the encoded len - 1 (R100). -/
def execExtr (d a p l : Nat) (s : State) : Out := scalarUn s d a fun a => extractField a p (l + 1)

/-- INSR sd, sa, pos, len: d is read after a, and may name no q register (R100, R35). -/
def execInsr (d a p l : Nat) (s : State) : Out :=
  if 24 ≤ d then coreOp s 4 fun c => coreFault c 0x06
  else scalarOp s [a, d] d fun _ vs => .ok (insertField (src vs 1) (src vs 0) p (l + 1))

/-- ADDSH sd, sa, sb, sh: A + B x 2^sh (R100). -/
def execAddsh (d a h b : Nat) (s : State) : Out := scalarBin s d a b fun a b => a + (b <<< (h % 8))

end Sys2Proof.Machine
end

