-- ==== Sys2Proof/Machine/Control.lean ====
section
/-! DEFINITION. Control flow within a firing: branches, jumps and calls, and the zero-overhead loop (R102 to R107). -/

namespace Sys2Proof.Machine

/-- A branch: both registers are read, taken or not; a target is checked only when it is taken (R102, R103). -/
def branchOp (s : State) (a b o : Nat) (cond : Word64 → Word64 → Bool) : Out :=
  coreOp s 4 fun c => do
    let r ← readSrcs c [a, b] none
    if cond (src r.1 0) (src r.1 1) then do
      let target : Int := (c.f.pc : Int) + 4 * sextInt 16 o
      checkTarget c target
      .ok { r.2 with f := r.2.f.transfer target.toNat false }
    else r.2.complete 4

/-- BEQ (R102). -/
def execBeq (a b o : Nat) (s : State) : Out := branchOp s a b o fun a b => a == b

/-- BNE (R102). -/
def execBne (a b o : Nat) (s : State) : Out := branchOp s a b o fun a b => !(a == b)

/-- BLT: As < Bs (R102). -/
def execBlt (a b o : Nat) (s : State) : Out := branchOp s a b o fun a b => decide (a.toInt < b.toInt)

/-- BGE: As ≥ Bs (R102). -/
def execBge (a b o : Nat) (s : State) : Out := branchOp s a b o fun a b => decide (b.toInt ≤ a.toInt)

/-- BLTN: A < B (R102). -/
def execBltn (a b o : Nat) (s : State) : Out := branchOp s a b o fun a b => decide (a.toNat < b.toNat)

/-- BGEN: A ≥ B (R102). -/
def execBgen (a b o : Nat) (s : State) : Out := branchOp s a b o fun a b => decide (b.toNat ≤ a.toNat)

/-- JAL: the link to s23, a call (R104, R107). -/
def execJal (o : Nat) (s : State) : Out :=
  coreOp s 4 fun c => do
    let target : Int := (c.f.pc : Int) + 4 * sextInt 26 o
    checkTarget c target
    .ok { c with f := (c.f.writeReg 23 (BitVec.ofNat 64 (c.f.pc + 4))).transfer target.toNat true }

/-- JALR: sa is read before sd takes the link; a call where d is not 0 (R104, R107). -/
def execJalr (d a i : Nat) (s : State) : Out :=
  coreOp s 4 fun c => do
    let r ← readSrcs c [a] (some d)
    let target := (src r.1 0 + imm16s i).toNat
    checkTarget c (target : Int)
    .ok { r.2 with f := (r.2.f.writeReg d (BitVec.ofNat 64 (c.f.pc + 4))).transfer target (!(d == 0)) }

/-- LOOP sa, len: a count from a q register meets its misuse, its wait and its void first (log entry 29); then the checks of R105 whatever the
count, and the level pushed, or the body skipped with the end check at its last word. -/
def execLoop (a l : Nat) (s : State) : Out :=
  coreOp s 4 fun c => do
    let r ← readSrcs c [a] none
    check c (decide (c.f.levels.length < 2)) 0x01
    check c (decide (c.f.pc + 4 * l ≤ 0x002FFFFC)) 0x04
    check c (match c.f.levels.head? with
      | some lv => !(inBody lv c.f.pc && decide (lv.le < c.f.pc + 4 * l))
      | none => true) 0x01
    let le := c.f.pc + 4 * l
    let count := (src r.1 0).toNat % 2 ^ 32
    if count = 0 then
      let e := endCheckAt le (le + 4) c.f.levels
      .ok { r.2 with f := { r.2.f with pc := e.1, levels := e.2 } }
    else .ok { r.2 with f := { r.2.f with pc := c.f.pc + 4, levels := { ls := c.f.pc + 4, le := le, lc := count } :: c.f.levels } }

end Sys2Proof.Machine
end

