-- ==== Sys2Proof/Machine/Dram.lean ====
section
/-! DEFINITION. The context table, page tables and translated DRAM (R299 to R301), and the home and owner functions (R297). -/

namespace Sys2Proof.Machine

/-! ### Off-wafer memory (R11, R329 to R332) -/

/-- Bytes of DRAM from an address up, as the latest writes left them; beyond the module's memory they are free (R11; log entry 12). -/
def State.dramRead (s : State) (a n : Nat) : List Byte :=
  if a + n ≤ memBytes s.variant then Memory.readN s.dram a n
  else (List.range n).map fun i => if a + i < memBytes s.variant then Memory.read s.dram (a + i) else Config.absentByte s.tick (a + i)

/-- Bytes written to DRAM; what lies beyond the module's memory is not kept. -/
def State.dramStore (s : State) (a : Nat) (bs : List Byte) : State :=
  { s with dram := Memory.writeN s.dram a (bs.take (memBytes s.variant - a)) }

/-- Whether the context entry of a tag is valid: its 16 bytes read from the context table (R299). -/
def State.tagLive (s : State) (tag : Nat) : Bool :=
  let b := leNat (s.dramRead (s.context + 16 * tag) 16)
  bitField b 0 1 == 1 && bitField b 1 11 == 0 && b / 2 ^ 52 == 0

/-- ROOT of the context entry of a tag, as an address (R299). -/
def State.root (s : State) (tag : Nat) : Nat :=
  bitField (leNat (s.dramRead (s.context + 16 * tag) 16)) 12 40 * 4096

def State.pte (s : State) (a : Nat) : Nat := leNat (s.dramRead a 8)

/-- What makes an entry at a level fail with 0x10, the run of CONTIG entries apart (R300). -/
def pteBad (level e : Nat) : Bool :=
  let leaf := bitField e 1 1 == 1
  bitField e 0 1 == 0 || bitField e 52 12 != 0 || bitField e 6 6 != 0 || (level == 0 && !leaf) || (decide (3 ≤ level) && leaf) ||
    (bitField e 5 1 == 1 && !(level == 0)) || (leaf && level == 1 && bitField e 12 9 != 0) || (leaf && level == 2 && bitField e 12 18 != 0)

/-- Whether the sixteen level-0 leaves around an entry with CONTIG form a run (R300). -/
def State.contigRun (s : State) (table va : Nat) : Bool :=
  let first := va / 2 ^ 16 * 16 % 512
  let e0 := s.pte (table + 8 * first)
  (e0 / 4096 % 16 == 0) &&
    (List.range 16).all fun i =>
      let e := s.pte (table + 8 * (first + i))
      !pteBad 0 e && bitField e 5 1 == 1 && e % 4096 == e0 % 4096 && bitField e 12 40 == bitField e0 12 40 + i

/-- The walk from a table at level n - 1 down (R300). -/
def State.walkFrom (s : State) (tag va : Nat) : Nat → Nat → Except Nat Xlation
  | 0, _ => .error 0x10
  | level + 1, table =>
    let e := s.pte (table + 8 * (va / 2 ^ (12 + 9 * level) % 512))
    if pteBad level e then .error 0x10
    else if bitField e 1 1 = 1 then
      let run := bitField e 5 1 == 1
      if run && !s.contigRun table va then .error 0x10
      else
        let size := if run then 2 ^ 16 else 2 ^ (12 + 9 * level)
        .ok { tag := tag, base := va / size * size, size := size, pa := bitField e 12 40 * 4096 / size * size, rights := bitField e 2 3 }
    else State.walkFrom s tag va level (bitField e 12 40 * 4096)

/-! ### The gauge view (R140, R141) -/

/-- Where the field table of a swatch's view begins. -/
def fieldTable (w : Swatch) : Nat := 0x40 + 32 * (w.w * w.h)

/-- Bytes of a swatch's view, in whole pages. -/
def State.viewSize (s : State) (w : Swatch) : Nat := (fieldTable w + 64 * (7 * fieldCols s.variant) + 4095) / 4096 * 4096

/-- The physical addresses of a view lie above all of DRAM. -/
def viewPhys (sw : Nat) : Nat := 2 ^ 60 + sw * 2 ^ 32

/-- Whether field f has a neighbour in a direction (R141). -/
def State.fieldHas (s : State) (f dir : Nat) : Bool :=
  let cols := fieldCols s.variant
  if dir = 0 then decide (cols ≤ f)
  else if dir = 1 then decide (f % cols + 1 < cols)
  else if dir = 2 then decide (f / cols < 6)
  else decide (0 < f % cols)

/-- The offset record of field f toward a direction (R141). -/
def State.offsetOf (s : State) (f dir : Nat) : Int × Nat × Int :=
  if s.fieldHas f dir then Map.get (Config.startOffset s.startCount f dir) s.offsets (4 * f + dir) else (0, 0xFFFFFFFF, 0)

/-- A gauge entry as programs see it: 0x80 where the mesh has no neighbour (R126, R138). -/
def State.gaugeEntry (s : State) (t dir : Nat) : Nat := if s.hasNeighbour t dir then (s.gaugeOf t dir).toNat else 0x80

/-- Word i of the view of a swatch (R140, R141). -/
def State.viewWord (s : State) (w : Swatch) (i : Nat) : Nat :=
  let ft := fieldTable w
  if i = 0 then w.w
  else if i = 1 then w.h
  else if i = 2 then fieldCols s.variant
  else if i = 3 then 7
  else if i = 4 then s.gaugeGen % 2 ^ 32
  else if i = 5 then s.gaugeGen / 2 ^ 32
  else if i = 6 then ft
  else if i < 16 then 0
  else if 4 * i < ft then
    let k := (4 * i - 0x40) / 32
    let t := tileId (w.x0 + k % w.w) (w.y0 + k / w.w)
    let j := (4 * i - 0x40) % 32 / 4
    if j < 4 then s.gaugeEntry t j else if j = 4 then s.fieldOf t else 0
  else if 4 * i < ft + 64 * (7 * fieldCols s.variant) then
    let o := 4 * i - ft
    let r := s.offsetOf (o / 64) (o % 64 / 16)
    if o % 16 = 0 then wrapInt 64 r.1 % 2 ^ 32
    else if o % 16 = 4 then wrapInt 64 r.1 / 2 ^ 32
    else if o % 16 = 8 then r.2.1
    else wrapInt 32 r.2.2
  else 0

/-- The n bytes at a physical address: of DRAM, or of a view. -/
def State.physRead (s : State) (a n : Nat) : List Byte :=
  if 2 ^ 60 ≤ a then
    let w := s.swatch ((a - 2 ^ 60) / 2 ^ 32)
    (List.range n).map fun i =>
      let o := (a - 2 ^ 60) % 2 ^ 32 + i
      BitVec.ofNat 8 (s.viewWord w (o / 4) / 2 ^ (8 * (o % 4)))
  else s.dramRead a n

/-- The view that holds a virtual address under a tag, if one does: the view is mapped for reads into every context (R140). -/
def State.viewAt (s : State) (tag va : Nat) : Option Xlation :=
  (s.swatches.find? fun e => e.2.tag == tag && decide (viewBase e.1 ≤ va) && decide (va < viewBase e.1 + s.viewSize e.2)).map fun e =>
    { tag := tag, base := viewBase e.1, size := s.viewSize e.2, pa := viewPhys e.1, rights := 1 }

/-- A page-table walk under a tag (R299, R300). -/
def State.walk (s : State) (tag va : Nat) : Except Nat Xlation :=
  if s.tagLive tag then
    match s.viewAt tag va with
    | some x => .ok x
    | none => s.walkFrom tag va 5 (s.root tag)
  else .error 0x12

/-- The rights an access needs: R 1, W 2, A 4 (R300). -/
def needRights (write atomic watch : Bool) : Nat := if watch then 5 else if atomic then 7 else if write then 2 else 1

def hasRights (rights need : Nat) : Bool := rights &&& need == need

/-- A virtual address translated by a fresh walk (R300). -/
def State.translate (s : State) (tag va need : Nat) : Except Nat Nat := do
  let x ← s.walk tag va
  if hasRights x.rights need then .ok (x.pa + (va - x.base)) else .error 0x11

/-- The pieces of a virtual range that lie in one page of 4 KiB each: address and length. -/
def pagePieces (va n : Nat) : List (Nat × Nat) :=
  if n = 0 then []
  else (List.range ((va + n - 1) / 4096 - va / 4096 + 1)).map fun i =>
    let lo := max va ((va / 4096 + i) * 4096)
    (lo, min (va + n) ((va / 4096 + i + 1) * 4096) - lo)

/-- The bytes of a virtual range, or the cause that reading it meets. -/
def State.readVirt (s : State) (tag va n : Nat) : Except Nat (List Byte) :=
  (pagePieces va n).foldlM (init := []) fun acc p => do
    let a ← s.translate tag p.1 1
    .ok (acc ++ s.physRead a p.2)

/-- Where the pieces of a virtual range lie for a write, or the cause that writing it meets. -/
def State.placeVirt (s : State) (tag va n : Nat) : Except Nat (List (Nat × Nat)) :=
  (pagePieces va n).mapM fun p => do
    let a ← s.translate tag p.1 2
    .ok (a, p.2)

/-! ### Watches (R326) -/

/-- Bytes of an atomic's location by size code (R57). -/
def atomBytes (size : Nat) : Nat := if size = 2 then 4 else if size = 3 then 8 else 16

/-- compare of R324 and R326: the value as signed where n is 0, as unsigned where n is 1. -/
def asOrdered (bits : Nat) (uns : Bool) (v : Nat) : Int := if uns then v else sextInt bits v

/-- Whether a watched value satisfies a condition: ge, le, eq, ne (R326). -/
def watchHolds (cond bits : Nat) (uns : Bool) (y v : Nat) : Bool :=
  if cond = 0 then decide (asOrdered bits uns v ≤ asOrdered bits uns y)
  else if cond = 1 then decide (asOrdered bits uns y ≤ asOrdered bits uns v)
  else if cond = 2 then y == v
  else y != v

/-- Bits of a watch's location. -/
def Watch.bits (w : Watch) : Nat := 8 * atomBytes w.size

/-- Whether the location of a watch satisfies it now. -/
def State.watchNow (s : State) (w : Watch) : Bool :=
  watchHolds w.cond w.bits w.unsigned_ (leNat (s.physRead w.pa (atomBytes w.size))) (w.d.toNat % 2 ^ w.bits)

/-- The reply of a watch with the value of its location, read after every write so far. -/
def State.watchReply (s : State) (w : Watch) (flag : Nat) : State :=
  let seen := fun (g : Engine) => { g with reach := { g.reach with dram := Map.set g.reach.dram w.actor s.dramOrder.last } }
  { s.modTile w.op.tile fun x =>
      { x with atomics := x.atomics.map fun a => if a.id = w.op.run then { a with eng := seen a.eng } else a } with
    memReplies := s.memReplies ++
      [{ op := w.op, station := w.actor, actor := w.actor, seq := w.seq, data := s.physRead w.pa (atomBytes w.size), flag := flag, again := none }]
    watches := s.watches.filter fun v => !(v == w) }

/-- WATCH_REPLY: the registered watches of a location that has been written, in order (R326). -/
def State.checkWatches (s : State) (a n : Nat) : State :=
  let hit := s.watches.filter fun w => !w.waiting && decide (w.pa < a + n) && decide (a < w.pa + atomBytes w.size) && s.watchNow w
  hit.foldl (fun s w => s.watchReply w 0) s

/-- Bytes of DRAM written by the part itself, and the watches checked in service order. -/
def State.memWrite (s : State) (a : Nat) (bs : List Byte) : State := (s.dramStore a bs).checkWatches a bs.length

/-- Bytes written to physical pieces in order. -/
def State.writePieces (s : State) (bs : List Byte) : List (Nat × Nat) → State
  | [] => s
  | (a, n) :: ps => (s.memWrite a (bs.take n)).writePieces (bs.drop n) ps

/-- Bytes written to a virtual range; nothing is written where any page of it refuses. -/
def State.writeVirt (s : State) (tag va : Nat) (bs : List Byte) : Except Nat State := do
  let ps ← s.placeVirt tag va bs.length
  .ok (s.writePieces bs ps)

/-! ### Homes (R297) -/

def mix (k : Nat) : Nat := k * 0x9E3779B97F4A7C15 % 2 ^ 64 / 2 ^ 32

/-- The home station of a page (R297). -/
def State.home (s : State) (tag va : Nat) : Nat :=
  s.stations.getD (mix (tag * 2 ^ 45 + bitField va 12 45) * s.stations.length / 2 ^ 32) 0

/-- The memory actor that owns a physical address (R297). -/
def State.owner (s : State) (pa : Nat) : Nat :=
  s.actors.getD (mix (bitField pa 12 40) * s.actors.length / 2 ^ 32) 0

end Sys2Proof.Machine
end

