-- ==== Sys2Proof/WellFormed.lean ====
section
/-! DEFINITION. Which instructions are well formed: every field within its width and within the range its encoding table gives
(R34 to R57). A step that is no instruction word carries no encoding and is well formed as it stands. -/

namespace Sys2Proof

/-- Codes of VFP types in func[6:5] (R48). -/
def FpType.code : FpType → Nat
  | .f32 => 0 | .f16 => 1 | .bf16 => 2

/-- Codes of VINT widths in func[6:5] (R49). -/
def IntWidth.code : IntWidth → Nat
  | .w32 => 0 | .w16 => 1 | .w8 => 2

/-- Codes of VCMP and VRED types in func[6:5] (R50, R52). -/
def CmpType.code : CmpType → Nat
  | .f32 => 0 | .i32 => 1 | .n32 => 2

/-- Element format codes (R40). -/
def ElemFmt.code : ElemFmt → Nat
  | .f32 => 0 | .f16 => 1 | .bf16 => 2 | .e4m3 => 3 | .e5m2 => 4 | .e3m2 => 5 | .e2m3 => 6 | .e2m1 => 7
  | .i8 => 8 | .i16 => 9 | .i32 => 10 | .i64 => 11 | .n8 => 12 | .n16 => 13 | .n32 => 14 | .n64 => 15

/-- Size codes of ATOM other than AXADD's 4 (R57). -/
def AtomSize.code : AtomSize → Nat
  | .w32 => 2 | .w64 => 3

/-- Role codes of SCFG (R55). -/
def EpRole.code : EpRole → Nat
  | .src => 0 | .dst => 1

/-- Kind codes of SCFG (R55). -/
def EpKind.code : EpKind → Nat
  | .sram => 0 | .dram => 1 | .port => 2

/-- Control-word numbers that the map of R337 lists. -/
def cwAssigned (c : Nat) : Bool :=
  decide (c ≤ 0x006) || (decide (0x008 ≤ c) && decide (c ≤ 0x00C)) || (decide (0x010 ≤ c) && decide (c ≤ 0x016)) ||
  c == 0x020 || (decide (0x030 ≤ c) && decide (c ≤ 0x032)) || (decide (0x034 ≤ c) && decide (c ≤ 0x036)) ||
  (decide (0x03E ≤ c) && decide (c ≤ 0x050)) || c == 0x05F || (decide (0x060 ≤ c) && decide (c ≤ 0x070)) || c == 0x07F ||
  (decide (0x0A0 ≤ c) && decide (c ≤ 0x0B0)) || (decide (0x0C0 ≤ c) && decide (c ≤ 0x0D0)) ||
  (decide (0x400 ≤ c) && decide (c ≤ 0x405))

/-- Well-formedness, one arm per constructor. -/
def Instr.wf (i : Instr) : Bool :=
  match i with
  | .trap c => decide (c < 4096)
  | .tret => true
  | .brk c => decide (c < 4096)
  | .cwr d c => decide (d < 32) && decide (c < 4096) && cwAssigned c
  | .cww a c => decide (a < 32) && decide (c < 4096) && cwAssigned c
  | .waitev d a => decide (d < 32) && decide (a < 32)
  | .rdcyc d => decide (d < 32)
  | .haltq => true
  | .add d a b => decide (d < 32) && decide (a < 32) && decide (b < 32)
  | .sub d a b => decide (d < 32) && decide (a < 32) && decide (b < 32)
  | .and d a b => decide (d < 32) && decide (a < 32) && decide (b < 32)
  | .or d a b => decide (d < 32) && decide (a < 32) && decide (b < 32)
  | .xor d a b => decide (d < 32) && decide (a < 32) && decide (b < 32)
  | .andn d a b => decide (d < 32) && decide (a < 32) && decide (b < 32)
  | .orn d a b => decide (d < 32) && decide (a < 32) && decide (b < 32)
  | .xnor d a b => decide (d < 32) && decide (a < 32) && decide (b < 32)
  | .sll d a b => decide (d < 32) && decide (a < 32) && decide (b < 32)
  | .srl d a b => decide (d < 32) && decide (a < 32) && decide (b < 32)
  | .sra d a b => decide (d < 32) && decide (a < 32) && decide (b < 32)
  | .rol d a b => decide (d < 32) && decide (a < 32) && decide (b < 32)
  | .ror d a b => decide (d < 32) && decide (a < 32) && decide (b < 32)
  | .slt d a b => decide (d < 32) && decide (a < 32) && decide (b < 32)
  | .sltn d a b => decide (d < 32) && decide (a < 32) && decide (b < 32)
  | .min d a b => decide (d < 32) && decide (a < 32) && decide (b < 32)
  | .max d a b => decide (d < 32) && decide (a < 32) && decide (b < 32)
  | .minn d a b => decide (d < 32) && decide (a < 32) && decide (b < 32)
  | .maxn d a b => decide (d < 32) && decide (a < 32) && decide (b < 32)
  | .addw d a b => decide (d < 32) && decide (a < 32) && decide (b < 32)
  | .subw d a b => decide (d < 32) && decide (a < 32) && decide (b < 32)
  | .mul d a b => decide (d < 32) && decide (a < 32) && decide (b < 32)
  | .mulh d a b => decide (d < 32) && decide (a < 32) && decide (b < 32)
  | .mulhn d a b => decide (d < 32) && decide (a < 32) && decide (b < 32)
  | .div d a b => decide (d < 32) && decide (a < 32) && decide (b < 32)
  | .divn d a b => decide (d < 32) && decide (a < 32) && decide (b < 32)
  | .rem d a b => decide (d < 32) && decide (a < 32) && decide (b < 32)
  | .remn d a b => decide (d < 32) && decide (a < 32) && decide (b < 32)
  | .clz d a => decide (d < 32) && decide (a < 32)
  | .ctz d a => decide (d < 32) && decide (a < 32)
  | .popc d a => decide (d < 32) && decide (a < 32)
  | .bswap d a => decide (d < 32) && decide (a < 32)
  | .sextI8 d a => decide (d < 32) && decide (a < 32)
  | .sextI16 d a => decide (d < 32) && decide (a < 32)
  | .sextI32 d a => decide (d < 32) && decide (a < 32)
  | .zextN8 d a => decide (d < 32) && decide (a < 32)
  | .zextN16 d a => decide (d < 32) && decide (a < 32)
  | .zextN32 d a => decide (d < 32) && decide (a < 32)
  | .addi d a i => decide (d < 32) && decide (a < 32) && decide (i < 65536)
  | .andi d a i => decide (d < 32) && decide (a < 32) && decide (i < 65536)
  | .ori d a i => decide (d < 32) && decide (a < 32) && decide (i < 65536)
  | .xori d a i => decide (d < 32) && decide (a < 32) && decide (i < 65536)
  | .slti d a i => decide (d < 32) && decide (a < 32) && decide (i < 65536)
  | .sltin d a i => decide (d < 32) && decide (a < 32) && decide (i < 65536)
  | .lih d a i => decide (d < 32) && decide (a < 32) && decide (i < 65536)
  | .slli d a h => decide (d < 32) && decide (a < 32) && decide (h < 64)
  | .srli d a h => decide (d < 32) && decide (a < 32) && decide (h < 64)
  | .srai d a h => decide (d < 32) && decide (a < 32) && decide (h < 64)
  | .rori d a h => decide (d < 32) && decide (a < 32) && decide (h < 64)
  | .extr d a p l => decide (d < 32) && decide (a < 32) && decide (p < 64) && decide (l < 64) && decide (p + l < 64)
  | .insr d a p l => decide (d < 32) && decide (a < 32) && decide (p < 64) && decide (l < 64) && decide (p + l < 64)
  | .addsh d a h b => decide (d < 32) && decide (a < 32) && decide (h < 8) && decide (b < 32)
  | .beq a b o => decide (a < 32) && decide (b < 32) && decide (o < 65536)
  | .bne a b o => decide (a < 32) && decide (b < 32) && decide (o < 65536)
  | .blt a b o => decide (a < 32) && decide (b < 32) && decide (o < 65536)
  | .bge a b o => decide (a < 32) && decide (b < 32) && decide (o < 65536)
  | .bltn a b o => decide (a < 32) && decide (b < 32) && decide (o < 65536)
  | .bgen a b o => decide (a < 32) && decide (b < 32) && decide (o < 65536)
  | .jal o => decide (o < 67108864)
  | .jalr d a i => decide (d < 32) && decide (a < 32) && decide (i < 65536)
  | .loop a l => decide (a < 32) && decide (l < 65536) && decide (l ≠ 0)
  | .ldsB d a o => decide (d < 32) && decide (a < 32) && decide (o < 8192)
  | .ldsBn d a o => decide (d < 32) && decide (a < 32) && decide (o < 8192)
  | .ldsH d a o => decide (d < 32) && decide (a < 32) && decide (o < 8192)
  | .ldsHn d a o => decide (d < 32) && decide (a < 32) && decide (o < 8192)
  | .ldsW d a o => decide (d < 32) && decide (a < 32) && decide (o < 8192)
  | .ldsWn d a o => decide (d < 32) && decide (a < 32) && decide (o < 8192)
  | .ldsD d a o => decide (d < 32) && decide (a < 32) && decide (o < 8192)
  | .stsB d a o => decide (d < 32) && decide (a < 32) && decide (o < 8192)
  | .stsH d a o => decide (d < 32) && decide (a < 32) && decide (o < 8192)
  | .stsW d a o => decide (d < 32) && decide (a < 32) && decide (o < 8192)
  | .stsD d a o => decide (d < 32) && decide (a < 32) && decide (o < 8192)
  | .vld d a o => decide (d < 32) && decide (a < 32) && decide (o < 8192)
  | .vlds d a o => decide (d < 32) && decide (a < 32) && decide (o < 8192)
  | .vldz d a o => decide (d < 32) && decide (a < 32) && decide (o < 8192)
  | .vldb d a o => decide (d < 32) && decide (a < 32) && decide (o < 8192)
  | .vldx d a b m z h => decide (d < 32) && decide (a < 32) && decide (b < 32) && decide (m < 8) && decide (h < 4) && decide ((z = false ∨ m ≠ 0))
  | .vst d a o => decide (d < 32) && decide (a < 32) && decide (o < 8192)
  | .vsts d a o => decide (d < 32) && decide (a < 32) && decide (o < 8192)
  | .vstz d a o => decide (d < 32) && decide (a < 32) && decide (o < 8192)
  | .vstx d a b m h => decide (d < 32) && decide (a < 32) && decide (b < 32) && decide (m < 8) && decide (h < 4)
  | .pcnt d p => decide (d < 32) && decide (p < 8)
  | .pfree d p => decide (d < 32) && decide (p < 8)
  | .peek d a p => decide (d < 32) && decide (a < 32) && decide (p < 8)
  | .pskip a p => decide (a < 32) && decide (p < 8)
  | .vtake d p => decide (d < 32) && decide (p < 8)
  | .vput a p => decide (a < 32) && decide (p < 8)
  | .pscale d p => decide (d < 32) && decide (p < 8)
  | .pscalew a p => decide (a < 32) && decide (p < 8)
  | .pmark p => decide (p < 8)
  | .pismark d p => decide (d < 32) && decide (p < 8)
  | .gauge d r => decide (d < 32) && decide (r < 4)
  | .nptr d r => decide (d < 32) && decide (r < 4)
  | .fctr d => decide (d < 32)
  | .endF => true
  | .voidf => true
  | .aborts => true
  | .jstW d a => decide (d < 32) && decide (a < 32)
  | .jstD d a => decide (d < 32) && decide (a < 32)
  | .taken d p => decide (d < 32) && decide (p < 8)
  | .made d p => decide (d < 32) && decide (p < 8)
  | .scope d a => decide (d < 32) && decide (a < 32)
  | .seal a => decide (a < 32)
  | .ordinal d => decide (d < 32)
  | .vfadd d a b m z _ => decide (d < 32) && decide (a < 32) && decide (b < 32) && decide (m < 8) && decide ((z = false ∨ m ≠ 0))
  | .vfsub d a b m z _ => decide (d < 32) && decide (a < 32) && decide (b < 32) && decide (m < 8) && decide ((z = false ∨ m ≠ 0))
  | .vfmul d a b m z _ => decide (d < 32) && decide (a < 32) && decide (b < 32) && decide (m < 8) && decide ((z = false ∨ m ≠ 0))
  | .vfdiv d a b m z _ => decide (d < 32) && decide (a < 32) && decide (b < 32) && decide (m < 8) && decide ((z = false ∨ m ≠ 0))
  | .vfsqrt d a m z _ => decide (d < 32) && decide (a < 32) && decide (m < 8) && decide ((z = false ∨ m ≠ 0))
  | .vfmin d a b m z _ => decide (d < 32) && decide (a < 32) && decide (b < 32) && decide (m < 8) && decide ((z = false ∨ m ≠ 0))
  | .vfmax d a b m z _ => decide (d < 32) && decide (a < 32) && decide (b < 32) && decide (m < 8) && decide ((z = false ∨ m ≠ 0))
  | .vfabs d a m z _ => decide (d < 32) && decide (a < 32) && decide (m < 8) && decide ((z = false ∨ m ≠ 0))
  | .vfneg d a m z _ => decide (d < 32) && decide (a < 32) && decide (m < 8) && decide ((z = false ∨ m ≠ 0))
  | .vfclass d a m z _ => decide (d < 32) && decide (a < 32) && decide (m < 8) && decide ((z = false ∨ m ≠ 0))
  | .vfmaVfp d a b m z _ => decide (d < 32) && decide (a < 32) && decide (b < 32) && decide (m < 8) && decide ((z = false ∨ m ≠ 0))
  | .vfmsVfp d a b m z _ => decide (d < 32) && decide (a < 32) && decide (b < 32) && decide (m < 8) && decide ((z = false ∨ m ≠ 0))
  | .vfnmaVfp d a b m z _ => decide (d < 32) && decide (a < 32) && decide (b < 32) && decide (m < 8) && decide ((z = false ∨ m ≠ 0))
  | .vfnmsVfp d a b m z _ => decide (d < 32) && decide (a < 32) && decide (b < 32) && decide (m < 8) && decide ((z = false ∨ m ≠ 0))
  | .vfmaV4 d a b c m z => decide (d < 32) && decide (a < 32) && decide (b < 32) && decide (c < 32) && decide (m < 8) && decide ((z = false ∨ m ≠ 0))
  | .vfmsV4 d a b c m z => decide (d < 32) && decide (a < 32) && decide (b < 32) && decide (c < 32) && decide (m < 8) && decide ((z = false ∨ m ≠ 0))
  | .vfnmaV4 d a b c m z => decide (d < 32) && decide (a < 32) && decide (b < 32) && decide (c < 32) && decide (m < 8) && decide ((z = false ∨ m ≠ 0))
  | .vfnmsV4 d a b c m z => decide (d < 32) && decide (a < 32) && decide (b < 32) && decide (c < 32) && decide (m < 8) && decide ((z = false ∨ m ≠ 0))
  | .vadd d a b m z _ => decide (d < 32) && decide (a < 32) && decide (b < 32) && decide (m < 8) && decide ((z = false ∨ m ≠ 0))
  | .vsub d a b m z _ => decide (d < 32) && decide (a < 32) && decide (b < 32) && decide (m < 8) && decide ((z = false ∨ m ≠ 0))
  | .vmul d a b m z _ => decide (d < 32) && decide (a < 32) && decide (b < 32) && decide (m < 8) && decide ((z = false ∨ m ≠ 0))
  | .vmulhI d a b m z _ => decide (d < 32) && decide (a < 32) && decide (b < 32) && decide (m < 8) && decide ((z = false ∨ m ≠ 0))
  | .vmulhN d a b m z _ => decide (d < 32) && decide (a < 32) && decide (b < 32) && decide (m < 8) && decide ((z = false ∨ m ≠ 0))
  | .vand d a b m z _ => decide (d < 32) && decide (a < 32) && decide (b < 32) && decide (m < 8) && decide ((z = false ∨ m ≠ 0))
  | .vor d a b m z _ => decide (d < 32) && decide (a < 32) && decide (b < 32) && decide (m < 8) && decide ((z = false ∨ m ≠ 0))
  | .vxor d a b m z _ => decide (d < 32) && decide (a < 32) && decide (b < 32) && decide (m < 8) && decide ((z = false ∨ m ≠ 0))
  | .vandn d a b m z _ => decide (d < 32) && decide (a < 32) && decide (b < 32) && decide (m < 8) && decide ((z = false ∨ m ≠ 0))
  | .vsll d a b m z _ => decide (d < 32) && decide (a < 32) && decide (b < 32) && decide (m < 8) && decide ((z = false ∨ m ≠ 0))
  | .vsrl d a b m z _ => decide (d < 32) && decide (a < 32) && decide (b < 32) && decide (m < 8) && decide ((z = false ∨ m ≠ 0))
  | .vsra d a b m z _ => decide (d < 32) && decide (a < 32) && decide (b < 32) && decide (m < 8) && decide ((z = false ∨ m ≠ 0))
  | .vminI d a b m z _ => decide (d < 32) && decide (a < 32) && decide (b < 32) && decide (m < 8) && decide ((z = false ∨ m ≠ 0))
  | .vminN d a b m z _ => decide (d < 32) && decide (a < 32) && decide (b < 32) && decide (m < 8) && decide ((z = false ∨ m ≠ 0))
  | .vmaxI d a b m z _ => decide (d < 32) && decide (a < 32) && decide (b < 32) && decide (m < 8) && decide ((z = false ∨ m ≠ 0))
  | .vmaxN d a b m z _ => decide (d < 32) && decide (a < 32) && decide (b < 32) && decide (m < 8) && decide ((z = false ∨ m ≠ 0))
  | .vaddsI d a b m z _ => decide (d < 32) && decide (a < 32) && decide (b < 32) && decide (m < 8) && decide ((z = false ∨ m ≠ 0))
  | .vaddsN d a b m z _ => decide (d < 32) && decide (a < 32) && decide (b < 32) && decide (m < 8) && decide ((z = false ∨ m ≠ 0))
  | .vsubsI d a b m z _ => decide (d < 32) && decide (a < 32) && decide (b < 32) && decide (m < 8) && decide ((z = false ∨ m ≠ 0))
  | .vsubsN d a b m z _ => decide (d < 32) && decide (a < 32) && decide (b < 32) && decide (m < 8) && decide ((z = false ∨ m ≠ 0))
  | .vabsdI d a b m z _ => decide (d < 32) && decide (a < 32) && decide (b < 32) && decide (m < 8) && decide ((z = false ∨ m ≠ 0))
  | .vabsdN d a b m z _ => decide (d < 32) && decide (a < 32) && decide (b < 32) && decide (m < 8) && decide ((z = false ∨ m ≠ 0))
  | .vdot4I8 d a b m z => decide (d < 32) && decide (a < 32) && decide (b < 32) && decide (m < 8) && decide ((z = false ∨ m ≠ 0))
  | .vdot4N8 d a b m z => decide (d < 32) && decide (a < 32) && decide (b < 32) && decide (m < 8) && decide ((z = false ∨ m ≠ 0))
  | .vceq d a b m z _ => decide (d < 32) && decide (a < 32) && decide (b < 32) && decide (m < 8) && decide ((z = false ∨ m ≠ 0))
  | .vcne d a b m z _ => decide (d < 32) && decide (a < 32) && decide (b < 32) && decide (m < 8) && decide ((z = false ∨ m ≠ 0))
  | .vclt d a b m z _ => decide (d < 32) && decide (a < 32) && decide (b < 32) && decide (m < 8) && decide ((z = false ∨ m ≠ 0))
  | .vcle d a b m z _ => decide (d < 32) && decide (a < 32) && decide (b < 32) && decide (m < 8) && decide ((z = false ∨ m ≠ 0))
  | .vcgt d a b m z _ => decide (d < 32) && decide (a < 32) && decide (b < 32) && decide (m < 8) && decide ((z = false ∨ m ≠ 0))
  | .vcge d a b m z _ => decide (d < 32) && decide (a < 32) && decide (b < 32) && decide (m < 8) && decide ((z = false ∨ m ≠ 0))
  | .vcun d a b m z => decide (d < 32) && decide (a < 32) && decide (b < 32) && decide (m < 8) && decide ((z = false ∨ m ≠ 0))
  | .vsel d a b k => decide (d < 32) && decide (a < 32) && decide (b < 32) && decide (k < 8) && decide (k ≠ 0)
  | .vcvtF32I32 d a m z => decide (d < 32) && decide (a < 32) && decide (m < 8) && decide ((z = false ∨ m ≠ 0))
  | .vcvtF32N32 d a m z => decide (d < 32) && decide (a < 32) && decide (m < 8) && decide ((z = false ∨ m ≠ 0))
  | .vcvtI32F32 d a m z => decide (d < 32) && decide (a < 32) && decide (m < 8) && decide ((z = false ∨ m ≠ 0))
  | .vcvtN32F32 d a m z => decide (d < 32) && decide (a < 32) && decide (m < 8) && decide ((z = false ∨ m ≠ 0))
  | .vpkF16 d a b m z => decide (d < 32) && decide (a < 32) && decide (b < 32) && decide (m < 8) && decide ((z = false ∨ m ≠ 0))
  | .vpkBf16 d a b m z => decide (d < 32) && decide (a < 32) && decide (b < 32) && decide (m < 8) && decide ((z = false ∨ m ≠ 0))
  | .vupkF16 d a q m z => decide (d < 32) && decide (a < 32) && decide (q < 2) && decide (m < 8) && decide ((z = false ∨ m ≠ 0))
  | .vupkBf16 d a q m z => decide (d < 32) && decide (a < 32) && decide (q < 2) && decide (m < 8) && decide ((z = false ∨ m ≠ 0))
  | .vpkE4m3 d a q m z => decide (d < 32) && decide (a < 32) && decide (q < 4) && decide (m < 8) && decide ((z = false ∨ m ≠ 0))
  | .vpkE5m2 d a q m z => decide (d < 32) && decide (a < 32) && decide (q < 4) && decide (m < 8) && decide ((z = false ∨ m ≠ 0))
  | .vpkE3m2 d a q m z => decide (d < 32) && decide (a < 32) && decide (q < 4) && decide (m < 8) && decide ((z = false ∨ m ≠ 0))
  | .vpkE2m3 d a q m z => decide (d < 32) && decide (a < 32) && decide (q < 4) && decide (m < 8) && decide ((z = false ∨ m ≠ 0))
  | .vpkE2m1 d a q m z => decide (d < 32) && decide (a < 32) && decide (q < 8) && decide (m < 8) && decide ((z = false ∨ m ≠ 0))
  | .vupkE4m3 d a q m z => decide (d < 32) && decide (a < 32) && decide (q < 4) && decide (m < 8) && decide ((z = false ∨ m ≠ 0))
  | .vupkE5m2 d a q m z => decide (d < 32) && decide (a < 32) && decide (q < 4) && decide (m < 8) && decide ((z = false ∨ m ≠ 0))
  | .vupkE3m2 d a q m z => decide (d < 32) && decide (a < 32) && decide (q < 4) && decide (m < 8) && decide ((z = false ∨ m ≠ 0))
  | .vupkE2m3 d a q m z => decide (d < 32) && decide (a < 32) && decide (q < 4) && decide (m < 8) && decide ((z = false ∨ m ≠ 0))
  | .vupkE2m1 d a q m z => decide (d < 32) && decide (a < 32) && decide (q < 8) && decide (m < 8) && decide ((z = false ∨ m ≠ 0))
  | .vrsum d a m _ => decide (d < 32) && decide (a < 32) && decide (m < 8)
  | .vrmin d a m _ => decide (d < 32) && decide (a < 32) && decide (m < 8)
  | .vrmax d a m _ => decide (d < 32) && decide (a < 32) && decide (m < 8)
  | .vrand d a m t => decide (d < 32) && decide (a < 32) && decide (m < 8) && decide (t ≠ .f32)
  | .vror d a m t => decide (d < 32) && decide (a < 32) && decide (m < 8) && decide (t ≠ .f32)
  | .vrxor d a m t => decide (d < 32) && decide (a < 32) && decide (m < 8) && decide (t ≠ .f32)
  | .vperm d a b m z => decide (d < 32) && decide (a < 32) && decide (b < 32) && decide (m < 8) && decide ((z = false ∨ m ≠ 0))
  | .vshuf d a b m z => decide (d < 32) && decide (a < 32) && decide (b < 32) && decide (m < 8) && decide ((z = false ∨ m ≠ 0))
  | .vslideu d a k m z => decide (d < 32) && decide (a < 32) && decide (k < 16) && decide (m < 8) && decide ((z = false ∨ m ≠ 0))
  | .vslided d a k m z => decide (d < 32) && decide (a < 32) && decide (k < 16) && decide (m < 8) && decide ((z = false ∨ m ≠ 0))
  | .vmv d a m z => decide (d < 32) && decide (a < 32) && decide (m < 8) && decide ((z = false ∨ m ≠ 0))
  | .vsplat d a m z => decide (d < 32) && decide (a < 32) && decide (m < 8) && decide ((z = false ∨ m ≠ 0))
  | .vins d a k m z => decide (d < 32) && decide (a < 32) && decide (k < 16) && decide (m < 8) && decide ((z = false ∨ m ≠ 0))
  | .vext d a k => decide (d < 32) && decide (a < 32) && decide (k < 16)
  | .vmsk d a => decide (d < 32) && decide (a < 32)
  | .mshape m s => decide (m < 8) && decide (s < 32)
  | .mzero c => decide (c < 4)
  | .manch c s => decide (c < 4) && decide (s < 32)
  | .mflags c s => decide (c < 4) && decide (s < 32)
  | .mld m s => decide (m < 8) && decide (s < 32)
  | .mldT m s => decide (m < 8) && decide (s < 32)
  | .mst m s => decide (m < 8) && decide (s < 32)
  | .mlds m s => decide (m < 8) && decide (s < 32)
  | .mldx m s => decide (m < 8) && decide (s < 32)
  | .mma c a b => decide (c < 4) && decide (a < 8) && decide (b < 8)
  | .mmaS c a b => decide (c < 4) && decide (a < 8) && decide (b < 8)
  | .mmaQ c a b => decide (c < 4) && decide (a < 8) && decide (b < 8)
  | .madda c s => decide (c < 4) && decide (s < 4)
  | .mdrain c s _ => decide (c < 4) && decide (s < 32)
  | .mdrainM c s _ => decide (c < 4) && decide (s < 32)
  | .mread c s => decide (c < 4) && decide (s < 32)
  | .sgo a => decide (a < 16)
  | .sstop a => decide (a < 16)
  | .sstat d a => decide (d < 32) && decide (a < 16)
  | .sbar a => decide (a < 32)
  | .creq a => decide (a < 32)
  | .waitmsg => true
  | .msgtake d => decide (d < 32)
  | .msgcnt d => decide (d < 32)
  | .msgdrop => true
  | .scfg d a _ _ f i => decide (d < 16) && decide (a < 32) && decide (i < 4294967296) && decide (f ≠ .e2m1)
  | .sdim d a l i => decide (d < 16) && decide (a < 32) && decide (l < 4) && decide (i < 4294967296)
  | .copy d a b i => decide (d < 32) && decide (a < 32) && decide (b < 32) && decide (i < 4294967296)
  | .send d a tag i => decide (d < 32) && decide (a < 32) && decide (tag < 65536) && decide (i < 4294967296)
  | .aadd d a _ i => decide (d < 32) && decide (a < 32) && decide (i < 4294967296)
  | .aand d a _ i => decide (d < 32) && decide (a < 32) && decide (i < 4294967296)
  | .aor d a _ i => decide (d < 32) && decide (a < 32) && decide (i < 4294967296)
  | .axor d a _ i => decide (d < 32) && decide (a < 32) && decide (i < 4294967296)
  | .amin d a _ _ i => decide (d < 32) && decide (a < 32) && decide (i < 4294967296)
  | .amax d a _ _ i => decide (d < 32) && decide (a < 32) && decide (i < 4294967296)
  | .aswap d a _ i => decide (d < 32) && decide (a < 32) && decide (i < 4294967296)
  | .acas d a b _ i => decide (d < 32) && decide (a < 32) && decide (b < 32) && decide (i < 4294967296)
  | .axadd d a b i => decide (d < 32) && decide (a < 32) && decide (b < 32) && decide (i < 4294967296)
  | .awatch d a b _ _ i => decide (d < 32) && decide (a < 32) && decide (b < 4) && decide (i < 4294967296)
  | .seminc a b => decide (a < 32) && decide (b < 32)
  | .semdec a b => decide (a < 32) && decide (b < 32)
  | .semwait a b => decide (a < 32) && decide (b < 32)
  | .semrd d b => decide (d < 32) && decide (b < 32)
  | .semset a b => decide (a < 32) && decide (b < 32)
  | .fenceCore => true
  | .fenceXpath => true
  | .fenceStr a => decide (a < 32)
  | .fenceLvl l => decide (l < 32)
  | .binit a b => decide (a < 32) && decide (b < 32)
  | .arrive d a b => decide (d < 32) && decide (a < 32) && decide (b < 32)
  | .arrivedrop d a b => decide (d < 32) && decide (a < 32) && decide (b < 32)
  | .bwait a b => decide (a < 32) && decide (b < 32)
  | .btest d a b => decide (d < 32) && decide (a < 32) && decide (b < 32)
  | .bret a => decide (a < 32)
  | .bexp a b => decide (a < 32) && decide (b < 32)
  | .cwLcWrite level a => decide (level < 2) && decide (a < 32)
  | .cwFflagsWrite a => decide (a < 32)
  | .cwRoundWrite a => decide (a < 32)
  | .cwMctlWrite a => decide (a < 32)
  | .firingStart _ => true
  | .commitPoint _ => true
  | .budgetExceeded _ => true
  | .firingRetry _ => true
  | .instructionWaitEnd _ => true
  | .tokenLanding _ _ => true
  | .recordFetch _ => true
  | .tileWake _ => true
  | .tileGating _ _ => true
  | .slotReturn _ _ => true
  | .activeMessageLanding _ _ => true
  | .permitReturn _ _ => true
  | .loopClose _ _ => true
  | .closeReply _ _ => true
  | .loopDiscard _ _ => true
  | .scopeComplete _ _ => true
  | .scopeAborted _ _ => true
  | .castOnSegment _ _ => true
  | .followHoldRelease _ _ => true
  | .configurationComplete _ => true
  | .knotIntervalExpiry _ => true
  | .knotProbe _ => true
  | .starvedCycleProbe _ => true
  | .knotReport _ => true
  | .starvedCycleReport _ => true
  | .rebalancerMove _ _ _ _ => true
  | .rebindHold _ _ => true
  | .holdAcknowledgement _ _ => true
  | .remapEntryChange _ _ _ => true
  | .flitCrcError _ => true
  | .laneDiagnosis _ _ => true
  | .pathDown _ _ _ => true
  | .gaugeRefresh _ _ _ => true
  | .fieldOffsetMeasurement _ _ _ _ _ => true
  | .eventDeadline _ => true
  | .scrub _ _ => true
  | .parityDelta _ => true
  | .darning _ _ => true
  | .tileRetirement _ _ => true
  | .regulatorPhaseLoss _ _ => true
  | .streamElement _ _ => true
  | .translationProbe _ => true
  | .pageWalk _ => true
  | .probeReply _ => true
  | .faultNotice _ => true
  | .memoryRequest _ => true
  | .memoryReply _ => true
  | .watchRegister _ => true
  | .streamStopBoundary _ _ => true
  | .copyRequestToken _ _ _ => true
  | .completionMessage _ _ => true
  | .hostSink _ => true
  | .remoteArrival _ _ => true
  | .matrixStart _ _ => true
  | .matrixComplete _ _ => true
  | .arrayIdle _ => true
  | .activityGrant _ => true
  | .rampEnd _ => true
  | .swatchStopped _ => true
  | .preemptSave _ => true
  | .bindOffRelease _ => true
  | .homeListRebuild _ _ => true
  | .powerFailTrap => true
  | .flashDrain => true
  | .gridSignal _ => true
  | .powerWindow _ => true
  | .coldStart => true
  | .warmStart => true
  | .ownerSilence => true
  | .peerLinkDown _ => true
  | .launch _ _ => true
  | .sealScope _ _ _ => true
  | .abortScope _ _ _ => true
  | .releaseScope _ _ _ => true
  | .waitscope _ _ _ => true
  | .preempt _ _ _ _ => true
  | .stopanswer _ _ _ => true
  | .bindoff _ _ => true
  | .reknit _ _ => true
  | .faultanswer _ _ _ => true
  | .readnodes _ _ _ _ _ _ => true
  | .readlog _ _ _ _ _ => true
  | .sempost _ _ _ _ _ _ _ => true
  | .xlateinv _ _ _ _ _ => true
  | .setctx _ _ => true
  | .powerstep _ _ => true
  | .debugCmd _ _ _ => true
  | .attest _ _ _ => true
  | .handover _ _ => true
  | .guilt _ _ _ => true
  | .bindpeer _ _ _ _ _ => true
  | .persist _ _ _ => true
  | .status _ _ => true
  | .token _ _ _ _ _ => true
  | .qcreate _ _ _ _ _ _ _ => true
  | .qdelete _ _ _ => true
  | .illegalInstruction => true
  | .malformedPacket _ => true
  | .copyWord _ _ => true
  | .powerFailDeadline => true
  | .firmwareImage _ => true

end Sys2Proof
end

