-- ==== Sys2Proof/Machine/LocalMem.lean ====
section
/-! DEFINITION. Local loads and stores and the register windows, majors 0x15 to 0x18 (R88 to R90, R209 to R224). -/

namespace Sys2Proof.Machine

/-- What a local address names (R88, R217 step 1). -/
inductive LocalKind where
  | sram | control | vector | scalar
  deriving DecidableEq, Repr

/-- The window that holds a local address; none where the address is reserved or beyond (R88). -/
def localKind (a : Nat) : Option LocalKind :=
  if a < sramEnd then some .sram
  else if 0x003FD000 ≤ a ∧ a ≤ 0x003FDFFF then some .control
  else if 0x003FE000 ≤ a ∧ a ≤ 0x003FE7FF then some .vector
  else if 0x003FF000 ≤ a ∧ a ≤ 0x003FF0FF then some .scalar
  else none

/-- Whether the owner of a byte permits a core access of slot k (R212). -/
def ownerAllows (pl : Place) (k : Nat) (direct store : Bool) : Bool :=
  match pl with
  | .own j => if store then j == k && direct else true
  | .scratch j => j == k
  | .unowned => false
  | .system => false

/-- The checks of R217 over the addresses of the enabled lanes, n bytes each; windowOk says what R89 permits in a register window. Answers
the kind of place that they all lie in; the detail of a failure is the address of the lowest-numbered failing lane. Where the enabled lanes
lie in different windows, the first whose window is not that of the lowest enabled one fails step 3 (log entry 32). -/
def checkLocal (c : Ctx) (store : Bool) (n : Nat) (addrs : List Nat) (windowOk : LocalKind → Nat → Bool) : Res LocalKind :=
  match addrs.find? fun a => (localKind a).isNone with
  | some a => .error (.fault 0x04 0 a)
  | none =>
    match addrs.find? fun a => !(a % n == 0) with
    | some a => .error (.fault 0x03 0 a)
    | none =>
      let kind := (addrs.head?.bind localKind).getD .sram
      match addrs.find? fun a => !(localKind a == some kind) || (!(kind == .sram) && !windowOk kind a) with
      | some a => .error (.fault 0x05 0 a)
      | none =>
        if kind = .sram then
          match addrs.find? fun a => !ownerAllows (c.x.place c.t a) c.f.slot (c.slot.cls == 2) store with
          | some a => .error (.fault 0x11 0 a)
          | none =>
            if store then
              match addrs.find? fun a => touchesBarrier c.x.barriers a n with
              | some a => .error (.fault 0x19 0 a)
              | none => .ok .sram
            else
              match addrs.findSome? fun a => (c.x.badWord a n).map fun w => (w, a) with
              | some w => .error (.badWord w.1 8 w.2)
              | none => .ok .sram
        else .ok kind

/-- The place in the tile's service order of a core read of n bytes (R332; log entry 8). -/
def Ctx.placeOf (c : Ctx) (a n : Nat) : Stamp := c.x.corePlace (Config.stale c.st.tick c.t a) a n

/-- The bytes that a core read finds, whole at one place in the service order (R221, R329). -/
def Ctx.peekSram (c : Ctx) (a n : Nat) : List Byte := c.x.bytesAt (c.placeOf a n) a n

/-- Core reads of n bytes at each of some addresses made: corrected words are counted, and later core accesses come after them (R223, R330).
The reads of one instruction, the lanes of a vector load among them, are not ordered with one another (R221). -/
def Ctx.readSram (c : Ctx) (as : List Nat) (n : Nat) : Ctx :=
  { c with x := as.foldl (fun x a => (x.correct a n).seeRead (c.placeOf a n) a n) c.x }

/-- Bytes stored to SRAM at a checked address, after a place of the service order (R220 to R223). -/
def Ctx.storeAfter (c : Ctx) (floor : Stamp) (a : Nat) (bs : List Byte) : Ctx :=
  let y := c.x.storeAfter floor (Config.stale c.st.tick c.t a) a bs
  { c with
    x := y.cleanWords a bs.length
    f := { c.f with delta := c.f.delta ++ storeDelta c.x y a bs.length } }

/-- Bytes stored at one address, after every older core access. -/
def Ctx.storeBytes (c : Ctx) (a : Nat) (bs : List Byte) : Ctx := c.storeAfter c.x.coreSeen a bs

/-- The byte of the scalar window at offset o: byte o mod 8 of register o / 8 (R88). -/
def scalarByte (f : Firing) (o : Nat) : Byte := BitVec.ofNat 8 ((f.sreg (o / 8)).toNat / 2 ^ (8 * (o % 8)))

/-- The byte of the vector window at offset o (R88). -/
def vectorByte (f : Firing) (o : Nat) : Byte :=
  BitVec.ofNat 8 ((lane (f.vreg (o / 64)) (o % 64 / 4)).toNat / 2 ^ (8 * (o % 4)))

/-- A store of B, H or W to a scalar register changes only the bytes it names; s0 discards it (R89). -/
def storeScalar (f : Firing) (o : Nat) (bs : List Byte) : Firing :=
  if o / 8 = 0 then f
  else { f with sregs := Map.set f.sregs (o / 8)
                  (BitVec.ofNat 64 (setBitField (f.sreg (o / 8)).toNat (8 * (o % 8)) (8 * bs.length) (leNat bs))) }

/-- One byte of the vector window stored. -/
def storeVectorByte (f : Firing) (o : Nat) (b : Byte) : Firing :=
  let v := f.vreg (o / 64)
  f.writeV (o / 64) (v.set (o % 64 / 4)
    (BitVec.ofNat 32 (setBitField (lane v (o % 64 / 4)).toNat (8 * (o % 4)) 8 b.toNat)))

/-- Bytes stored to the vector window from offset o up. -/
def storeVector (f : Firing) (o : Nat) : List Byte → Firing
  | [] => f
  | b :: bs => storeVector (storeVectorByte f o b) (o + 1) bs

/-- What R89 permits a scalar access of n bytes in a register window: no byte of s24 to s31, and in the control-word window words of
assigned numbers only (R336). -/
def scalarWindowOk (wordForm : Bool) (kind : LocalKind) (a : Nat) : Bool :=
  match kind with
  | .sram => true
  | .scalar => decide ((a - 0x003FF000) / 8 < 24)
  | .vector => true
  | .control => wordForm && cwAssigned ((a - 0x003FD000) / 4)

/-- The effective address of an M form (R213). -/
def effective (base : Word64) (o : Nat) : Nat := (base + BitVec.ofNat 64 (sext64 13 o)).toNat

/-- LDS of n bytes: the loaded number extended by ext (R213, R214, R89). -/
def ldsOp (s : State) (d a o n : Nat) (ext : Nat → Nat) : Out :=
  coreOp s 4 fun c => do
    let r ← readSrcs c [a] (some d)
    let x := effective (src r.1 0) o
    let kind ← checkLocal c false n [x] (scalarWindowOk (n == 4))
    match kind with
    | .sram =>
      ((r.2.readSram [x] n).writeReg d (BitVec.ofNat 64 (ext (leNat (r.2.peekSram x n))))).complete 4
    | .scalar =>
      (r.2.writeReg d (BitVec.ofNat 64 (ext (leNat ((List.range n).map fun i => scalarByte r.2.f (x - 0x003FF000 + i)))))).complete 4
    | .vector =>
      (r.2.writeReg d (BitVec.ofNat 64 (ext (leNat ((List.range n).map fun i => vectorByte r.2.f (x - 0x003FE000 + i)))))).complete 4
    | .control => (r.2.writeReg d (BitVec.ofNat 64 (ext (r.2.cwRead ((x - 0x003FD000) / 4))))).complete 4

/-- STS of n bytes of sd, field d read after field a (R213, R214, R89). -/
def stsOp (s : State) (d a o n : Nat) : Out :=
  coreOp s 4 fun c => do
    let r ← readSrcs c [a, d] none
    let x := effective (src r.1 0) o
    let v := (src r.1 1).toNat
    let kind ← checkLocal c true n [x] (scalarWindowOk (n == 4))
    match kind with
    | .sram => (r.2.storeBytes x (leBytes n v)).complete 4
    | .scalar => ({ r.2 with f := storeScalar r.2.f (x - 0x003FF000) (leBytes n v) } : Ctx).complete 4
    | .vector => ({ r.2 with f := storeVector r.2.f (x - 0x003FE000) (leBytes n v) } : Ctx).complete 4
    | .control => do
      let c2 ← r.2.cwWrite ((x - 0x003FD000) / 4) (v % 2 ^ 32)
      c2.complete 4

/-- LDS.B (R213). -/
def execLdsB (d a o : Nat) (s : State) : Out := ldsOp s d a o 1 (sext64 8)

/-- LDS.BN (R213). -/
def execLdsBn (d a o : Nat) (s : State) : Out := ldsOp s d a o 1 fun v => v

/-- LDS.H (R213). -/
def execLdsH (d a o : Nat) (s : State) : Out := ldsOp s d a o 2 (sext64 16)

/-- LDS.HN (R213). -/
def execLdsHn (d a o : Nat) (s : State) : Out := ldsOp s d a o 2 fun v => v

/-- LDS.W (R213). -/
def execLdsW (d a o : Nat) (s : State) : Out := ldsOp s d a o 4 (sext64 32)

/-- LDS.WN (R213). -/
def execLdsWn (d a o : Nat) (s : State) : Out := ldsOp s d a o 4 fun v => v

/-- LDS.D (R213). -/
def execLdsD (d a o : Nat) (s : State) : Out := ldsOp s d a o 8 fun v => v

/-- STS.B (R213). -/
def execStsB (d a o : Nat) (s : State) : Out := stsOp s d a o 1

/-- STS.H (R213). -/
def execStsH (d a o : Nat) (s : State) : Out := stsOp s d a o 2

/-- STS.W (R213). -/
def execStsW (d a o : Nat) (s : State) : Out := stsOp s d a o 4

/-- STS.D (R213). -/
def execStsD (d a o : Nat) (s : State) : Out := stsOp s d a o 8

/-! ### Vector loads and stores (R215, R216) -/

/-- The row's low five bits XORed into the bank index (R215). -/
def swz (x : Nat) : Nat := x ^^^ (x / 128 % 32 * 4)

/-- An address modulo 2^64. -/
def wrap64 (x : Nat) : Nat := x % 2 ^ 64

def addrUnit (base : Word64) (o j : Nat) : Nat := wrap64 (effective base o + 4 * j)

def addrStrided (base : Word64) (o j : Nat) : Nat := wrapInt 64 ((base.toNat : Int) + j * sextInt 13 o)

def addrSwizzled (base : Word64) (o j : Nat) : Nat := swz (addrUnit base o j)

def addrBroadcast (base : Word64) (o _j : Nat) : Nat := effective base o

def addrIndexed (base : Word64) (idx : Lanes) (h j : Nat) : Nat := wrap64 (base.toNat + (lane idx j).toNat * 2 ^ h)

/-- VLD and VST reach the vector window in unit mode at a multiple of 64 alone (R89). -/
def vectorWindowOk (unit_ : Bool) (first : Nat) (kind : LocalKind) (_a : Nat) : Bool :=
  kind == .vector && unit_ && first % 64 == 0

/-- The VLD family: enabled lanes load the word at their address, the others follow z (R215, R216). -/
def vldOp (s : State) (d a m : Nat) (z unit_ : Bool) (addr : Ctx → Word64 → Nat → Nat) : Out :=
  coreOp s 4 fun c => do
    let r ← readSrcs c [a] none
    let at_ := addr c (src r.1 0)
    let on_ := lanes16.filter (c.f.enabled m)
    let kind ← checkLocal c false 4 (on_.map at_) (vectorWindowOk unit_ (at_ 0))
    let word : Nat → Word32 :=
      if kind = .vector then fun j => lane (c.f.vreg ((at_ 0 - 0x003FE000) / 64)) j
      else fun j => BitVec.ofNat 32 (leNat (c.peekSram (at_ j) 4))
    let c1 := if kind = .vector then r.2 else r.2.readSram (on_.map at_) 4
    ({ c1 with f := c1.f.writeV d (maskWrite c.f d m z word) } : Ctx).complete 4

/-- The VST family: enabled lanes store in ascending order, which binds those that name one word alone (R215, R216, R221). -/
def vstOp (s : State) (d a m : Nat) (unit_ : Bool) (addr : Ctx → Word64 → Nat → Nat) : Out :=
  coreOp s 4 fun c => do
    let r ← readSrcs c [a] none
    let at_ := addr c (src r.1 0)
    let on_ := lanes16.filter (c.f.enabled m)
    let kind ← checkLocal c true 4 (on_.map at_) (vectorWindowOk unit_ (at_ 0))
    if kind = .vector then
      ({ r.2 with f := r.2.f.writeV ((at_ 0 - 0x003FE000) / 64) (c.f.vreg d) } : Ctx).complete 4
    else (on_.foldl (fun c2 j => c2.storeAfter c.x.coreSeen (at_ j) (leBytes 4 (lane (c.f.vreg d) j).toNat)) r.2).complete 4

/-- VLD: unit mode (R215). -/
def execVld (d a o : Nat) (s : State) : Out := vldOp s d a 0 false true fun _ b => addrUnit b o

/-- VLDS: strided mode (R215). -/
def execVlds (d a o : Nat) (s : State) : Out := vldOp s d a 0 false false fun _ b => addrStrided b o

/-- VLDZ: XOR-swizzled mode (R215). -/
def execVldz (d a o : Nat) (s : State) : Out := vldOp s d a 0 false false fun _ b => addrSwizzled b o

/-- VLDB: broadcast (R215). -/
def execVldb (d a o : Nat) (s : State) : Out := vldOp s d a 0 false false fun _ b => addrBroadcast b o

/-- VLDX: gather (R215, R216). -/
def execVldx (d a b m : Nat) (z : Bool) (h : Nat) (s : State) : Out :=
  vldOp s d a m z false fun c base => addrIndexed base (c.f.vreg b) h

/-- VST: unit mode (R215). -/
def execVst (d a o : Nat) (s : State) : Out := vstOp s d a 0 true fun _ b => addrUnit b o

/-- VSTS: strided mode (R215). -/
def execVsts (d a o : Nat) (s : State) : Out := vstOp s d a 0 false fun _ b => addrStrided b o

/-- VSTZ: XOR-swizzled mode (R215). -/
def execVstz (d a o : Nat) (s : State) : Out := vstOp s d a 0 false fun _ b => addrSwizzled b o

/-- VSTX: scatter (R215, R216). -/
def execVstx (d a b m h : Nat) (s : State) : Out := vstOp s d a m false fun c base => addrIndexed base (c.f.vreg b) h

end Sys2Proof.Machine
end

