-- ==== Sys2Proof/Machine/Fire.lean ====
section
/-! DEFINITION. The FIRE instructions, major 0x1B (R166 to R175). -/

namespace Sys2Proof.Machine

/-- Block starts among the tokens that words staged on a port form (R123, R124). -/
def blockStarts (pos : Nat) (marks : List Nat) (n : Nat) : Nat :=
  ((List.range n).foldl (fun (a : Nat × Nat) i =>
    (nextPos a.1 { words := [], void := false, mark := marks.contains i, tag := 0 }, if a.1 = 0 then a.2 + 1 else a.2)) (pos, 0)).2

/-- The checks of R175 at an output port: whole tokens, MAX of them where fixed, and the scales of a scaled port. -/
def outputOk (sl : Slot) (f : Firing) (p : Nat) : Bool :=
  let n := f.stagedCount p / sl.outWidth p
  (f.stagedCount p % sl.outWidth p == 0) && (sl.outBounded p || n == sl.outMax p) &&
    (!sl.outScaled p || (Map.get [] f.scales p).length == blockStarts (sl.outQueue p).pos (Map.get [] f.marks p) n)

/-- The rate checks of R175, with the one token on out0 and out1 of a loop exit (R198). -/
def rateOk (sl : Slot) (f : Firing) : Bool :=
  sl.outPorts.all (outputOk sl f) &&
    (!sl.isExit || f.stagedCount 0 / sl.outWidth 0 + f.stagedCount 1 / sl.outWidth 1 == 1)

/-- END: the checks of R175, then the commit is under way (R167, R176). -/
def execEndF (s : State) : Out :=
  coreOp s 4 fun c =>
    if !c.x.matOps.isEmpty then .error (.wait .matrixIdle)
    else do
      check c (rateOk c.slot c.f) 0x07
      check c (!(c.f.journal.any fun e => touchesBarrier c.x.barriers e.addr e.bytes.length)) 0x19
      .ok { c with f := { c.f with phase := .committing false } }

/-- An instruction that ends its firing without a normal commit: it waits until every older matrix instruction has completed (R270). -/
def lastOp (c : Ctx) : Res Ctx :=
  if !c.x.matOps.isEmpty then .error (.wait .matrixIdle) else .ok { c with f := { c.f with phase := .committing true } }

/-- VOIDF: a void commit whatever the disposition; the last fault cause stays (R168). -/
def execVoidf (s : State) : Out :=
  issueThen s 4 (fun c => lastOp c) fun s' => s'.voidCommit s.focus none

/-- ABORTS: nothing commits, and the scope drains with cause 0x00 (R169). -/
def execAborts (s : State) : Out :=
  issueThen s 4 (fun c => lastOp c) fun s' => s'.abortFiring s.focus 0

/-- Bytes in a journal. -/
def journalBytes (j : List JournalEntry) : Nat := (j.map fun e => e.bytes.length).sum

/-- Whether a range lies within a window of granules. -/
def withinWindow (w a n : Nat) : Bool := decide (winBase w * 1024 ≤ a) && decide (a + n ≤ (winBase w + winLen w) * 1024)

/-- JST of n bytes: the checks of R170 in order, then the entry appended. -/
def jstOp (s : State) (d a n : Nat) : Out :=
  coreOp s 4 fun c => do
    let r ← readSrcs c [a, d] none
    let x := (src r.1 0).toNat
    check c (!(c.slot.cls == 0)) 0x11
    check c (x % n == 0) 0x03
    check c (withinWindow (c.x.pwin c.f.slot) x n) 0x11
    check c (!touchesBarrier c.x.barriers x n) 0x19
    check c (decide (journalBytes c.f.journal + n ≤ 256)) 0x0A
    ({ r.2 with f := { r.2.f with journal := r.2.f.journal ++ [{ addr := x, bytes := leBytes n (src r.1 1).toNat }] } } : Ctx).complete 4

/-- JST.W (R170). -/
def execJstW (d a : Nat) (s : State) : Out := jstOp s d a 4

/-- JST.D (R170). -/
def execJstD (d a : Nat) (s : State) : Out := jstOp s d a 8

/-- TAKEN: tokens entered so far (R171, R114). -/
def execTaken (d p : Nat) (s : State) : Out :=
  scalarOp s [] d fun c _ => do
    check c (c.slot.inDecl p) 0x06
    .ok (BitVec.ofNat 64 (ceilDiv (Map.get 0 c.f.cursors p) (c.slot.inWidth p)))

/-- MADE: whole tokens staged so far (R171). -/
def execMade (d p : Nat) (s : State) : Out :=
  scalarOp s [] d fun c _ => do
    check c (c.slot.outDecl p) 0x06
    .ok (BitVec.ofNat 64 (c.f.stagedCount p / c.slot.outWidth p))

/-- The entry that a scope query of the running slot names. -/
def Ctx.scopeEntry (c : Ctx) (sc : Nat) : ScopeEntry := (c.st.swatch c.slot.swatch).scope sc

/-- How many updates of a scope's words have reached the tile's copy: all but some of the latest, and no fewer than an earlier query found
(R172; log entry 9). -/
def Ctx.scopePlace (c : Ctx) (sc : Nat) : Nat :=
  let all := (c.scopeEntry sc).trail.length
  let seen := Map.get 0 c.x.scopeCopy (256 * c.slot.swatch + sc)
  if all ≤ seen then all else all - Config.scopeLag c.st.tick c.t % (all - seen + 1)

/-- What the tile's copy shows of a scope (R172). -/
def Ctx.scopeView (c : Ctx) (sc : Nat) : Word64 := (c.scopeEntry sc).valueAt (c.scopePlace sc)

/-- A query made: the copy never goes back. -/
def Ctx.readScope (c : Ctx) (sc : Nat) : Ctx :=
  { c with x := { c.x with scopeCopy := Map.set c.x.scopeCopy (256 * c.slot.swatch + sc) (c.scopePlace sc) } }

/-- SCOPE: scope sa[7:0] of the actor's swatch, without waiting (R172). -/
def execScope (d a : Nat) (s : State) : Out :=
  coreOp s 4 fun c => do
    let r ← readSrcs c [a] (some d)
    let sc := (src r.1 0).toNat % 256
    ((r.2.readScope sc).writeReg d (c.scopeView sc)).complete 4

/-- SEAL: a seal staged; 0x11 where the copy shows the scope free (R173). -/
def execSeal (a : Nat) (s : State) : Out :=
  coreOp s 4 fun c => do
    let r ← readSrcs c [a] none
    let sc := (src r.1 0).toNat % 256
    check c (!((c.scopeView sc).toNat % 8 == 0)) 0x11
    ({ r.2.readScope sc with f := { r.2.f with seals := r.2.f.seals ++ [sc] } } : Ctx).complete 4

/-- ORDINAL: the firing's ordinal, the same on every attempt (R171, R161). -/
def execOrdinal (d : Nat) (s : State) : Out := scalarOp s [] d fun c _ => .ok (BitVec.ofNat 64 c.slot.ordinal)

end Sys2Proof.Machine
end

