-- ==== Sys2Proof/Machine/Flags.lean ====
section
/-! DEFINITION. Number formats, exact values, rounding and every flag of CW.FFLAGS (R66 to R76, R85). -/

namespace Sys2Proof.Machine

/-! ### Flags (R73) -/

def flagNX : Nat := 1
def flagUF : Nat := 2
def flagOF : Nat := 4
def flagDZ : Nat := 8
def flagNV : Nat := 16
def flagSAT : Nat := 32

/-- A flag where a condition holds. -/
def flagIf (c : Bool) (fl : Nat) : Nat := if c then fl else 0

/-! ### Exact values -/

/-- An exact value: NaN, an infinity, or the number (-1)^neg x n / d x 2^e, whose zero keeps its sign. -/
inductive Exact where
  | nan
  | inf (neg : Bool)
  | fin (neg : Bool) (n d : Nat) (e : Int)
  deriving DecidableEq, Repr

def Exact.neg : Exact → Exact
  | .nan => .nan
  | .inf s => .inf (!s)
  | .fin s n d e => .fin (!s) n d e

/-- An integer times 2^e as an exact value. -/
def Exact.ofInt (x e : Int) : Exact := .fin (decide (x < 0)) x.natAbs 1 e

/-! ### Formats (R68) -/

/-- A floating format: width, fraction bits, bias, whether it has infinities and NaNs, the canonical NaN and the largest finite code. -/
structure Fmt where
  width : Nat
  frac : Nat
  bias : Nat
  hasInf : Bool
  hasNan : Bool
  nanCode : Nat
  maxCode : Nat
  deriving DecidableEq, Repr

def fmtF32 : Fmt := { width := 32, frac := 23, bias := 127, hasInf := true, hasNan := true, nanCode := 0x7FC00000, maxCode := 0x7F7FFFFF }
def fmtF16 : Fmt := { width := 16, frac := 10, bias := 15, hasInf := true, hasNan := true, nanCode := 0x7E00, maxCode := 0x7BFF }
def fmtBf16 : Fmt := { width := 16, frac := 7, bias := 127, hasInf := true, hasNan := true, nanCode := 0x7FC0, maxCode := 0x7F7F }
def fmtE4m3 : Fmt := { width := 8, frac := 3, bias := 7, hasInf := false, hasNan := true, nanCode := 0x7F, maxCode := 0x7E }
def fmtE5m2 : Fmt := { width := 8, frac := 2, bias := 15, hasInf := true, hasNan := true, nanCode := 0x7E, maxCode := 0x7B }
def fmtE3m2 : Fmt := { width := 6, frac := 2, bias := 3, hasInf := false, hasNan := false, nanCode := 0, maxCode := 0x1F }
def fmtE2m3 : Fmt := { width := 6, frac := 3, bias := 1, hasInf := false, hasNan := false, nanCode := 0, maxCode := 0x1F }
def fmtE2m1 : Fmt := { width := 4, frac := 1, bias := 1, hasInf := false, hasNan := false, nanCode := 0, maxCode := 0x7 }

/-- The sign bit of a code. -/
def Fmt.sign (f : Fmt) (c : Nat) : Bool := bitField c (f.width - 1) 1 == 1

/-- A code without its sign bit. -/
def Fmt.mag (f : Fmt) (c : Nat) : Nat := c % 2 ^ (f.width - 1)

/-- The code of an infinity where the format has one. -/
def Fmt.infCode (f : Fmt) : Nat := f.maxCode + 1

def Fmt.withSign (f : Fmt) (neg : Bool) (mag : Nat) : Nat := if neg then 2 ^ (f.width - 1) + mag else mag

/-- Whether a code is a NaN of the format (R68). -/
def Fmt.isNan (f : Fmt) (c : Nat) : Bool := f.hasNan && decide ((if f.hasInf then f.infCode else f.maxCode) < f.mag c)

/-- Whether a code is a signalling NaN (R70). -/
def Fmt.isSnan (f : Fmt) (c : Nat) : Bool := f.isNan c && f.hasInf && bitField c (f.frac - 1) 1 == 0

/-- The value of a code (R68). -/
def Fmt.value (f : Fmt) (c : Nat) : Exact :=
  if f.isNan c then .nan
  else if f.hasInf && f.mag c == f.infCode then .inf (f.sign c)
  else if f.mag c < 2 ^ f.frac then .fin (f.sign c) (f.mag c) 1 (1 - (f.bias : Int) - f.frac)
  else .fin (f.sign c) (2 ^ f.frac + f.mag c % 2 ^ f.frac) 1 ((f.mag c / 2 ^ f.frac : Nat) - (f.bias : Int) - f.frac)

/-! ### Rounding (R72, R75) -/

/-- floor(num / den) rounded under a mode by what is left: 0 RNE, 1 RTZ, 2 RDN, 3 RUP, 4 RNA; and whether anything was left. -/
def roundQuot (mode : Nat) (neg : Bool) (num den : Nat) : Nat × Bool :=
  let q := num / den
  let r := num % den
  let up :=
    if r = 0 then false
    else if mode = 0 then decide (den < 2 * r) || (decide (2 * r = den) && q % 2 == 1)
    else if mode = 1 then false
    else if mode = 2 then neg
    else if mode = 3 then !neg
    else decide (den ≤ 2 * r)
  (if up then q + 1 else q, decide (r ≠ 0))

/-- n / d x 2^e rounded to a multiple of 2^q, as the multiple (R75). -/
def roundAt (mode : Nat) (neg : Bool) (n d : Nat) (e q : Int) : Nat × Bool :=
  if q ≤ e then roundQuot mode neg (n * 2 ^ (e - q).toNat) d else roundQuot mode neg n (d * 2 ^ (q - e).toNat)

/-- floor(log2(n / d)) for n > 0. -/
def log2Quot (n d : Nat) : Int :=
  let k := (Nat.log2 n : Int) - Nat.log2 d
  if (if 0 ≤ k then d * 2 ^ k.toNat ≤ n else d ≤ n * 2 ^ (-k).toNat) then k else k - 1

/-- What an overflow delivers in a format with infinities (R75). -/
def overflowCode (f : Fmt) (mode : Nat) (neg : Bool) : Nat :=
  if mode = 0 ∨ mode = 4 then f.infCode
  else if mode = 1 then f.maxCode
  else if mode = 3 then (if neg then f.maxCode else f.infCode)
  else (if neg then f.infCode else f.maxCode)

/-- convert(fmt, x, mode) of R75: the code and the flags. -/
def convert (f : Fmt) (mode : Nat) : Exact → Nat × Nat
  | .nan => if f.hasNan then (f.nanCode, 0) else (0, flagNV)
  | .inf s => if f.hasInf then (f.withSign s f.infCode, 0) else (f.withSign s f.maxCode, flagOF)
  | .fin s n d e =>
    if n = 0 then (f.withSign s 0, 0)
    else
      let lg := log2Quot n d + e
      let emin := 1 - (f.bias : Int)
      let u := roundAt mode s n d e (lg - f.frac)
      let ulg := if 2 ^ (f.frac + 1) ≤ u.1 then lg + 1 else lg
      let um := if 2 ^ (f.frac + 1) ≤ u.1 then 0 else u.1 - 2 ^ f.frac
      if (f.maxCode : Int) < (ulg + f.bias) * 2 ^ f.frac + um ∧ 0 < ulg + f.bias then
        (f.withSign s (if f.hasInf then overflowCode f mode s else f.maxCode), flagOF + flagNX)
      else
        let top := if lg < emin then emin else lg
        let y := roundAt mode s n d e (top - f.frac)
        (f.withSign s ((top - emin).toNat * 2 ^ f.frac + y.1), flagIf y.2 flagNX + flagIf (y.2 && decide (ulg < emin)) flagUF)

/-- An exact value rounded and saturated to the integers lo to hi (R67): the integer and the flags. -/
def toInteger (mode : Nat) (lo hi : Int) : Exact → Int × Nat
  | .nan => (0, flagNV)
  | .inf s => (if s then lo else hi, flagNV)
  | .fin s n d e =>
    let r := roundAt mode s n d e 0
    let v : Int := if s then -(r.1 : Int) else r.1
    if v < lo then (lo, flagNV) else if hi < v then (hi, flagNV) else (v, flagIf r.2 flagNX)

/-- sat(format, x) for the integers lo to hi, with SAT where it clamps (R67). -/
def saturate (lo hi x : Int) : Int × Nat := if x < lo then (lo, flagSAT) else if hi < x then (hi, flagSAT) else (x, 0)

/-- widen between floating formats (R76): exact, with NV for a signalling NaN. -/
def widen (src dst : Fmt) (c : Nat) : Nat × Nat := ((convert dst 0 (src.value c)).1, flagIf (src.isSnan c) flagNV)

/-- A narrowing conversion of a code (R70, R75). -/
def narrow (src dst : Fmt) (mode c : Nat) : Nat × Nat :=
  let r := convert dst mode (src.value c)
  (r.1, r.2 ||| flagIf (src.isSnan c) flagNV)

/-! ### Arithmetic on exact values (R71, R231) -/

/-- The signed numerator of a number with denominator 1 at exponent q, at or below its own. -/
def alignedAt (s : Bool) (n : Nat) (e q : Int) : Int := (if s then -1 else 1) * (n * 2 ^ (e - q).toNat : Nat)

/-- The sum of two exact values, with NV for the sum of opposite infinities (R71, R231). -/
def exactAdd (mode : Nat) : Exact → Exact → Exact × Nat
  | .nan, _ => (.nan, 0)
  | _, .nan => (.nan, 0)
  | .inf s, .inf s' => if s = s' then (.inf s, 0) else (.nan, flagNV)
  | .inf s, _ => (.inf s, 0)
  | _, .inf s => (.inf s, 0)
  | .fin s n _ e, .fin s' n' _ e' =>
    let q := min e e'
    let x := alignedAt s n e q + alignedAt s' n' e' q
    if x = 0 then (.fin (if n = 0 ∧ n' = 0 ∧ s = s' then s else decide (mode = 2)) 0 1 0, 0)
    else (Exact.ofInt x q, 0)

/-- The product, with NV for 0 times an infinity (R231). -/
def exactMul : Exact → Exact → Exact × Nat
  | .nan, _ => (.nan, 0)
  | _, .nan => (.nan, 0)
  | .inf s, .inf s' => (.inf (s != s'), 0)
  | .inf s, .fin s' n _ _ => if n = 0 then (.nan, flagNV) else (.inf (s != s'), 0)
  | .fin s n _ _, .inf s' => if n = 0 then (.nan, flagNV) else (.inf (s != s'), 0)
  | .fin s n d e, .fin s' n' d' e' => (.fin (s != s') (n * n') (d * d') (e + e'), 0)

/-- The quotient, with NV for 0 / 0 and of two infinities, and DZ (R231). -/
def exactDiv : Exact → Exact → Exact × Nat
  | .nan, _ => (.nan, 0)
  | _, .nan => (.nan, 0)
  | .inf _, .inf _ => (.nan, flagNV)
  | .inf s, .fin s' _ _ _ => (.inf (s != s'), 0)
  | .fin s _ _ _, .inf s' => (.fin (s != s') 0 1 0, 0)
  | .fin s n d e, .fin s' n' d' e' =>
    if n' = 0 then (if n = 0 then (.nan, flagNV) else (.inf (s != s'), flagDZ))
    else (.fin (s != s') (n * d') (d * n') (e - e'), 0)

/-- floor of the square root of n, by k halvings of an interval that starts at x. -/
def isqrtFrom (n : Nat) : Nat → Nat → Nat
  | 0, x => x
  | k + 1, x => isqrtFrom n k (if (x + 2 ^ k) * (x + 2 ^ k) ≤ n then x + 2 ^ k else x)

/-- The square root of a number with denominator 1: 96 bits of it or more, and a half bit where something is left, which every mode rounds as
it rounds the exact root (R231). -/
def exactSqrt : Exact → Exact × Nat
  | .nan => (.nan, 0)
  | .inf s => if s then (.nan, flagNV) else (.inf false, 0)
  | .fin s n _ e =>
    if n = 0 then (.fin s 0 1 0, 0)
    else if s then (.nan, flagNV)
    else
      let k : Nat := if e % 2 = 0 then 192 else 193
      let m := n * 2 ^ k
      let r := isqrtFrom m 160 0
      (.fin false (2 * r + (if r * r = m then 0 else 1)) 1 ((e - k) / 2 - 1), 0)

/-- The flag of signalling NaNs among operands (R70). -/
def snanFlag (f : Fmt) (l : List Nat) : Nat := flagIf (l.any f.isSnan) flagNV

/-- An operation on exact values delivered in a format: the code and the flags (R231). -/
def deliver (f : Fmt) (mode : Nat) (ops : List Nat) (x : Exact × Nat) : Nat × Nat :=
  let r := convert f mode x.1
  (r.1, r.2 ||| x.2 ||| snanFlag f ops)

def fpAdd (f : Fmt) (mode a b : Nat) : Nat × Nat := deliver f mode [a, b] (exactAdd mode (f.value a) (f.value b))
def fpSub (f : Fmt) (mode a b : Nat) : Nat × Nat := deliver f mode [a, b] (exactAdd mode (f.value a) (f.value b).neg)
def fpMul (f : Fmt) (mode a b : Nat) : Nat × Nat := deliver f mode [a, b] (exactMul (f.value a) (f.value b))
def fpDiv (f : Fmt) (mode a b : Nat) : Nat × Nat := deliver f mode [a, b] (exactDiv (f.value a) (f.value b))
def fpSqrt (f : Fmt) (mode a : Nat) : Nat × Nat := deliver f mode [a] (exactSqrt (f.value a))

/-- A fused form: the product, negated or not, plus the addend, negated or not, in one rounding (R234). -/
def fpFused (f : Fmt) (mode : Nat) (negProd negAdd : Bool) (a b c : Nat) : Nat × Nat :=
  let p := exactMul (f.value a) (f.value b)
  let x := if negProd then p.1.neg else p.1
  let y := if negAdd then (f.value c).neg else f.value c
  let r := exactAdd mode x y
  deliver f mode [a, b, c] (r.1, r.2 ||| p.2)

/-- Signed numerators of two numbers on one grid, for comparing. -/
def exactLt : Exact → Exact → Bool
  | .fin s n _ e, .fin s' n' _ e' => decide (alignedAt s n e (min e e') < alignedAt s' n' e' (min e e'))
  | .inf s, .inf s' => s && !s'
  | .inf s, .fin _ _ _ _ => s
  | .fin _ _ _ _, .inf s' => !s'
  | _, _ => false

/-- The order of R232: by value, and -0 below +0. -/
def fpLess (f : Fmt) (a b : Nat) : Bool :=
  exactLt (f.value a) (f.value b) || (f.mag a == 0 && f.mag b == 0 && f.sign a && !f.sign b)

/-- VFMIN and VFMAX of an element (R232). -/
def fpMinMax (f : Fmt) (max : Bool) (a b : Nat) : Nat × Nat :=
  let r :=
    if f.isNan a && f.isNan b then f.nanCode
    else if f.isNan a then b
    else if f.isNan b then a
    else if max then (if fpLess f a b then b else a)
    else (if fpLess f b a then b else a)
  (r, snanFlag f [a, b])

/-- The class mask of an element (R233). -/
def fpClass (f : Fmt) (c : Nat) : Nat :=
  if f.isNan c then (if f.isSnan c then 2 ^ 8 else 2 ^ 9)
  else if f.mag c = f.infCode then (if f.sign c then 2 ^ 0 else 2 ^ 7)
  else if f.mag c = 0 then (if f.sign c then 2 ^ 3 else 2 ^ 4)
  else if f.mag c < 2 ^ f.frac then (if f.sign c then 2 ^ 2 else 2 ^ 5)
  else (if f.sign c then 2 ^ 1 else 2 ^ 6)

/-! ### Elements of lanes (R69, R226, R227) -/

/-- Results of the enabled lanes written under R227, with their flags. -/
def Firing.writeLanes (f : Firing) (d m : Nat) (z : Bool) (r : Nat → Nat × Nat) : Firing :=
  let rs := lanes16.map fun j => if f.enabled m j then r j else (0, 0)
  { f.writeV d (maskWrite f d m z fun j => BitVec.ofNat 32 (rs.getD j (0, 0)).1) with
    fflags := rs.foldl (fun a e => a ||| e.2) f.fflags }

/-- A lane computed element by element of width w from the same lane of its sources. -/
def perElement (w : Nat) (op : List Nat → Nat × Nat) (srcs : List Nat) : Nat × Nat :=
  (List.range (32 / w)).foldl (fun a i =>
    let r := op (srcs.map fun x => bitField x (w * i) w)
    (a.1 + r.1 % 2 ^ w * 2 ^ (w * i), a.2 ||| r.2)) (0, 0)

/-- Lane j of register i as a number. -/
def Firing.laneNat (f : Firing) (i j : Nat) : Nat := (lane (f.vreg i) j).toNat

/-- A vector instruction that works lane by lane on the same lanes of its sources. -/
def vectorOp (s : State) (d m : Nat) (z : Bool) (srcs : List Nat) (op : Nat → List Nat → Nat × Nat) : Out :=
  vecOp s fun c =>
    { c with f := c.f.writeLanes d m z fun j => op c.f.round (srcs.map fun i => c.f.laneNat i j) }.complete 4

end Sys2Proof.Machine
end

