-- ==== Sys2Proof/Machine/Matrix.lean ====
section
/-! DEFINITION. Matrix and tensor instructions, majors 0x2C to 0x2F, with block scales and the long accumulator (R77 to R83, R246 to R272).
Each takes its effect whole when it issues (R266); the queue and the pipes of R267 carry its time alone. -/

namespace Sys2Proof.Machine

/-! ### Elements, scales and the grid (R66, R77 to R83) -/

/-- The floating format of a format code (R40). -/
def floatFmt : Nat → Option Fmt
  | 0 => some fmtF32 | 1 => some fmtF16 | 2 => some fmtBf16 | 3 => some fmtE4m3 | 4 => some fmtE5m2 | 5 => some fmtE3m2
  | 6 => some fmtE2m3 | 7 => some fmtE2m1 | _ => none

/-- The integers of a format code: width and whether signed (R40, R66). -/
def intFmt : Nat → Nat × Bool
  | 8 => (8, true) | 9 => (16, true) | 10 => (32, true) | 11 => (64, true) | 12 => (8, false) | 13 => (16, false) | 14 => (32, false)
  | _ => (64, false)

/-- The container width of an element (R263). -/
def containerBits : Nat → Nat
  | 0 => 32 | 1 => 16 | 2 => 16 | 7 => 4 | 9 => 16 | 10 => 32 | 11 => 64 | 13 => 16 | 14 => 32 | 15 => 64 | _ => 8

/-- The exact value of an element's container (R66, R68, R69). -/
def elemValue (fmt x : Nat) : Exact :=
  match floatFmt fmt with
  | some f => f.value (x % 2 ^ f.width)
  | none => Exact.ofInt (if (intFmt fmt).2 then sextInt (intFmt fmt).1 x else (x % 2 ^ (intFmt fmt).1 : Nat)) 0

/-- A block scale: a zero block, a NaN block, or n x 2^e (R77). -/
inductive Scale where
  | zero | nan
  | mul (n : Nat) (e : Int)
  deriving DecidableEq, Repr

def scaleOne : Scale := .mul 1 0

/-- The scale of a word, bits above the twentieth ignored (R77). -/
def scaleOf (w : Nat) : Scale :=
  let e := bitField w 12 8
  if e = 0 then .zero else if e = 255 then .nan else .mul (4096 + bitField w 0 12) ((e : Int) - 127 - 12)

/-- An exact n x 2^e, signed, rounded to the grid 2^anchor by RNE (R80). -/
def toGrid (neg : Bool) (n : Nat) (e anchor : Int) : Int :=
  let r := (roundAt 0 neg n 1 (e - anchor) 0).1
  if neg then -(r : Int) else r

/-- grid_product of R80; none is the marker. -/
def gridProduct (a : Exact) (sa : Scale) (b : Exact) (sb : Scale) (anchor : Int) : Option Int :=
  match sa, sb with
  | .zero, _ => some 0
  | _, .zero => some 0
  | .nan, _ => none
  | _, .nan => none
  | .mul m x, .mul m' x' =>
    match a, b with
    | .fin s n _ e, .fin s' n' _ e' => some (toGrid (s != s') (n * n' * m * m') (e + e' + x + x') anchor)
    | _, _ => none

/-- The NaN marker (R79). -/
def marker : BitVec 128 := 0x80000000000000000000000000000000#128

def accMax : Int := 2 ^ 127 - 1

/-- The sum of terms, none where any is the marker (R81). -/
def sumTerms : List (Option Int) → Option Int
  | [] => some 0
  | none :: _ => none
  | some x :: r => (sumTerms r).map (x + ·)

/-- An element after a step: new value, whether it clamped, whether it became or stayed the marker through a term (R81). -/
def accStep (old : BitVec 128) (terms : Option Int) : BitVec 128 × Bool × Bool :=
  if old = marker then (marker, false, true)
  else match terms with
    | none => (marker, false, true)
    | some x =>
      let t := old.toInt + x
      if accMax < t then (BitVec.ofInt 128 accMax, true, false)
      else if t < -accMax then (BitVec.ofInt 128 (-accMax), true, false)
      else (BitVec.ofInt 128 t, false, false)

def Firing.mreg (f : Firing) (k : Nat) : MatReg := Map.get emptyMatReg f.mregs k
def Firing.setMreg (f : Firing) (k : Nat) (m : MatReg) : Firing := { f with mregs := Map.set f.mregs k m }
def Firing.acc (f : Firing) (k : Nat) : Acc := Map.get emptyAcc f.accs k
def Firing.setAcc (f : Firing) (k : Nat) (a : Acc) : Firing := { f with accs := Map.set f.accs k a }

/-- Element 32 i + j of an accumulator. -/
def Acc.elem (a : Acc) (e : Nat) : BitVec 128 := Map.get 0 a.elems e

/-- The elements of a list of places updated, each from its terms; answers whether any clamped (R81). -/
def Acc.update (a : Acc) (places : List Nat) (terms : Nat → Option Int) : Acc × Bool :=
  let rs := places.map fun e => (e, accStep (a.elem e) (terms e))
  let clamped := rs.any fun r => r.2.2.1
  ({ a with
      elems := rs.foldl (fun m r => Map.set m r.1 r.2.1) a.elems
      satFlag := a.satFlag || clamped
      invFlag := a.invFlag || rs.any fun r => r.2.2.2 }, clamped)

/-- drain(fmt, element): the element's container and the flags (R83). -/
def drainElem (fmt mode : Nat) (anchor : Int) (x : BitVec 128) : Nat × Nat :=
  let v : Exact := if x = marker then .nan else Exact.ofInt x.toInt anchor
  match floatFmt fmt with
  | some f => convert f mode v
  | none =>
    let w := (intFmt fmt).1
    let r := if (intFmt fmt).2 then toInteger mode (-(2 ^ (w - 1))) (2 ^ (w - 1) - 1) v else toInteger mode 0 (2 ^ w - 1) v
    (wrapInt w r.1, r.2)

/-! ### Shapes (R249 to R251) -/

/-- The fields of a shape word (R249). -/
structure Shape where
  pitch : Nat
  nsel : Nat
  roleB : Bool
  mode : Nat
  nc : Nat
  nr : Nat
  fmt : Nat
  deriving DecidableEq, Repr

def shapeOf (w : Nat) : Shape :=
  { pitch := bitField w 32 20, nsel := bitField w 27 2, roleB := bitField w 26 1 == 1, mode := bitField w 24 2,
    nc := bitField w 13 9 + 1, nr := bitField w 4 9 + 1, fmt := bitField w 0 4 }

/-- Container bits (R250). -/
def Shape.cb (h : Shape) : Nat := containerBits h.fmt
/-- The reduction dimension (R250). -/
def Shape.k (h : Shape) : Nat := if h.roleB then h.nr else h.nc
/-- The lines that carry scales (R250). -/
def Shape.lines (h : Shape) : Nat := if h.roleB then h.nc else h.nr
/-- N of a sparse group (R249). -/
def Shape.n (h : Shape) : Nat := if h.nsel = 0 then 48 else if h.nsel = 1 then 24 else if h.nsel = 2 then 16 else 12
/-- Stored columns (R250). -/
def Shape.sc (h : Shape) : Nat := if h.mode = 2 then h.nc * h.n / 48 else h.nc
/-- Row bytes (R250). -/
def Shape.rb (h : Shape) : Nat := h.sc * h.cb / 8
/-- Pitch (R250). -/
def Shape.p (h : Shape) : Nat := if h.pitch = 0 then h.rb else h.pitch
/-- Pitch of MLD.T (R250). -/
def Shape.pT (h : Shape) : Nat := if h.pitch = 0 then h.nr * h.cb / 8 else h.pitch

/-- Whether MSHAPE accepts a shape word (R250). -/
def shapeOk (w : Nat) : Bool :=
  let h := shapeOf w
  bitField w 52 12 == 0 && bitField w 29 3 == 0 && bitField w 22 2 == 0 && h.mode != 3 && (h.nsel == 0 || h.mode == 2) &&
  ((decide (1 ≤ h.fmt) && decide (h.fmt ≤ 8)) || h.fmt == 12) &&
  decide ((if h.roleB then h.nc else h.nr) ≤ 32) &&
  h.sc * h.cb % 32 == 0 && decide (h.nr * h.rb ≤ 8192) &&
  (h.mode != 1 || (decide (3 ≤ h.fmt) && decide (h.fmt ≤ 7) && h.k % 32 == 0)) &&
  (h.mode != 2 || (((decide (3 ≤ h.fmt) && decide (h.fmt ≤ 8)) || h.fmt == 12) && !h.roleB && h.nc % 48 == 0 &&
    decide (h.nr * h.sc ≤ 8192))) &&
  h.pitch % 4 == 0

def MatReg.sh (m : MatReg) : Shape := shapeOf (m.shape.getD 0)

/-- The n storage bytes of a register from position i up. -/
def MatReg.bytes (m : MatReg) (i n : Nat) : List Byte := (List.range n).map fun k => Map.get 0 m.storage (i + k)

/-- Storage bytes 0 up replaced by a list; bytes beyond keep their contents (R251). -/
def MatReg.fill (m : MatReg) (bs : List Byte) : MatReg :=
  { m with storage := (bs.zipIdx.map fun e => (e.2, e.1)) ++ m.storage.filter fun e => decide (bs.length ≤ e.1) }

/-- Row r of a register as one number, container bits c x cb up for stored column c (R251). -/
def MatReg.rowNat (m : MatReg) (r : Nat) : Nat := leNat (m.bytes (r * m.sh.rb) m.sh.rb)

/-- The stored elements of a register by row, as exact values. -/
def MatReg.values (m : MatReg) : List (List Exact) :=
  (List.range m.sh.nr).map fun r =>
    let x := m.rowNat r
    (List.range m.sh.sc).map fun c => elemValue m.sh.fmt (bitField x (m.sh.cb * c) m.sh.cb)

def exactZero : Exact := .fin false 0 1 0

/-- Row i of a sparse A rebuilt from its stored columns; a position that no index names holds none (R259). -/
def MatReg.sparseRow (m : MatReg) (i : Nat) (stored : List Exact) : List (Option Exact) :=
  (List.range m.sh.sc).foldl (fun (row : List (Option Exact)) t =>
    row.set (48 * (t / m.sh.n) + (Map.get 0 m.index (i * m.sh.sc + t)).toNat % 64) (some (stored.getD t exactZero)))
    (List.replicate m.sh.nc none)

/-- The rows of operand A, element (i, k) at place k of row i. -/
def MatReg.rowsA (m : MatReg) : List (List (Option Exact)) :=
  if m.sh.mode = 2 then m.values.zipIdx.map fun e => m.sparseRow e.2 e.1 else m.values.map fun r => r.map some

/-- The columns of operand B, element (k, j) at place k of column j. -/
def MatReg.colsB (m : MatReg) : List (List Exact) :=
  let rows := m.values
  (List.range m.sh.nc).map fun j => rows.map fun r => r.getD j exactZero

/-- The scale of line l at position k (R258). -/
def MatReg.scaleAt (m : MatReg) (scaled : Bool) (l k : Nat) : Scale :=
  if scaled then scaleOf (Map.get 0 m.scales (16 * l + k / 32)) else scaleOne

/-- The term of an element of A: a position that no index names contributes nothing, whatever stands opposite it (R259). -/
def termOf (a : Option Exact) (sa : Scale) (b : Exact) (sb : Scale) (anchor : Int) : Option Int :=
  match a with
  | none => some 0
  | some x => gridProduct x sa b sb anchor

/-- The terms of element (i, j): one grid product for each k (R258). -/
def productTerms (ma mb : MatReg) (scaled : Bool) (anchor : Int) (i j : Nat) (row : List (Option Exact)) (col : List Exact) : Option Int :=
  sumTerms ((row.zip col).zipIdx.map fun e => termOf e.1.1 (ma.scaleAt scaled i e.2) e.1.2 (mb.scaleAt scaled j e.2) anchor)

/-! ### Issue (R253, R266, R267, R271) -/

/-- A check of a matrix instruction, with its fault's cause and detail. -/
def matCheck (ok : Bool) (cause detail : Nat) : Res Unit := if ok then .ok () else .error (.fault cause 2 detail)

/-- Steps 2 to 6 of R253 for a transfer at an address that touches ranges of bytes, and the words it cannot read, found at issue (R224, R271;
log entry 8). -/
def checkTransfer (c : Ctx) (store : Bool) (addr : Nat) (aligned : Bool) (ranges : List (Nat × Nat)) : Res Unit := do
  let ws := ranges.flatMap fun r => wordsTouched r.1 r.2
  matCheck (ws.all fun w => (localKind w).isSome) 0x04 addr
  matCheck aligned 0x03 addr
  matCheck (ws.all fun w => localKind w == some .sram) 0x05 addr
  matCheck (ws.all fun w => ownerAllows (c.x.place c.t w) c.f.slot (c.slot.cls == 2) store) 0x11 addr
  if store then matCheck (!(ranges.any fun r => touchesBarrier c.x.barriers r.1 r.2)) 0x19 addr
  else match ws.findSome? fun w => c.x.badWord w 4 with
    | some w => .error (.badWord w 2 addr)
    | none => .ok ()

/-- The bytes of ranges read at issue, and the context after: each 32-bit word is read once, whole, at a place of its own among the engine
writes that no fence and no acquire orders (R253, R269; log entry 8). -/
def Ctx.loadRanges (c : Ctx) (ranges : List (Nat × Nat)) : List Byte × Ctx :=
  (ranges.flatMap fun r => (chunks 4 r.1 r.2).flatMap fun p => c.x.bytesAt (c.placeOf (p.1 / 4 * 4) 4) p.1 p.2,
    c.readSram (ranges.flatMap fun r => wordsTouched r.1 r.2).eraseDups 4)

/-- Bytes stored word by word from address a up, each word a single access after a place of the service order (R253). -/
def Ctx.storeWords (c : Ctx) (floor : Stamp) (a : Nat) : List Byte → Ctx
  | b0 :: b1 :: b2 :: b3 :: r => Ctx.storeWords (c.storeAfter floor a [b0, b1, b2, b3]) floor (a + 4) r
  | bs => if bs.isEmpty then c else c.storeAfter floor a bs

/-- A matrix instruction of the queue: it waits for an entry (R267), and one that is serialising waits for every older one and holds every
younger one until it completes (R248, R256, R272). body answers whether it clamped. -/
def matrixOp (s : State) (pipe : MPipe) (acc : Nat) (uses defs : List Nat) (serial : Bool) (body : Ctx → Res (Ctx × Bool)) : Out :=
  matOp s fun c =>
    let satf := c.f.mctl % 2 == 1 && decide (pipe = .array)
    if 4 ≤ (c.x.matOps.filter fun o => !o.started).length then .error (.wait .matrixQueue)
    else if (serial || satf) && !c.x.matOps.isEmpty then .error (.wait .matrixIdle)
    else do
      let r ← body c
      let op := { pipe := pipe, acc := acc, started := false, uses := uses, defs := defs, clamped := satf && r.2,
                  mflags := (r.1.f.acc acc).mflags, pc := c.f.pc : MatOp }
      let x := { r.1.x with matOps := r.1.x.matOps ++ [op] }
      let f := r.1.f.complete 4
      .ok { r.1 with x := x, f := if serial || satf then { f with phase := .waiting .matrixDone } else f }

/-- MSHAPE: a shape word checked and set, VALID cleared (R249, R250). -/
def execMshape (m a : Nat) (s : State) : Out :=
  matOp s fun c => do
    let r ← readSrcs c [a] none
    let w := (src r.1 0).toNat
    matCheck (shapeOk w) 0x0B c.f.pc
    matCheck (!(decide (c.st.variant = .w2q) && decide (5 ≤ w % 16) && decide (w % 16 ≤ 7))) 0x02 c.f.pc
    { r.2 with f := r.2.f.setMreg m { r.2.f.mreg m with shape := some w, valid := false } }.complete 4

/-- MZERO: elements 0 and flags clear, anchor kept (R260). -/
def execMzero (c : Nat) (s : State) : Out :=
  matrixOp s .array c [] [24 + c] false fun x =>
    .ok ({ x with f := x.f.setAcc c { emptyAcc with anchor := (x.f.acc c).anchor } }, false)

/-- MANCH: every element but a marker rounded to the new grid (R260). -/
def execManch (c a : Nat) (s : State) : Out :=
  matrixOp s .array c [24 + c] [24 + c] false fun x => do
    let r ← readSrcs x [a] none
    let acc := r.2.f.acc c
    let anchor := sextInt 16 (src r.1 0).toNat
    let rs := acc.elems.map fun e =>
      if e.2 = marker then (e, false)
      else
        let v := e.2.toInt
        let t := toGrid (decide (v < 0)) v.natAbs acc.anchor anchor
        ((e.1, BitVec.ofInt 128 (if accMax < t then accMax else if t < -accMax then -accMax else t)),
          decide (accMax < t) || decide (t < -accMax))
    let clamped := rs.any (·.2)
    .ok ({ r.2 with f := r.2.f.setAcc c { acc with elems := rs.map (·.1), anchor := anchor, satFlag := acc.satFlag || clamped } }, clamped)

/-- MADDA: the source's elements, each rounded to the destination's grid, added as single terms (R82, R260). -/
def execMadda (c a : Nat) (s : State) : Out :=
  matrixOp s .array c [24 + c, 24 + a] [24 + c] false fun x =>
    let acc := x.f.acc c
    let from_ := x.f.acc a
    let term := fun e =>
      let v := from_.elem e
      if v = marker then none else some (toGrid (decide (v.toInt < 0)) v.toInt.natAbs from_.anchor acc.anchor)
    let places := (Map.keys acc.elems ++ (Map.keys from_.elems).filter fun e => !(Map.keys acc.elems).contains e)
    let r := acc.update places term
    .ok ({ x with f := x.f.setAcc c r.1 }, r.2)

/-- MFLAGS: anchor and flags of an accumulator, once nothing older that writes it is pending (R261, R267). -/
def execMflags (c d : Nat) (s : State) : Out :=
  matOp s fun x => do
    let r ← readSrcs x [] (some d)
    if x.x.matOps.any fun o => o.defs.contains (24 + c) then .error (.wait (.accumulator c))
    else (r.2.writeReg d (BitVec.ofNat 64 (x.f.acc c).mflags)).complete 4

/-- MREAD: one half of one element; a q register is port misuse (R262). -/
def execMread (c d : Nat) (s : State) : Out :=
  matOp s fun x => do
    check x (decide (d < 24)) 0x06
    if x.x.matOps.any fun o => o.defs.contains (24 + c) then .error (.wait (.accumulator c))
    else
      let i := (x.f.sreg d).toNat
      let e := ((x.f.acc c).elem (i % 1024)).toNat
      (x.writeReg d (BitVec.ofNat 64 (if bitField i 10 1 = 1 then e / 2 ^ 64 else e))).complete 4

/-! ### Transfers (R253 to R256) -/

/-- The address ranges of the nr rows of a plain transfer. -/
def rowRanges (h : Shape) (a : Nat) : List (Nat × Nat) := (List.range h.nr).map fun r => (a + r * h.p, h.rb)

/-- The address ranges of the elements of MLD.T, row by row of the register (R254). -/
def transposedRanges (h : Shape) (a : Nat) : List (Nat × Nat) :=
  (List.range h.nr).flatMap fun r => (List.range h.nc).map fun c =>
    let x := a + c * h.pT + r * (h.cb / 8)
    (swz (x - x % 4) + x % 4, h.cb / 8)

/-- A transfer whose register has a shape that suits it: its address read, then the checks of R253, then the work. -/
def transferOp (s : State) (m a : Nat) (uses defs : List Nat) (serial store : Bool) (suits : Shape → Bool)
    (ranges : Shape → Nat → List (Nat × Nat)) (work : Ctx → Shape → Nat → Res Ctx) : Out :=
  matrixOp s .transfer 0 uses defs serial fun c => do
    let r ← readSrcs c [a] none
    let addr := (src r.1 0).toNat
    let reg := c.f.mreg m
    matCheck (reg.shape.isSome && suits reg.sh) 0x0B addr
    checkTransfer c store addr (addr % 4 == 0) (ranges reg.sh addr)
    let c1 ← work r.2 reg.sh addr
    .ok (c1, false)

/-- MLD (R254). -/
def execMld (m a : Nat) (s : State) : Out :=
  transferOp s m a [] [m] false false (fun _ => true) rowRanges fun c h addr =>
    let l := c.loadRanges (rowRanges h addr)
    .ok { l.2 with f := l.2.f.setMreg m ((l.2.f.mreg m).fill l.1) }

/-- MLD.T (R254). -/
def execMldT (m a : Nat) (s : State) : Out :=
  transferOp s m a [] [m] false false (fun h => (h.cb == 8 || h.cb == 16) && h.mode == 0 && decide (h.nc ≤ 512)) transposedRanges
    fun c h addr =>
      let l := c.loadRanges (transposedRanges h addr)
      .ok { l.2 with f := l.2.f.setMreg m ((l.2.f.mreg m).fill l.1) }

/-- A storage byte as MST writes it: container bits [7:6] of the 6-bit formats are 0 (R254). -/
def storedByte (fmt : Nat) (b : Byte) : Byte := if fmt = 5 ∨ fmt = 6 then b &&& 0x3F#8 else b

/-- MST (R254). -/
def execMst (m a : Nat) (s : State) : Out :=
  transferOp s m a [m] [] false true (fun _ => true) rowRanges fun c0 h addr =>
    .ok ((List.range h.nr).foldl (fun c r =>
      c.storeWords c0.x.coreSeen (addr + r * h.p) (((c.f.mreg m).bytes (r * h.rb) h.rb).map (storedByte h.fmt))) c0)

/-- MLDS (R255). -/
def execMlds (m a : Nat) (s : State) : Out :=
  transferOp s m a [] [8 + m] false false (fun h => h.mode == 1) (fun h addr => [(addr, 4 * (h.lines * (h.k / 32)))]) fun c h addr =>
    let nb := h.k / 32
    let l := c.loadRanges [(addr, 4 * (h.lines * nb))]
    let ws := bytesWords l.1
    let reg := l.2.f.mreg m
    .ok { l.2 with f := l.2.f.setMreg m { reg with
      scales := (List.range (h.lines * nb)).foldl (fun sc i => Map.set sc (16 * (i / nb) + i % nb) (ws.getD i 0 % 2 ^ 20)) reg.scales } }

/-- Whether the index bytes of one row are legal: below 48, and rising within each group (R256). -/
def indexRowOk (n : Nat) (row : List Nat) : Bool :=
  row.zipIdx.all fun e => decide (e.1 ≤ 47) && (e.2 % n == 0 || decide (row.getD (e.2 - 1) 0 < e.1))

/-- MLDX: index bytes checked whole, then taken, VALID set (R256). -/
def execMldx (m a : Nat) (s : State) : Out :=
  transferOp s m a [] [16 + m] true false (fun h => h.mode == 2) (fun h addr => [(addr, h.nr * h.sc)]) fun c h addr => do
    let l := c.loadRanges [(addr, h.nr * h.sc)]
    let rows := (List.range h.nr).map fun r => ((l.1.drop (r * h.sc)).take h.sc).map BitVec.toNat
    matCheck (rows.all (indexRowOk h.n)) 0x0B addr
    let reg := l.2.f.mreg m
    .ok { l.2 with f := l.2.f.setMreg m { reg with
      index := (l.1.zipIdx.map fun e => (e.2, e.1)) ++ reg.index.filter fun e => decide (l.1.length ≤ e.1), valid := true } }

/-! ### Products (R257 to R259) -/

/-- The class of a format in MMA (R257): 0 16-bit, 1 narrow float, 2 8-bit integer. -/
def fmtClass (fmt : Nat) : Nat := if fmt ≤ 2 then 0 else if fmt ≤ 7 then 1 else 2

/-- A product form: operands checked, then every element of the block updated in one step (R258, R81). -/
def productOp (s : State) (c a b : Nat) (uses : List Nat) (modeA modeB : Nat) (scaled : Bool) (classes : List Nat) : Out :=
  matrixOp s .array c ([a, b, 24 + c] ++ uses) [24 + c] false fun x => do
    let ma := x.f.mreg a
    let mb := x.f.mreg b
    matCheck (ma.shape.isSome && mb.shape.isSome && !ma.sh.roleB && mb.sh.roleB && ma.sh.mode == modeA && mb.sh.mode == modeB &&
      (modeA != 2 || ma.valid) && fmtClass ma.sh.fmt == fmtClass mb.sh.fmt && classes.contains (fmtClass ma.sh.fmt) &&
      ma.sh.k == mb.sh.k) 0x0B x.f.pc
    let rows := ma.rowsA
    let cols := mb.colsB
    let acc := x.f.acc c
    let places := (List.range ma.sh.nr).flatMap fun i => (List.range mb.sh.nc).map fun j => 32 * i + j
    let r := acc.update places fun e =>
      productTerms ma mb scaled acc.anchor (e / 32) (e % 32) (rows.getD (e / 32) []) (cols.getD (e % 32) [])
    .ok ({ x with f := x.f.setAcc c r.1 }, r.2)

/-- MMA (R257, R258). -/
def execMma (c a b : Nat) (s : State) : Out := productOp s c a b [] 0 0 false [0, 1, 2]

/-- MMA.S: 0x02 on the W2-Q (R53, R259). -/
def execMmaS (c a b : Nat) (s : State) : Out :=
  if s.variant = .w2q then matOp s fun x => coreFault x 0x02 else productOp s c a b [16 + a] 2 0 false [1, 2]

/-- MMA.Q (R257, R258). -/
def execMmaQ (c a b : Nat) (s : State) : Out := productOp s c a b [8 + a, 8 + b] 1 1 true [1]

/-! ### Drains (R263 to R265) -/

/-- Whether a drain's format is missing in the variant (R2, R252). -/
def lacksDrain (v : Variant) (f : ElemFmt) : Bool := decide (v = .w2q) && (f == .e3m2 || f == .e2m3 || f == .e2m1)

/-- Elements col0 up of row i drained: the row as one number, element j at eb x j, and the flags (R265). -/
def drainRow (a : Acc) (fmt mode i col0 n : Nat) : Nat × Nat :=
  (List.range n).foldl (fun (r : Nat × Nat) j =>
    let d := drainElem fmt mode a.anchor (a.elem (32 * i + col0 + j))
    (r.1 + d.1 * 2 ^ (containerBits fmt * j), r.2 ||| d.2)) (0, 0)

/-- The 32-bit words of a number, low word first. -/
def wordsOfNat (n x : Nat) : List Word32 := (List.range n).map fun i => BitVec.ofNat 32 (x / 2 ^ (32 * i))

/-- MDRAIN: a rectangle rounded and staged row by row (R263). -/
def execMdrain (c a : Nat) (fm : ElemFmt) (s : State) : Out :=
  if lacksDrain s.variant fm then matOp s fun x => coreFault x 0x02
  else matrixOp s .transfer c [24 + c] [] false fun x => do
    let r ← readSrcs x [a] none
    let w := (src r.1 0).toNat
    let eb := containerBits fm.code
    let nr := bitField w 13 5 + 1
    let nc := bitField w 23 5 + 1
    let p := bitField w 0 3
    matCheck (bitField w 28 36 == 0 && bitField w 3 5 == 0 && decide (bitField w 8 5 + nr ≤ 32) && decide (bitField w 18 5 + nc ≤ 32))
      0x0B x.f.pc
    matCheck (nc * eb % 32 == 0) 0x0B x.f.pc
    matCheck (!badStage r.2 p (nr * nc * eb / 32)) 0x06 x.f.pc
    let rows := (List.range nr).map fun i => drainRow (r.2.f.acc c) fm.code r.2.f.round (bitField w 8 5 + i) (bitField w 18 5) nc
    let f := r.2.f.stage p (rows.flatMap fun e => wordsOfNat (nc * eb / 32) e.1)
    .ok ({ r.2 with f := { f with fflags := rows.foldl (fun fl e => fl ||| e.2) f.fflags } }, false)

/-- MDRAIN.M: the whole accumulator rounded and stored row by row (R264). -/
def execMdrainM (c a : Nat) (fm : ElemFmt) (s : State) : Out :=
  if lacksDrain s.variant fm then matOp s fun x => coreFault x 0x02
  else matrixOp s .transfer c [24 + c] [] false fun x => do
    let r ← readSrcs x [a] none
    let w := (src r.1 0).toNat
    let eb := containerBits fm.code
    let addr := bitField w 0 22
    let p := if bitField w 32 20 = 0 then 4 * eb else bitField w 32 20
    matCheck (bitField w 52 12 == 0 && bitField w 22 10 == 0 && decide (4 * eb ≤ p)) 0x0B addr
    checkTransfer r.2 true addr (addr % 4 == 0 && p % 4 == 0) ((List.range 32).map fun i => (addr + i * p, 4 * eb))
    let rows := (List.range 32).map fun i => drainRow (r.2.f.acc c) fm.code r.2.f.round i 0 32
    let c1 := rows.zipIdx.foldl (fun c e => c.storeWords x.x.coreSeen (addr + e.2 * p) (leBytes (4 * eb) e.1.1)) r.2
    .ok ({ c1 with f := { c1.f with fflags := rows.foldl (fun fl e => fl ||| e.2) c1.f.fflags } }, false)

end Sys2Proof.Machine
end

