-- ==== Sys2Proof/Machine/Streams.lean ====
section
/-! DEFINITION. Stream, copy and inbox instructions, majors 0x34 and 0x38 to 0x3A (R275 to R295, R306 to R310). -/

namespace Sys2Proof.Machine

/-! ### Addresses and what an engine may touch (R275, R276) -/

/-- Bytes of an element of a format code (R282). -/
def elemBytes (fmt : Nat) : Nat := if fmt = 7 then 1 else containerBits fmt / 8

/-- One past the last virtual address (R275). -/
def vaEnd : Nat := 2 ^ 57

/-- The granules that a range of n > 0 bytes touches. -/
def granules (a n : Nat) : List Nat := (List.range ((a + n - 1) / 1024 - a / 1024 + 1)).map fun i => a / 1024 + i

/-- The check of R276 on the SRAM range of n > 0 bytes at a: 0 where allowed, 0x11, or the cause for a range of two places, of the system
region or beyond the window. -/
def engineCheck (x : Tile) (t a n k : Nat) (direct write : Bool) (cause : Nat) : Nat :=
  if sramEnd < a + n then cause
  else
    let pl := x.place t a
    if (granules a n).any fun g => !(x.place t (g * 1024) == pl) then cause
    else if pl = .system then cause
    else if ownerAllows pl k direct write then 0
    else 0x11

/-! ### Stream records (R278 to R281) -/

/-- The engine stream that a program's stream number names, or fault 0x11 (R277). -/
def Ctx.streamNo (c : Ctx) (k : Nat) : Res Nat :=
  if k < c.x.strCount c.f.slot then .ok (c.x.strBase c.f.slot + k) else coreFault c 0x11

/-- The event of a change of STATE of a stream of the running slot (R344). -/
def Ctx.streamEvent (c : Ctx) : Ctx := { c with f := { c.f with evpend := c.f.evpend ||| 32 } }

/-- A record with a new state: the event where it changes (R279, R344). -/
def Ctx.setStreamState (c : Ctx) (k : Nat) (r : Words) (code : Nat) : Ctx :=
  let c1 := { c with x := c.x.setStream k (setStrState r code) }
  if strState (c.x.stream k) = code then c1 else c1.streamEvent

/-- The endpoint word of R278. -/
def endpointWord (kind fmt : Nat) : Nat := kind + 4 * fmt + 64

/-- The record of a stream cleared by SCFG with role 0: start count and hold kept, every level of count 1 (R279, R285). -/
def clearedRecord (r : Words) : Words :=
  Words.ofList [Words.word r 0 % 256 / 128 * 128, strStart r, 0, 0, 0, 0, 0, 0, 0, 0, 1, 0, 1, 0, 1, 0, 1, 0]

/-- SCFG (R285). -/
def execScfg (d a : Nat) (role : EpRole) (kind : EpKind) (fm : ElemFmt) (i : Nat) (s : State) : Out :=
  coreOp s 8 fun c => do
    let r ← readSrcs c [a] none
    let k ← c.streamNo d
    let rec0 := c.x.stream k
    check c (decide (strState rec0 ≤ 1)) 0x13
    let v := (src r.1 0).toNat
    let rec1 := match role with
      | .src => Words.setWord (Words.setWord (Words.setDword (clearedRecord rec0) 2 v) 6 (endpointWord kind.code fm.code)) 7 i
      | .dst => Words.setWord (Words.setWord (Words.setDword rec0 4 v) 8 (endpointWord kind.code fm.code)) 9 i
    (r.2.setStreamState k (Words.setField rec1 0 16 5 c.f.slot) 1).complete 8

/-- SDIM (R286). -/
def execSdim (d a l i : Nat) (s : State) : Out :=
  coreOp s 8 fun c => do
    let r ← readSrcs c [a] none
    let k ← c.streamNo d
    check c (decide (strState (c.x.stream k) ≤ 1)) 0x13
    let rec1 := Words.setWord (Words.setWord (c.x.stream k) (10 + 2 * l) ((src r.1 0).toNat % 2 ^ 24)) (11 + 2 * l) i
    (r.2.setStreamState k rec1 1).complete 8

/-- Elements of the loop nest (R282). -/
def strTotal (r : Words) : Nat := strCount r 0 * strCount r 1 * strCount r 2 * strCount r 3

/-- Bytes of an element of the stream. -/
def strElem (r : Words) : Nat := elemBytes (strSrcFmt r)

/-- Whether the patterned endpoint is the destination, for a pair of kinds; none where R280 does not list the pair. -/
def patternedDst (srcKind dstKind : Nat) : Option Bool :=
  if srcKind = 0 ∧ dstKind = 0 then some false
  else if srcKind = 0 ∧ dstKind = 1 then some true
  else if srcKind = 1 ∧ dstKind = 0 then some false
  else if srcKind ≤ 1 ∧ dstKind = 2 then some false
  else if srcKind = 2 ∧ dstKind ≤ 1 then some true
  else none

/-- The offset of the lowest element of the nest from the base, and of the highest. -/
def nestSpan (r : Words) : Int × Int :=
  [0, 1, 2, 3].foldl (fun (a : Int × Int) l =>
    let d := ((strCount r l : Int) - 1) * strStride r l
    (a.1 + min 0 d, a.2 + max 0 d)) (0, 0)

/-- A range of bytes of an endpoint: whether it is of the destination, its kind, first byte and one past the last. -/
structure StrRange where
  dst : Bool
  kind : Nat
  lo : Int
  hi : Int

/-- The address ranges of a stream that is not empty (R280, R282). -/
def strRanges (r : Words) (patDst : Bool) : List StrRange :=
  if strTotal r = 0 then []
  else
    let pb : Int := if patDst then strDstBase r else strSrcBase r
    let db : Int := if patDst then strSrcBase r else strDstBase r
    let pk := if patDst then strDstKind r else strSrcKind r
    let dk := if patDst then strSrcKind r else strDstKind r
    let sp := nestSpan r
    { dst := patDst, kind := pk, lo := pb + sp.1, hi := pb + sp.2 + strElem r : StrRange } ::
      (if dk = 2 then [] else [{ dst := !patDst, kind := dk, lo := db, hi := db + strElem r * strTotal r }])

/-- Check 3 of R287 on the parameters: 0 for memory; a port's reserved fields and those of the other role are 0 (R280). -/
def paramOk (kind param : Nat) (dst : Bool) : Bool :=
  if kind = 2 then
    bitField param 24 8 == 0 && bitField param 10 6 == 0 && bitField param 7 1 == 0 &&
      (if dst then bitField param 9 1 == 0 else bitField param 16 8 == 0 && bitField param 8 1 == 0)
  else param == 0

/-- Check 4 of R287: bases and strides are multiples of the element. -/
def strAligned (r : Words) (patDst : Bool) : Bool :=
  let e := strElem r
  let pb := if patDst then strDstBase r else strSrcBase r
  let db := if patDst then strSrcBase r else strDstBase r
  let dk := if patDst then strSrcKind r else strDstKind r
  pb % e == 0 && ([0, 1, 2, 3].all fun l => strStride r l % e == 0) && (dk == 2 || db % e == 0)

/-- Whether a stream is running, paused, deferred or stopping. -/
def strBusy (r : Words) : Bool := decide (2 ≤ strState r)

/-- Check 7 of R287: the port that a parameter names is a stream port that suits the role, and no other running stream serves it (R281,
R283). -/
def Tile.portOk (x : Tile) (k tag param e : Nat) (dst : Bool) : Bool :=
  let ps := bitField param 0 4
  let pp := bitField param 4 3
  let sl := x.slot ps
  !(sl.stateCode == 0) && sl.tag == tag &&
  (if dst then sl.inDecl pp && bitField (x.edgeFlags ps (sl.inEdge pp)) 0 1 == 1 && decide (e ≤ 4 * sl.inWidth pp)
   else sl.outDecl pp && bitField (x.edgeFlags ps (sl.outEdge pp)) 0 1 == 1 && decide (e ≤ 4 * sl.outWidth pp)) &&
  (List.range 16).all fun j =>
    let o := x.stream j
    j == k || !(strState o == 2) ||
      (if dst then !(strDstKind o == 2 && strDstParam o % 128 == param % 128) else !(strSrcKind o == 2 && strSrcParam o % 128 == param % 128))

/-- The cause of the first check of R287 that fails, or 0. -/
def sgoCause (c : Ctx) (k : Nat) : Nat :=
  let r := c.x.stream k
  let direct := c.slot.cls == 2
  if !(decide (strState r ≤ 1) && strSrcSet r && strDstSet r) then 0x13
  else match patternedDst (strSrcKind r) (strDstKind r) with
    | none => 0x13
    | some patDst =>
      if elemBytes (strSrcFmt r) ≠ elemBytes (strDstFmt r) then 0x13
      else if !(paramOk (strSrcKind r) (strSrcParam r) false && paramOk (strDstKind r) (strDstParam r) true) then 0x13
      else if !strAligned r patDst then 0x13
      else
        let rs := strRanges r patDst
        if rs.any fun g => decide (g.lo < 0) || decide ((if g.kind = 1 then (vaEnd : Int) else sramEnd) < g.hi) then 0x13
        else
          let causes := (rs.filter fun g => g.kind == 0).map fun g =>
            engineCheck c.x c.t g.lo.toNat (g.hi - g.lo).toNat c.f.slot direct g.dst 0x13
          if causes.contains 0x13 then 0x13
          else if (strSrcKind r == 1 || strDstKind r == 1) && !c.st.tagLive c.slot.tag then 0x12
          else if causes.contains 0x11 then 0x11
          else if strSrcKind r == 2 && !c.x.portOk k c.slot.tag (strSrcParam r) (strElem r) false then 0x13
          else if strDstKind r == 2 && !c.x.portOk k c.slot.tag (strDstParam r) (strElem r) true then 0x13
          else 0

/-- A stream's record at SGO: one more start, progress zeroed, the owner the running slot (R287). -/
def startRecord (r : Words) (slot : Nat) : Words :=
  let r1 := Words.setWord r 1 (strStart r + 1)
  let r2 := (List.range 10).foldl (fun r i => Words.setWord r (18 + i) 0) r1
  Words.setField r2 0 16 5 slot

/-- The engine state of an operation that the running firing issues (R28, R330). -/
def Ctx.newEngine (c : Ctx) (entry : Nat) : Engine :=
  { emptyEngine with
    attempt := c.f.uid, entry := entry, swatch := c.slot.swatch, scope := c.slot.scopeNo, reach := c.x.issueReach }

/-- An inbox entry reserved at issue; the instruction waits while none is free (R131). -/
def Ctx.reserveEntry (c : Ctx) : Res (Nat × Ctx) :=
  match c.x.freeEntryNo with
  | some i => .ok (i, { c with x := c.x.reserve c.f.slot i c.slot.swatch })
  | none => .error (.wait .inboxEntry)

/-- SGO: the checks of R287, then the stream starts or is deferred (R178). -/
def execSgo (a : Nat) (s : State) : Out :=
  coreOp s 4 fun c => do
    let k ← c.streamNo a
    check c (sgoCause c k == 0) (sgoCause c k)
    let e ← c.reserveEntry
    let r := c.x.stream k
    let deferred := !(c.slot.cls == 2) && (strDstKind r == 1 || strDstKind r == 2 || strSrcKind r == 2)
    let run := { emptyRun with eng := c.newEngine e.1, sbar := Map.get [] c.x.barred k }
    let c1 := { e.2 with x := { e.2.x with runs := Map.set e.2.x.runs k run, barred := Map.erase e.2.x.barred k } }
    let c2 := c1.setStreamState k (startRecord r c.f.slot) (if deferred then 4 else 2)
    ({ c2 with x := c2.x.keepStream k, f := if deferred then { c2.f with deferred := c2.f.deferred ++ [.stream k] } else c2.f } : Ctx).complete 4

/-- SSTOP (R288, R279). -/
def execSstop (a : Nat) (s : State) : Out :=
  coreOp s 4 fun c => do
    let k ← c.streamNo a
    if strState (c.x.stream k) = 4 then
      let c1 := { c with x := c.x.discardDeferred (.stream k), f := { c.f with deferred := c.f.deferred.filter fun d => !(d == Deferred.stream k) } }
      c1.streamEvent.complete 4
    else (c.onState fun s => s.stopStream c.t k 0x80 false).complete 4

/-- SSTAT (R289). -/
def execSstat (d a : Nat) (s : State) : Out :=
  scalarOp s [] d fun c _ => do
    let k ← c.streamNo a
    let r := c.x.stream k
    .ok (BitVec.ofNat 64 (strState r + strLstat r * 2 ^ 8 + strPerformed r % 2 ^ 48 * 2 ^ 16))

/-- SBAR: the next SGO of each named stream waits for the streams of the slot that are running, paused, stopping or deferred now; a stream
held back already waits for these too (R290). -/
def execSbar (a : Nat) (s : State) : Out :=
  coreOp s 4 fun c => do
    let r ← readSrcs c [a] none
    let base := c.x.strBase c.f.slot
    let count := c.x.strCount c.f.slot
    let live := ((List.range count).map (base + ·)).filter (fun k => strBusy (c.x.stream k)) |>.map fun k => (k, strStart (c.x.stream k))
    let named := ((bitsOf ((src r.1 0).toNat % 2 ^ 16) 16).filter fun k => decide (k < count)).map (base + ·)
    let x := named.foldl (fun (x : Tile) k =>
      let held := !(x.run k).sbar.isEmpty
      let x1 := { x with barred := Map.set x.barred k (Map.get [] x.barred k ++ live) }
      let x2 := if held then x1.setRun k { x.run k with sbar := (x.run k).sbar ++ live.filter fun w => !(w.1 == k) } else x1
      if live.isEmpty then x2 else x2.setStream k (Words.setField (x2.stream k) 0 7 1 1)) r.2.x
    { r.2 with x := x }.complete 4

/-! ### Copies (R291 to R293) -/

/-- Whether a copy address names DRAM (R275). -/
def copyDram (a : Nat) : Bool := bitField a 63 1 == 1

/-- The byte address of a copy address within its space. -/
def copyAddr (a : Nat) : Nat := if copyDram a then a % 2 ^ 57 else a

/-- Whether R275 refuses a copy address. -/
def copyAddrBad (a : Nat) : Bool := if copyDram a then bitField a 57 6 != 0 else decide (sramEnd ≤ a)

/-- The cause that a copy meets at issue, or 0: alignment, then the addresses under R275, then the ranges in SRAM under R276, then whether
each range is whole in its space (R291, R292). -/
def copyCause (x : Tile) (t k : Nat) (direct : Bool) (srcA dstA len : Nat) : Nat :=
  if len % 4 ≠ 0 ∨ srcA % 4 ≠ 0 ∨ dstA % 4 ≠ 0 then 0x14
  else if copyAddrBad srcA ∨ copyAddrBad dstA then 0x14
  else
    let local_ := fun (a : Nat) (write : Bool) => if copyDram a || len == 0 then 0 else engineCheck x t a len k direct write 0x14
    if local_ srcA false = 0x14 ∨ local_ dstA true = 0x14 then 0x14
    else if local_ srcA false = 0x11 ∨ local_ dstA true = 0x11 then 0x11
    else if (if copyDram srcA then vaEnd else sramEnd) < copyAddr srcA + len then 0x14
    else if (if copyDram dstA then vaEnd else sramEnd) < copyAddr dstA + len then 0x14
    else 0

/-- A copy issued by the running firing: an entry reserved, the copy started, or deferred where it writes DRAM (R178, R291).

DESIGN CHOICE (log entry 32): R308 gives words 8 to 15 of a completion with status 0x11 to a copy from a packet without saying whether the
packet of CREQ is meant; the model gives them to copy-request port tokens alone, so `packet` is empty here and those words are zeros. -/
def Ctx.issueCopy (c : Ctx) (kind srcA dstA len tag : Nat) : Res Ctx := do
  let e ← c.reserveEntry
  let deferred := !(c.slot.cls == 2) && copyDram dstA
  let cp : Copy :=
    { id := c.x.nextOp, slot := c.f.slot, kind := kind, src := srcA, dst := dstA, len := len, tag := tag, packet := [], begun := 0,
      done := 0, deferred := deferred, paused := false, status := 0, eng := c.newEngine e.1 }
  let x := { e.2.x with copies := e.2.x.copies ++ [cp], nextOp := c.x.nextOp + 1 }
  .ok { e.2 with x := x, f := if deferred then { e.2.f with deferred := e.2.f.deferred ++ [.copy cp.id] } else e.2.f }

/-- COPY, fields read in the order a, b, d (R291). -/
def execCopy (d a b i : Nat) (s : State) : Out :=
  coreOp s 8 fun c => do
    let r ← readSrcs c [a, b, d] none
    let len := (src r.1 1).toNat
    let cause := if 2 ^ 24 ≤ len then 0x14 else
      copyCause c.x c.t c.f.slot (c.slot.cls == 2) (src r.1 0).toNat (src r.1 2).toNat len
    check c (cause == 0) cause
    let c1 ← r.2.issueCopy 0x02 (src r.1 0).toNat (src r.1 2).toNat len i
    c1.complete 8

/-- Word i of a packet. -/
def packetWord (p : List Word32) (i : Nat) : Nat := (p.getD i 0).toNat

def packetSrc (p : List Word32) : Nat := packetWord p 0 + 2 ^ 32 * packetWord p 1
def packetDst (p : List Word32) : Nat := packetWord p 2 + 2 ^ 32 * packetWord p 3

/-- The cause that a copy request packet meets, or 0 (R292). -/
def packetCause (x : Tile) (t k : Nat) (direct : Bool) (p : List Word32) : Nat :=
  if 2 ^ 24 ≤ packetWord p 4 ∨ packetWord p 6 ≠ 0 ∨ packetWord p 7 ≠ 0 then 0x14
  else copyCause x t k direct (packetSrc p) (packetDst p) (packetWord p 4)

/-- CREQ: the packet in lanes 0 to 7 (R293). -/
def execCreq (a : Nat) (s : State) : Out :=
  coreOp s 4 fun c => do
    let p := (c.f.vreg a).take 8
    let cause := packetCause c.x c.t c.f.slot (c.slot.cls == 2) p
    check c (cause == 0) cause
    let c1 ← c.issueCopy 0x03 (packetSrc p) (packetDst p) (packetWord p 4) (packetWord p 5)
    c1.complete 4

/-! ### The inbox (R309, R310) -/

/-- The oldest full entry that the running slot sees; for the inbox actor slot the message that fired it comes first (R306, R309). -/
def Ctx.oldestMessage (c : Ctx) : Option Nat :=
  match c.f.msgEntry with
  | some i => if (c.x.entry i).state = .full then some i else c.x.oldestFull c.f.slot
  | none => c.x.oldestFull c.f.slot

/-- The wait of WAITMSG: over at once where an entry is full, or where none is full and none reserved (R309). -/
def Ctx.waitMessage (c : Ctx) : Res Unit :=
  if c.oldestMessage.isNone && !(c.x.entries c.f.slot .reserved).isEmpty then .error (.wait .message) else .ok ()

/-- An entry marked taken (R309): what it brings comes before everything that the tile issues from here on (R330). -/
def Ctx.takeEntry (c : Ctx) (i : Nat) : Ctx :=
  { c with x := (c.x.setEntry i { c.x.entry i with state := .taken }).acquire (c.x.entry i).reach }

/-- WAITMSG (R309). -/
def execWaitmsg (s : State) : Out :=
  coreOp s 4 fun c => do
    c.waitMessage
    c.complete 4

/-- MSGTAKE (R309). -/
def execMsgtake (d : Nat) (s : State) : Out :=
  coreOp s 4 fun c => do
    c.waitMessage
    match c.oldestMessage with
    | some i =>
      let c1 := c.takeEntry i
      { c1 with f := c1.f.writeV d (lanes16.map fun j => (c.x.entry i).words.getD j 0) }.complete 4
    | none => ({ c with f := c.f.writeV d zeroLanes } : Ctx).complete 4

/-- MSGCNT (R309). -/
def execMsgcnt (d : Nat) (s : State) : Out :=
  scalarOp s [] d fun c _ => .ok (BitVec.ofNat 64 (c.x.entries c.f.slot .full).length)

/-- MSGDROP (R309). -/
def execMsgdrop (s : State) : Out :=
  coreOp s 4 fun c =>
    match c.oldestMessage with
    | some i => (c.takeEntry i).complete 4
    | none => c.complete 4

end Sys2Proof.Machine
end

