-- ==== Sys2Proof/Machine/Sync.lean ====
section
/-! DEFINITION. Semaphores, barrier slots, DRAM atomics and fences, majors 0x35, 0x36 and 0x3B (R312 to R327). -/

namespace Sys2Proof.Machine

/-! ### Semaphores (R312 to R314) -/

def Tile.sem (x : Tile) (k : Nat) : Nat := (Map.get 0 x.sems k).toNat

def Tile.setSem (x : Tile) (k v : Nat) : Tile := { x with sems := Map.set x.sems k (BitVec.ofNat 32 v) }

/-- The value of tile semaphore k after staged changes, an addition saturating (R314). -/
def semAfter (k : Nat) : Nat → List SemChange → Nat
  | v, [] => v
  | v, .add k' x :: cs => semAfter k (if k' = k then min (v + x) 0xFFFFFFFF else v) cs
  | v, .sub k' x :: cs => semAfter k (if k' = k then v - x else v) cs
  | v, .set k' x :: cs => semAfter k (if k' = k then x else v) cs

/-- The effective value of tile semaphore k for a firing (R314). -/
def semEffective (x : Tile) (f : Firing) (k : Nat) : Nat := semAfter k (x.sem k) f.semChanges

/-- The tile semaphore that a program's number names, or fault 0x11 (R312). -/
def Ctx.semNo (c : Ctx) (k : Nat) : Res Nat :=
  if k < c.x.semCount c.f.slot then .ok (c.x.semBase c.f.slot + k) else coreFault c 0x11

/-- A change of a semaphore: at once in a direct firing, else staged (R314). -/
def Ctx.changeSem (c : Ctx) (ch : SemChange) (k v : Nat) : Ctx :=
  if c.slot.cls = 2 then { c with x := c.x.setSem k v } else { c with f := { c.f with semChanges := c.f.semChanges ++ [ch] } }

/-- SEMINC (R314). -/
def execSeminc (a b : Nat) (s : State) : Out :=
  coreOp s 4 fun c => do
    let r ← readSrcs c [a] none
    let k ← c.semNo b
    let x := (src r.1 0).toNat % 2 ^ 32
    let v := semEffective c.x c.f k
    check c (decide (v + x ≤ 0xFFFFFFFF)) 0x1A
    (r.2.changeSem (.add k x) k (v + x)).complete 4

/-- SEMDEC (R314). -/
def execSemdec (a b : Nat) (s : State) : Out :=
  coreOp s 4 fun c => do
    let r ← readSrcs c [a] none
    let k ← c.semNo b
    let x := (src r.1 0).toNat % 2 ^ 32
    let v := semEffective c.x c.f k
    if v < x then .error (.wait (.semaphore k x)) else (r.2.changeSem (.sub k x) k (v - x)).complete 4

/-- SEMWAIT (R314). -/
def execSemwait (a b : Nat) (s : State) : Out :=
  coreOp s 4 fun c => do
    let r ← readSrcs c [a] none
    let k ← c.semNo b
    let x := (src r.1 0).toNat % 2 ^ 32
    if semEffective c.x c.f k < x then .error (.wait (.semaphore k x)) else r.2.complete 4

/-- SEMRD (R314). -/
def execSemrd (d b : Nat) (s : State) : Out :=
  scalarOp s [] d fun c _ => do
    let k ← c.semNo b
    .ok (BitVec.ofNat 64 (semEffective c.x c.f k))

/-- SEMSET (R314). -/
def execSemset (a b : Nat) (s : State) : Out :=
  coreOp s 4 fun c => do
    let r ← readSrcs c [a] none
    let k ← c.semNo b
    let x := (src r.1 0).toNat % 2 ^ 32
    (r.2.changeSem (.set k x) k x).complete 4

/-! ### Barrier slots (R315 to R322, R400) -/

/-- The four words of a barrier slot (R315). -/
structure Barrier where
  failed : Bool
  expect : Nat
  phase : Nat
  arrived : Nat
  xbytes : Int
  drops : Nat
  deriving DecidableEq, Repr

/-- The slot at address a, as the words of SRAM stand. -/
def Tile.barrier (x : Tile) (a : Nat) : Barrier :=
  let w := fun i => leNat (Memory.readN x.sram (a + 4 * i) 4)
  { failed := bitField (w 0) 24 8 == 0x5A, expect := bitField (w 0) 0 24, phase := bitField (w 1) 24 8, arrived := bitField (w 1) 0 24,
    xbytes := sextInt 32 (w 2), drops := bitField (w 3) 0 24 }

/-- Word 1 of a slot (R315). -/
def Barrier.word1 (b : Barrier) : Nat := b.arrived + 2 ^ 24 * b.phase

/-- The sixteen bytes of a slot (R315). -/
def Barrier.bytes (b : Barrier) : List Byte :=
  wordsBytes [b.expect + 2 ^ 24 * (if b.failed then 0x5A else 0xA5), b.word1, wrapInt 32 b.xbytes, b.drops]

/-- The four words of a slot written as one act (R316). -/
def State.setBarrier (s : State) (t a : Nat) (b : Barrier) : State := s.partWrite t a b.bytes

/-- The owner of a live slot. -/
def Tile.barrierOwner (x : Tile) (a : Nat) : Option Nat := (x.barriers.find? fun b => b.1 == a).map (·.2)

/-- complete_if_due of R321: the slot after it, and whether a phase completed. -/
def Barrier.completeIfDue (b : Barrier) : Barrier × Bool :=
  if b.arrived = b.expect ∧ 0 < b.expect ∧ b.xbytes = 0 then
    ({ b with phase := (b.phase + 1) % 256, arrived := 0, expect := b.expect - b.drops, drops := 0 }, true)
  else (b, false)

/-- What a slot keeps of an arrival that is applied to it: what its sender had before it goes before whatever sees the end of the phase
(R330, R333). -/
def Tile.noteArrival (x : Tile) (a : Nat) (v : View) : Tile :=
  { x with barInfo := Map.modify emptyBarInfo x.barInfo a fun i => { i with coming := View.join i.coming v } }

/-- A phase of a slot completed: what its arrivals brought is released (R333). -/
def Tile.releasePhase (x : Tile) (a : Nat) : Tile :=
  { x with barInfo := Map.modify emptyBarInfo x.barInfo a fun i => { i with coming := [], done := View.join i.done i.coming } }

/-- An instruction that sees the end of a phase (R330). -/
def Tile.seePhase (x : Tile) (a : Nat) : Tile := x.acquire (Map.get emptyBarInfo x.barInfo a).done.reach

/-- A slot with its new words, the event of its owner where a phase completed or the slot failed, and the debug log (R344, R361). -/
def State.putBarrier (s : State) (t a owner : Nat) (b : Barrier) (event logged : Bool) : State :=
  (s.setBarrier t a b).modTile t fun x =>
    let x1 := if event then (x.releasePhase a).event owner 4 else x
    if logged && bitField (x1.cword 0x405) 0 5 == owner then
      x1.logDebug [6, a, 0, 0, b.expect + 2 ^ 24 * (if b.failed then 0x5A else 0xA5), b.word1, wrapInt 32 b.xbytes, b.drops]
    else x1

/-- A slot failed, with the record of its failure (R320). -/
def State.failBarrier (s : State) (t a owner cause : Nat) (logged : Bool) : State :=
  (s.putBarrier t a owner { (s.tile t).barrier a with failed := true } true logged).writeError t cause 5 owner 0 (s.slot t owner).tag 0 a

/-- BINIT applied (R318). -/
def State.barInit (s : State) (t slot a expect : Nat) : State :=
  (s.setBarrier t a { failed := false, expect := expect, phase := 0, arrived := 0, xbytes := 0, drops := 0 }).modTile t fun x =>
    { x with
      barriers := x.barriers ++ [(a, slot)], barInfo := Map.set x.barInfo a { emptyBarInfo with swatch := (x.slot slot).swatch } }

/-- BRET applied (R322). -/
def State.barRet (s : State) (t a : Nat) : State :=
  (s.partWrite t a (List.replicate 16 0)).modTile t fun x =>
    { x with barriers := x.barriers.filter (fun b => !(b.1 == a)), barInfo := Map.erase x.barInfo a }

/-- The words of a slot read by the part: corrected, or each bad one recorded and repaired by its place, a lost one stopping the owner's swatch;
and whether they can be read (R223, R224). -/
def State.readSlot (s : State) (t a owner : Nat) : State × Bool :=
  let mend := fun (s : State) (w : Nat) =>
    if ((s.tile t).badWord w 4).isSome then
      let s1 := (s.writeError t 0x20 8 owner 0 (s.slot t owner).tag 0 w).repairWord t w
      if s.lostWord t w then s1.stopSwatch (s.slot t owner).swatch 0x20 t owner else s1
    else s.modTile t fun x => x.correct w 4
  let s1 := (wordsTouched a 16).foldl mend s
  (s1, ((s1.tile t).badWord a 16).isNone)

/-- BEXP applied; where XBYTES would leave its range the slot fails with record 0x19 (R317, R321). -/
def State.barExp (s : State) (t a : Nat) (y : Int) : State :=
  match (s.tile t).barrierOwner a with
  | none => s
  | some owner =>
    let b := (s.tile t).barrier a
    let v := b.xbytes + y
    if b.failed then s
    else if v < -(2 ^ 31) ∨ 2 ^ 31 - 1 < v then s.failBarrier t a owner 0x19 true
    else
      let r := { b with xbytes := v }.completeIfDue
      s.putBarrier t a owner r.1 r.2 true

/-- An arrival applied to a live slot; answers whether it was an over-arrival (R320). -/
def State.barArrive (s : State) (t a phase : Nat) (drop logged : Bool) : State × Bool :=
  match (s.tile t).barrierOwner a with
  | none => (s, false)
  | some owner =>
    let b := (s.tile t).barrier a
    if phase ≠ b.phase ∨ b.expect = 0 ∨ b.arrived = b.expect then (s.failBarrier t a owner 0x18 logged, true)
    else
      let r := { b with arrived := b.arrived + 1, drops := if drop then b.drops + 1 else b.drops }.completeIfDue
      (s.putBarrier t a owner r.1 r.2 logged, false)

/-- A remote arrival, or a staged local one, as it is applied: the checks of R320, each with its record; view is what its sender had before
it. One that finds a word of the slot that cannot be read is discarded, with the word's own record (R224; log entry 13). -/
def State.applyArrival (s : State) (t a phase : Nat) (drop : Bool) (tag : Nat) (view : View) (logged : Bool) : State :=
  match (s.tile t).barrierOwner a with
  | none => s.writeError t 0x19 5 0xFF 0 tag 0 a
  | some owner =>
    if (s.slot t owner).tag ≠ tag then s.writeError t 0x11 5 owner 0 tag 0 a
    else
      let r := s.readSlot t a owner
      if !r.2 then r.1
      else if ((s.tile t).barrier a).failed then r.1.writeError t 0x18 5 owner 0 tag 0 a
      else ((r.1.modTile t fun x => x.noteArrival a view).barArrive t a phase drop logged).1

/-- One staged barrier change applied at commit (R317). A change of XBYTES that finds a word of the slot that cannot be read is discarded, with
the word's own record (R224; log entry 13). -/
def State.applyBarChange (s : State) (t slot tag : Nat) : BarChange → State
  | .init a expect => s.barInit t slot a expect
  | .exp a y =>
    let r := s.readSlot t a slot
    if r.2 then r.1.barExp t a (sextInt 32 y) else r.1
  | .ret a => s.barRet t a
  | .arrive a phase drop => s.applyArrival t a phase drop tag (s.tile t).viewNow false

/-- The slot register as a firing's staged changes leave it: addresses and owners (R317). -/
def stagedBarriers (slot : Nat) : List (Nat × Nat) → List BarChange → List (Nat × Nat)
  | bs, [] => bs
  | bs, .init a _ :: cs => stagedBarriers slot (bs ++ [(a, slot)]) cs
  | bs, .ret a :: cs => stagedBarriers slot (bs.filter fun b => !(b.1 == a)) cs
  | bs, _ :: cs => stagedBarriers slot bs cs

def Ctx.stagedBars (c : Ctx) : List (Nat × Nat) := stagedBarriers c.f.slot c.x.barriers c.f.barChanges

/-- A barrier change: at once in a direct firing, else staged (R317). -/
def Ctx.changeBarrier (c : Ctx) (ch : BarChange) : Ctx :=
  if c.slot.cls = 2 then c.onState fun s => s.applyBarChange c.t c.f.slot c.slot.tag ch
  else { c with f := { c.f with barChanges := c.f.barChanges ++ [ch] } }

/-- Steps 1 to 4 of R400: alignment, range, liveness against a register, then the owner, or the owner's tag. -/
def checkBarrier (c : Ctx) (bars : List (Nat × Nat)) (a : Nat) (ownerOnly : Bool) : Res Unit := do
  check c (a % 16 == 0) 0x03
  check c (decide (a + 15 < sramEnd)) 0x04
  match bars.find? fun b => b.1 == a with
  | none => coreFault c 0x19
  | some b =>
    if ownerOnly then check c (b.2 == c.f.slot) 0x19 else check c ((c.x.slot b.2).tag == c.slot.tag) 0x11

/-- Whether a slot that a form names has failed; one that the firing has staged afresh has not (R400 step 5). -/
def Ctx.barFailed (c : Ctx) (a : Nat) : Bool :=
  (c.x.barrier a).failed && !(c.f.barChanges.any fun ch => match ch with | .init a' _ => a' == a | _ => false)

/-- The words of a live slot read by an instruction: corrected and counted, or fault 0x20 (R223, R224). -/
def Ctx.readSlot (c : Ctx) (a : Nat) : Res Ctx :=
  if !(c.x.barriers.any fun b => b.1 == a) then .ok c
  else match c.x.badWord a 16 with
    | some w => .error (.badWord w 8 a)
    | none => .ok { c with x := c.x.correct a 16 }

/-- BINIT (R318). -/
def execBinit (a b : Nat) (s : State) : Out :=
  coreOp s 4 fun c => do
    let r ← readSrcs c [a, b] none
    let x := (src r.1 0).toNat
    check c (x % 16 == 0) 0x03
    check c (decide (x + 15 < sramEnd)) 0x04
    check c (withinWindow (c.x.swin c.f.slot) x 16 || (c.slot.cls == 2 && withinWindow (c.x.pwin c.f.slot) x 16)) 0x11
    check c (!(c.stagedBars.any fun e => e.1 == x) && decide (c.stagedBars.length < 64)) 0x19
    (r.2.changeBarrier (.init x ((src r.1 1).toNat % 2 ^ 24))).complete 4

/-- ARRIVE and ARRIVEDROP: local when the tile named is the issuing one, else staged as a message (R319). -/
def arriveOp (s : State) (d a b : Nat) (drop : Bool) : Out :=
  coreOp s 4 fun c => do
    let r ← readSrcs c [a, b, d] none
    let x := (src r.1 0).toNat
    let phase := (src r.1 1).toNat % 256
    let dest := (src r.1 2).toNat % 2 ^ 32
    check c (x % 16 == 0) 0x03
    check c (decide (x + 15 < sramEnd)) 0x04
    match (c.st.swatch c.slot.swatch).rel c.t dest with
    | none => coreFault c 0x11
    | some dst =>
      if dest = 0 then do
        checkBarrier c c.stagedBars x false
        let c1 ← r.2.readSlot x
        check c (!c.barFailed x) 0x18
        if c.slot.cls = 2 then
          let after := c1.store.barArrive c.t x phase drop false
          if after.2 then .error (.failed after.1 0x18 0 c.f.pc)
          else (c1.onState fun s => (s.barArrive c.t x phase drop false).1).complete 4
        else (c1.changeBarrier (.arrive x phase drop)).complete 4
      else do
        check c (decide (c.f.messages.length < 16)) 0x06
        ({ r.2 with f := { r.2.f with messages := r.2.f.messages ++ [.arrival dst x phase drop] } } : Ctx).complete 4

/-- ARRIVE (R319). -/
def execArrive (d a b : Nat) (s : State) : Out := arriveOp s d a b false

/-- ARRIVEDROP (R319). -/
def execArrivedrop (d a b : Nat) (s : State) : Out := arriveOp s d a b true

/-- BEXP (R321): in a direct firing a balance out of range raises 0x19. -/
def execBexp (a b : Nat) (s : State) : Out :=
  coreOp s 4 fun c => do
    let r ← readSrcs c [a, b] none
    let x := (src r.1 0).toNat
    let y := (src r.1 1).toNat % 2 ^ 32
    checkBarrier c c.stagedBars x false
    let c1 ← r.2.readSlot x
    check c (!c.barFailed x) 0x18
    let v := (c.x.barrier x).xbytes + sextInt 32 y
    check c (!(c.slot.cls == 2 && (decide (v < -(2 ^ 31)) || decide (2 ^ 31 - 1 < v)))) 0x19
    (c1.changeBarrier (.exp x y)).complete 4

/-- BWAIT (R322). -/
def execBwait (a b : Nat) (s : State) : Out :=
  coreOp s 4 fun c => do
    let r ← readSrcs c [a, b] none
    let x := (src r.1 0).toNat
    let phase := (src r.1 1).toNat % 256
    checkBarrier c c.x.barriers x false
    let c1 ← r.2.readSlot x
    if (c.x.barrier x).failed then coreFault c 0x18
    else if (c.x.barrier x).phase = phase then .error (.wait (.barrier x phase))
    else ({ c1 with x := c1.x.seePhase x } : Ctx).complete 4

/-- BTEST (R322). -/
def execBtest (d a b : Nat) (s : State) : Out :=
  coreOp s 4 fun c => do
    let r ← readSrcs c [a, b] (some d)
    let x := (src r.1 0).toNat
    checkBarrier c c.x.barriers x false
    let c0 ← r.2.readSlot x
    let br := c.x.barrier x
    check c (!br.failed) 0x18
    let ended := !(br.phase == (src r.1 1).toNat % 256)
    let c1 : Ctx := if ended then { c0 with x := c0.x.seePhase x } else c0
    (c1.writeReg d (BitVec.ofNat 64 (br.word1 + if ended then 2 ^ 32 else 0))).complete 4

/-- BRET (R322). -/
def execBret (a : Nat) (s : State) : Out :=
  coreOp s 4 fun c => do
    let r ← readSrcs c [a] none
    let x := (src r.1 0).toNat
    checkBarrier c c.stagedBars x true
    (r.2.changeBarrier (.ret x)).complete 4

/-! ### DRAM atomics (R323 to R326) -/

/-- The translation probe of an atomic or watch that is dispatched (R298, R325). -/
def State.probeAtomic (s : State) (t : Nat) (a : Atomic) : State :=
  { s with xprobes := s.xprobes ++
      [{ op := { tile := t, key := if a.op = 9 then .watch a.id else .atomic a.id, run := a.id }, tag := (s.slot t a.slot).tag,
         vpage := a.addr / 4096, write := true, atomic := !(a.op == 9), watch := a.op == 9, walking := false }] }

/-- An atomic or watch issued: the checks of R323, an entry reserved, then dispatched or deferred (R325). -/
def atomOp (s : State) (op size : Nat) (uns : Bool) (cond a : Nat) (b : Option Nat) (d tag : Nat) : Out :=
  coreOp s 8 fun c => do
    let r ← readSrcs c (match b with | some b => [a, b, d] | none => [a, d]) none
    let addr := (src r.1 0).toNat
    check c (decide (addr < vaEnd)) 0x04
    check c (addr % atomBytes size == 0) 0x03
    let e ← r.2.reserveEntry
    let deferred := !(c.slot.cls == 2) && op != 9
    let at_ : Atomic :=
      { id := c.x.nextOp, slot := c.f.slot, op := op, size := size, unsigned_ := uns, cond := cond, addr := addr,
        d := if b.isSome then src r.1 2 else src r.1 1, b := if b.isSome then src r.1 1 else 0, tag := tag, deferred := deferred,
        paused := false, eng := c.newEngine e.1 }
    let x := { e.2.x with atomics := e.2.x.atomics ++ [at_], nextOp := c.x.nextOp + 1 }
    let f := if deferred then { e.2.f with deferred := e.2.f.deferred ++ [.atomic at_.id] } else e.2.f
    ({ e.2 with x := x, f := f, st := if deferred then e.2.st else e.2.st.probeAtomic c.t at_ } : Ctx).complete 8

/-- AADD (R324). -/
def execAadd (d a : Nat) (sz : AtomSize) (i : Nat) (s : State) : Out := atomOp s 0 sz.code false 0 a none d i

/-- AAND (R324). -/
def execAand (d a : Nat) (sz : AtomSize) (i : Nat) (s : State) : Out := atomOp s 1 sz.code false 0 a none d i

/-- AOR (R324). -/
def execAor (d a : Nat) (sz : AtomSize) (i : Nat) (s : State) : Out := atomOp s 2 sz.code false 0 a none d i

/-- AXOR (R324). -/
def execAxor (d a : Nat) (sz : AtomSize) (i : Nat) (s : State) : Out := atomOp s 3 sz.code false 0 a none d i

/-- AMIN (R324). -/
def execAmin (d a : Nat) (n : Bool) (sz : AtomSize) (i : Nat) (s : State) : Out := atomOp s 4 sz.code n 0 a none d i

/-- AMAX (R324). -/
def execAmax (d a : Nat) (n : Bool) (sz : AtomSize) (i : Nat) (s : State) : Out := atomOp s 5 sz.code n 0 a none d i

/-- ASWAP (R324). -/
def execAswap (d a : Nat) (sz : AtomSize) (i : Nat) (s : State) : Out := atomOp s 6 sz.code false 0 a none d i

/-- ACAS: compares with sd and swaps in sb (R324). -/
def execAcas (d a b : Nat) (sz : AtomSize) (i : Nat) (s : State) : Out := atomOp s 7 sz.code false 0 a (some b) d i

/-- AXADD: a long word from sd and sb (R324). -/
def execAxadd (d a b i : Nat) (s : State) : Out := atomOp s 8 4 false 0 a (some b) d i

/-- AWATCH: b is the condition (R326). -/
def execAwatch (d a b : Nat) (n : Bool) (sz : AtomSize) (i : Nat) (s : State) : Out := atomOp s 9 sz.code n b a none d i

/-! ### Fences (R327) -/

/-- Whether the outstanding requests of an engine reach below sequence number n. -/
def Engine.pendingBelow (g : Engine) (n : Nat) : Bool := g.outstanding.any fun o => decide (o.seq < n)

/-- Whether an operation still has requests below a sequence number outstanding (R327). -/
def Tile.accessPending (x : Tile) (e : OpKey × Nat) : Bool :=
  match e.1 with
  | .stream k => strBusy (x.stream k) && (x.run k).eng.pendingBelow e.2
  | _ => false

/-- Whether an operation that was dispatched has not been performed; a stream is named with its start count (R327). -/
def Tile.operationPending (x : Tile) (e : OpKey × Nat) : Bool :=
  match e.1 with
  | .stream k => strBusy (x.stream k) && strStart (x.stream k) == e.2
  | .copy id => x.copies.any fun c => c.id == id
  | .atomic id => x.atomics.any fun a => a.id == id
  | .watch id => x.atomics.any fun a => a.id == id

/-- How far the accesses of a stream have reached, under way still or ended (R327, R330). -/
def Tile.reachOf (x : Tile) (k : Nat) : Reach := if strBusy (x.stream k) then (x.run k).eng.reach else Map.get noReach x.ended k

/-- FENCE.CORE: what follows is fetched afresh (R112, R327). -/
def execFenceCore (s : State) : Out := coreOp s 4 fun c => ({ c with x := c.x.refetch } : Ctx).complete 4

/-- FENCE.XPATH (R327). -/
def execFenceXpath (s : State) : Out := coreOp s 4 fun c => ({ c with x := c.x.crossPath } : Ctx).complete 4

/-- The end of a fence: the accesses it waited for come before every later access of the tile, and it acts as FENCE.XPATH (R327). -/
def Tile.endFence (x : Tile) (rs : List Reach) : Tile := (rs.foldl Tile.acquire x).crossPath

/-- The accesses that a fence has waited for: of named streams those issued before the fence, as far as each has been performed; of dispatched
operations all (R327). -/
def Tile.fenceReach (x : Tile) (slot : Nat) : WaitCond → List Reach
  | .accesses _ reach => [reach]
  | .operations _ => Map.get noReach x.ended (32 + slot) ::
      (List.range 16).map fun j => if strOwner (x.stream j) = slot then Map.get noReach x.ended j else noReach
  | _ => []

/-- A fence that has issued: it is over once what it waits for is (R327). -/
def Ctx.fence (c : Ctx) (pending : Bool) (w : WaitCond) : Res Ctx :=
  if pending then .ok { c with f := { c.f.complete 4 with phase := .waiting w } }
  else ({ c with x := c.x.endFence (c.x.fenceReach c.f.slot w) } : Ctx).complete 4

/-- FENCE.STR (R327). -/
def execFenceStr (a : Nat) (s : State) : Out :=
  coreOp s 4 fun c => do
    let r ← readSrcs c [a] none
    let base := c.x.strBase c.f.slot
    let ks := (bitsOf ((src r.1 0).toNat % 2 ^ 16) 16).filter fun k => decide (k < c.x.strCount c.f.slot)
    let upTo := ks.map fun k => (OpKey.stream (base + k), (c.x.run (base + k)).eng.seq)
    r.2.fence (upTo.any c.x.accessPending) (.accesses upTo (ks.foldl (fun v k => v.join (c.x.reachOf (base + k))) noReach))

/-- The dispatched streams, copies and atomics of the running slot, watches not among them (R327). -/
def Ctx.dispatched (c : Ctx) : List (OpKey × Nat) :=
  let k := c.f.slot
  ((List.range 16).filter fun j =>
      strOwner (c.x.stream j) == k && strBusy (c.x.stream j) && !(strState (c.x.stream j) == 4)).map
    (fun j => (OpKey.stream j, strStart (c.x.stream j))) ++
  (c.x.copies.filter fun p => p.slot == k && !p.deferred).map (fun p => (OpKey.copy p.id, 0)) ++
  (c.x.atomics.filter fun a => a.slot == k && !a.deferred && a.op != 9).map fun a => (OpKey.atomic a.id, 0)

/-- FENCE.LVL: a level that the launch does not declare raises 0x01; at the tile domain it acts as FENCE.XPATH (R327). -/
def execFenceLvl (l : Nat) (s : State) : Out :=
  coreOp s 4 fun c =>
    match (c.st.swatch c.slot.swatch).level l with
    | none => coreFault c 0x01
    | some 0 => ({ c with x := c.x.crossPath } : Ctx).complete 4
    | some _ => c.fence (c.dispatched.any c.x.operationPending) (.operations c.dispatched)

end Sys2Proof.Machine
end

