-- ==== Sys2Proof/Machine/Sched.lean ====
section
/-! DEFINITION. The steps of the scheduler of a tile: selection, commit, retry, waits and gating (R162 to R187, R91, R148). A step whose
condition does not hold leaves the machine as it is. -/

namespace Sys2Proof.Machine

/-- A step of an agent other than a core: it always answers a next state. -/
def event (s : State) : Out := .next s

/-! ### Selection (R163, R164, R187, R201) -/

/-- The record of the inbox actor slot while it serves a message: the handler, and the inbox settings of the message's launch (R201). -/
def State.inboxRecord (s : State) (t i : Nat) : Slot :=
  let e := (s.tile t).entry i
  let sl := s.slotIn t 16 e.swatch
  { sl with record := Words.setField (Words.setWord sl.record 0 ((e.words.getD 0 0).toNat % 2 ^ 22)) 2 16 4 0 }

/-- The priority at which slot k is selected: one better where its age has reached 64 (R163). -/
def State.selectPrio (s : State) (t k : Nat) : Nat :=
  let x := s.tile t
  let p := if k = 16 then
      match s.handlerMessage t with
      | some i => Words.field (s.swatch (x.entry i).swatch).launch 9 0 4
      | none => 0
    else (x.slot k).prio
  if 64 ≤ (x.slot k).age then p - 1 else p

/-- The slots in the order after the one that fired last (R163). -/
def selectOrder (last : Nat) : List Nat := (List.range 17).map fun i => (last + 1 + i) % 17

/-- The slot that the scheduler selects: the lowest priority number, the first in order among equals (R163). -/
def State.selected (s : State) (t : Nat) : Option Nat :=
  ((selectOrder (s.tile t).lastFired).filter (s.isReady t)).foldl (fun best k => match best with
    | none => some k
    | some j => if s.selectPrio t k < s.selectPrio t j then some k else some j) none

/-- Whether the tokens that a firing of the slot requires include a void one (R187). -/
def Slot.requiresVoid (sl : Slot) : Bool :=
  sl.inPorts.any fun p => ((sl.inQueue p).toks.take (if sl.inBounded p then sl.inReq p else sl.inMax p)).any Token.void

/-- A firing of slot k begun, of the inbox actor on a message: fresh state, the slot firing (R164); the message puts what its sender had
before it before the firing's accesses (R330); a required void token ends it at once (R187). -/
def State.startFiring (s : State) (t k : Nat) (msg : Option Nat) : State :=
  let ready := (List.range 17).filter fun j => s.isReady t j && !(j == k)
  let s1 := s.modTile t fun x =>
    let x1 := match msg with
      | some i => (x.setSlot 16 (s.inboxRecord t i)).acquire (x.entry i).reach
      | none => x
    let x2 := x1.modSlot k fun sl => { sl.setState 3 with attempts := 0, lastUid := x.nextUid }
    { x2 with
      firing := some (freshFiring k x.nextUid (x2.slot k).handler ready msg), nextUid := x.nextUid + 1
      cycles := (x.cycles + Config.stall s.tick t) % 2 ^ 64 }
  if (s1.slot t k).requiresVoid then s1.voidCommit t none else s1

/-- FIRING_START: when no firing runs on a tile that runs, the selected actor fires (R163); none does on a tile that is lost (R13). -/
def execFiringStart (t : Nat) (s : State) : Out :=
  event (
    if (s.tile t).firing.isSome ∨ !((s.tile t).gating == .running) ∨ s.hostLost t then s
    else match s.selected t with
      | some k => s.startFiring t k (if k = 16 then s.handlerMessage t else none)
      | none => s)

/-! ### The commit (R176) -/

/-- The tokens that the staged words of a port form, marked where PMARK marked them. -/
def stagedTokens (f : Firing) (sl : Slot) (p : Nat) : List Token :=
  let w := sl.outWidth p
  let ws := Map.get [] f.staged p
  (List.range (ws.length / w)).map fun i =>
    { words := (ws.drop (i * w)).take w, void := false, mark := (Map.get [] f.marks p).contains i, tag := sl.tag }

/-- Step 3: the tokens of each port in port order. -/
def State.pushPorts (s : State) (t : Nat) (f : Firing) : State :=
  (s.slot t f.slot).outPorts.foldl (fun s p =>
    s.pushAll t f.slot p (stagedTokens f (s.slot t f.slot) p) ((Map.get [] f.scales p).map fun w => { word := BitVec.ofNat 32 w, void := false })) s

/-- Step 3: the messages and remote arrivals in program order, in the class of the swatch's tokens (R130, R319). -/
def State.sendStaged (s : State) (t k : Nat) (sl : Slot) : Staged → State
  | .message dst words => s.send { src := t, dst := dst, cls := tokenClass (s.swatch sl.swatch), body := .message sl.swatch words }
  | .arrival dst addr phase drop =>
    s.send { src := t, dst := dst, cls := tokenClass (s.swatch sl.swatch), body := .arrival addr phase drop k sl.tag }

/-- Step 3: a deferred operation dispatched, in issue order, after everything that the commit point puts before it (R178, R328). -/
def State.dispatch (s : State) (t : Nat) : Deferred → State
  | .stream k => s.modTile t fun x =>
    if strState (x.stream k) = 4 then
      (x.setRun k { x.run k with eng := { (x.run k).eng with reach := x.issueReach } }).setStream k (setStrState (x.stream k) 2)
    else x
  | .copy id =>
    s.modTile t fun x => { x with
      copies := x.copies.filter (fun c => !(c.id == id)) ++
        (x.copies.filter fun c => c.id == id).map fun c => { c with deferred := false, eng := { c.eng with reach := x.issueReach } } }
  | .atomic id =>
    let s1 := s.modTile t fun x => { x with atomics := x.atomics.map fun a =>
      if a.id = id then { a with deferred := false, eng := { a.eng with reach := x.issueReach } } else a }
    ((s.tile t).atomics.filter fun a => a.id == id).foldl (fun s a => s.probeAtomic t a) s1

/-- A seal that takes effect on an open scope alone (R173, R195). -/
def State.sealScope (s : State) (sw sc : Nat) : State :=
  s.modSwatch sw fun w => if (w.scope sc).stateCode = 1 then w.setScope sc ((w.scope sc).setState 2) else w

/-- A staged semaphore change: an addition that would pass the top saturates and is recorded (R314). -/
def State.applySem (s : State) (t slot : Nat) : SemChange → State
  | .add k x =>
    let v := (s.tile t).sem k + x
    let s1 := s.modTile t fun y => y.setSem k (min v 0xFFFFFFFF)
    if 0xFFFFFFFF < v then s1.writeError t 0x1A 0 slot 0 (s.slot t slot).tag 0 k else s1
  | .sub k x => s.modTile t fun y => y.setSem k (y.sem k - x)
  | .set k x => s.modTile t fun y => y.setSem k x

/-- What each input port pops at a normal commit (R175). -/
def commitPops (sl : Slot) (f : Firing) (p : Nat) : Nat :=
  if sl.inBounded p then ceilDiv (Map.get 0 f.cursors p) (sl.inWidth p) else sl.inMax p

/-- A request that the swatch be saved into its save area, made by HALTQ (R346, R353). One made before the pre-emption starts waits where the
swatch is stopping or stopped, and one made after counts for nothing. Where the launch declares no save area, the swatch stops with reason 0x31
instead (R354). -/
def State.requestSave (s : State) (sw : Nat) : State :=
  let w := s.swatch sw
  if w.phase == .bindingOff || w.preempt.isSome || w.preemptWait.isSome then s
  else if w.stop.isSome then s.modSwatch sw fun w => { w with haltPending := true }
  else
    let s1 := s.modSwatch sw fun w => { w with haltReq := true, haltPending := false }
    if Words.dword w.launch 18 = 0 then s1.stopSwatch sw 0x31 0 0xFF else s1.beginPreempt sw 0 false

/-- Whether a firing's commit writes a protected byte other than counters: in place, by its journal, or in the retention area of a port (R176).
-/
def Firing.writesProtected (f : Firing) : Bool :=
  !(f.delta.isEmpty && f.journal.isEmpty && f.staged.all fun e => e.2.isEmpty)

/-- The first part of a normal commit, after its acknowledgement: the journal in SRAM, the tokens, messages and deferred operations out
(R176, R130, R178). The parity tile has applied the journal's delta already; what engines wrote under it since is made good (R14). -/
def State.release (s : State) (t : Nat) (f : Firing) : State :=
  let sl := s.slot t f.slot
  let stale := Config.stale s.tick t
  let s1 := (s.parityDelta t (journalDelta stale (s.tile t) f.journal ++ f.delta)).modTile t fun x =>
    (f.journal.foldl (fun (x : Tile) e => x.cleanWords e.addr e.bytes.length)
      (Tile.applyJournal { x with firing := some { f with delta := [] } } stale f.journal)).crossPath.keepEntered
  let s2 := s1.pushPorts t f
  let s3 := f.messages.foldl (fun s m => s.sendStaged t f.slot sl m) s2
  let s4 := f.deferred.foldl (fun s d => s.dispatch t d) s3
  s4.modTile t fun x =>
    { x with firing := some { f with journal := [], messages := [], deferred := [], delta := [], phase := .released } }

/-- The rest of a normal commit: seals, semaphores, barriers, the pops, the counts, and the end of the firing (R176, R314, R317, R346, R310,
R199). A retry succeeds where an attempt commits normally: whether one that ends as void does, the spec does not say, and the model's choice is
that it does not (R182; log entry 32). -/
def State.completeCommit (s : State) (t : Nat) (f : Firing) : State :=
  let k := f.slot
  let sl := s.slot t k
  let s5 := f.seals.foldl (fun s sc => s.sealScope sl.swatch sc) s
  let s6 := f.semChanges.foldl (fun s c => s.applySem t k c) s5
  let s7 := f.barChanges.foldl (fun s c => s.applyBarChange t k sl.tag c) s6
  let s8 := if f.haltq then s7.requestSave sl.swatch else s7
  let s9 := sl.inPorts.foldl (fun s p => s.popInput t k p (commitPops sl f p)) s8
  let s10 := s9.modTile t fun x =>
    let x1 := x.freeTaken k
    match f.msgEntry with
    | some i => x1.setEntry i freeEntry
    | none => x1
  let out := fun p => f.stagedCount p / sl.outWidth p
  let s11 := (s10.exitSends t k (decide (0 < out 1))).entryCommits t k (out 0)
  let s12 := s11.modSlot t k fun sl =>
    { sl with
      record := Words.setField (Words.setDword sl.record 4 (sl.firedCount + 1)) 2 20 6 (sl.aflags ||| f.fflags)
      ordinal := sl.ordinal + 1 }
  let s13 := if 0 < sl.attempts then s12.markRetrySucceeded t k else s12
  s13.restFiring t k

/-- A normal commit, after its acknowledgement (R176). -/
def State.commit (s : State) (t : Nat) (f : Firing) : State := (s.release t f).completeCommit t f

/-- COMMIT_POINT: reached once the parity tile has acknowledged, or at once with no protected byte to write (R176). Where the firing has staged
a change of a barrier, its tokens and messages are out, and may have arrived, before the change takes effect: the two parts of the commit are
two steps (R379, R383; log entry 26). -/
def execCommitPoint (t : Nat) (s : State) : Out :=
  event (match (s.tile t).firing with
    | some f =>
      match f.phase with
      | .committing acked =>
        if acked || !f.writesProtected then (if f.barChanges.isEmpty then s.commit t f else s.release t f) else s
      | .released => s.completeCommit t f
      | _ => s
    | none => s)

/-! ### Budget, retry and waits -/

/-- BUDGET_EXCEEDED: the count runs out while an instruction or a wait is in progress, whose time is open (R165; log entry 2). -/
def execBudgetExceeded (t : Nat) (s : State) : Out :=
  event (match (s.tile t).firing with
    | some f =>
      let limit := (s.slot t f.slot).budget * 256
      if limit ≤ f.spent ∨ limit ≤ f.spent + Config.stall s.tick t then
        match f.phase with
        | .running => s.overBudget t
        | .waiting _ => s.overBudget t
        | _ => s
      else s
    | none => s)

/-- Whether an operation of attempt uid is still under way on a tile (R183). -/
def Tile.attemptBusy (x : Tile) (uid : Nat) : Bool :=
  (x.runs.any fun e => e.2.eng.orphan && e.2.eng.attempt == uid && strBusy (x.stream e.1)) ||
    (x.copies.any fun c => c.eng.orphan && c.eng.attempt == uid) || x.atomics.any fun a => a.eng.orphan && a.eng.attempt == uid

/-- FIRING_RETRY: a new attempt from the same inputs, once every operation of the abandoned one has completed (R182, R183). An attempt
abandoned for a save or a bind-off waits for that instead (R353, R358). -/
def execFiringRetry (t : Nat) (s : State) : Out :=
  event (match (s.tile t).firing with
    | some f =>
      let sl := s.slot t f.slot
      let w := s.swatch sl.swatch
      if f.phase = .abandoned ∧ !(s.tile t).attemptBusy f.uid ∧ w.preempt.isNone ∧ !(w.phase == .bindingOff) ∧ !s.power.failing then
        s.modTile t fun x =>
          let x1 := x.modSlot f.slot fun sl =>
            { (sl.setRec 7 0 16 (min (sl.retries + 1) 0xFFFF)).setState 3 with attempts := sl.attempts + 1 }
          { x1 with firing := some (freshFiring f.slot x.nextUid sl.handler f.readyAtStart f.msgEntry), nextUid := x.nextUid + 1 }
      else s
    | none => s)

/-- Whether what a firing waits for has come about (R91). -/
def waitOver (x : Tile) (f : Firing) : WaitCond → Bool
  | .token p k => decide (k < (x.slot f.slot).presentCount p)
  | .inboxEntry => x.freeEntryNo.isSome
  | .message => !(x.entries f.slot .full).isEmpty || (x.entries f.slot .reserved).isEmpty
  | .semaphore k v => decide (v ≤ semEffective x f k)
  | .barrier a phase => (x.barrier a).failed || !((x.barrier a).phase == phase) || !(x.barriers.any fun b => b.1 == a)
  | .events m => !(f.evpend &&& m == 0)
  | .accesses upTo _ => !(upTo.any x.accessPending)
  | .operations ops => !(ops.any x.operationPending)
  | .matrixQueue => decide ((x.matOps.filter fun o => !o.started).length < 4)
  | .matrixIdle => x.matOps.isEmpty
  | .matrixDone => x.matOps.isEmpty
  | .accumulator c => !(x.matOps.any fun o => o.defs.contains (24 + c))

/-- Whether a fence waits, which has issued already (R327). -/
def fenceWait : WaitCond → Bool
  | .accesses _ _ => true
  | .operations _ => true
  | _ => false

/-- Whether the instruction that waits has issued already, so that it completes when its wait ends: a fence, or a serialising matrix
instruction (R327, R272). -/
def issuedWait (c : WaitCond) : Bool := fenceWait c || c == .matrixDone

/-- The end of a wait, whose time counts (R164, R345): a fence that is over orders what it waited for; any other instruction issues (R91,
R327). -/
def State.endWait (s : State) (t : Nat) (f : Firing) (c : WaitCond) : State :=
  let s1 := s.modTile t fun x =>
    { (if fenceWait c then x.endFence (x.fenceReach f.slot c) else x) with
      cycles := (x.cycles + Config.stall s.tick t) % 2 ^ 64
      firing := some { f with phase := .running, spent := f.spent + Config.stall s.tick t } }
  let ctl := (s.tile t).cword 0x400
  if issuedWait c ∧ bitField ctl 0 1 = 1 ∧ bitField ctl 3 1 = 1 then s1.halt t 2 f.pc else s1

/-- INSTRUCTION_WAIT_END (R91). -/
def execInstructionWaitEnd (t : Nat) (s : State) : Out :=
  event (match (s.tile t).firing with
    | some f =>
      match f.phase with
      | .waiting c => if waitOver (s.tile t) f c then s.endWait t f c else s
      | _ => s
    | none => s)

/-- EVENT_DEADLINE: the field counter reaches the deadline of the firing, once for each deadline (R344). -/
def execEventDeadline (t : Nat) (s : State) : Out :=
  event (
    let s1 := s.advanceField (s.fieldOf t)
    match (s1.tile t).firing with
    | some f =>
      if f.evdl ≠ 0 ∧ !f.evDue ∧ f.evdl ≤ Map.get 0 s1.fieldCtr (s1.fieldOf t) then
        s1.modTile t fun x => { x with firing := some { f with evpend := f.evpend ||| 64, evDue := true } }
      else s1
    | none => s1)

/-! ### Gating (R17, R148) -/

/-- Whether any slot of a tile is ready. -/
def State.anyReady (s : State) (t : Nat) : Bool := (List.range 17).any (s.isReady t)

/-- A wake request of traffic that waits for a sleeping tile (R148). -/
def Tile.wakeRequest (x : Tile) : Tile :=
  match x.gating with
  | .clockGated => { x with gating := .waking }
  | .powerGated => { x with gating := .waking }
  | _ => x

/-- TILE_WAKE: waking ends; a gated tile with an actor that has become ready wakes as well (R148). -/
def execTileWake (t : Nat) (s : State) : Out :=
  event (
    if (s.tile t).gating = .waking ∨ s.anyReady t then s.modTile t fun x => { x with gating := .running } else s)

/-- TILE_GATING: a tile with no firing and no ready actor is gated (R17). -/
def execTileGating (t : Nat) (power : Bool) (s : State) : Out :=
  event (
    if (s.tile t).firing.isNone ∧ !s.anyReady t ∧ !((s.tile t).gating == .waking) then
      s.modTile t fun x => { x with gating := if power then .powerGated else .clockGated }
    else s)

end Sys2Proof.Machine
end

