-- ==== Sys2Proof/Machine/Landing.lean ====
section
/-! DEFINITION. What lands at a tile or at the selvage: tokens, slot returns, messages, arrivals, permits and closes, host sinks and the
records that a paged launch fetches (R115, R130, R131, R135, R136, R148, R181, R188, R191, R199, R206, R320). -/

namespace Sys2Proof.Machine

/-- Whether slot k of a tile consumes an edge of a swatch. -/
def State.consumes (s : State) (t k edge sw : Nat) : Bool :=
  (s.slot t k).swatch == sw && (s.slot t k).inPorts.any fun p => (s.slot t k).inEdge p == edge

/-- Whether a packet's body is for slot k of a tile, one of a paged launch by the edge that the slot consumes. -/
def State.bodyFor (s : State) (dst k : Nat) : PacketBody → Bool
  | .token k' _ _ => k' == k
  | .scale k' _ _ => k' == k
  | .slotReturn k' _ _ => k' == k
  | .permit k' => k' == k
  | .close k' _ _ => k' == k
  | .closeReply k' _ => k' == k
  | .paged edge sw _ => s.consumes dst k edge sw
  | .pagedScale edge sw _ => s.consumes dst k edge sw
  | .pagedPermit edge sw => s.consumes dst k edge sw
  | .pagedClose edge sw _ _ => s.consumes dst k edge sw
  | _ => false

/-- Whether a packet is held at its sender: it was sent to a moving actor behind the sender's hold acknowledgement (R145, R146). -/
def State.heldBack (s : State) (p : Packet) : Bool :=
  s.rebinds.any fun r => r.tile == p.dst && r.acked.contains p.src && s.bodyFor p.dst r.slot p.body

/-- What happens when the first packet of a source, destination and class that is of the wanted sort comes to its tile: a sleeping tile
keeps it waiting and is asked to wake (R148); where take answers nothing, the packet is held back for a moving actor or the tile is lost (R13),
it stays. -/
def State.land (s : State) (src dst : Nat) (cls : TrafficClass) (take : Packet → State → Option State) : State :=
  match takePacket src dst cls s.net with
  | none => s
  | some (p, rest) =>
    match take p { s with net := rest } with
    | none => s
    | some s' =>
      if s.heldBack p || s.hostLost dst then s else if (s.tile dst).gating = .running then s' else s.modTile dst Tile.wakeRequest

/-! ### Tokens -/

/-- Whether slot k discards the tokens that reach it: it drains, or its scope has ended and its firing, if any, is over (R191, R195). -/
def State.discards (s : State) (t k : Nat) : Bool :=
  (s.slot t k).stateCode == 5 || (s.scopeEnded (s.slot t k) && !(s.tile t).runs_ k)

/-- A token in its queue (R115), with what its sender had before it (R330); a draining actor pops it at once (R191); the running firing sees
event 1 (R344). -/
def State.landToken (s : State) (t k p : Nat) (tok : Token) (v : View) : State :=
  let sl := s.slot t k
  if sl.inDecl p then
    let s1 := s.modSlot t k fun sl =>
      let q := sl.inQueue p
      sl.setInQueue p { q with toks := q.toks ++ [tok], views := q.views ++ List.replicate (q.toks.length - q.views.length) [] ++ [v] }
    if s.discards t k then s1.popInput t k p 1 else s1.modTile t fun x => x.event k 1
  else s

def State.landScale (s : State) (t k p : Nat) (sc : ScaleTok) : State :=
  s.modSlot t k fun sl => sl.setInQueue p { sl.inQueue p with scales := (sl.inQueue p).scales ++ [sc] }

/-- The resident consumer on a tile of an edge of a paged launch (R206). -/
def State.pagedConsumer (s : State) (t sw edge : Nat) : Option (Nat × Nat) :=
  match s.consumer sw edge with
  | some (t', k, p) => if t' = t then some (k, p) else none
  | none => none

/-- What a token-class packet that is no message does at its tile; nothing where a paged consumer is not resident (R206). -/
def landTokenBody (dst : Nat) (p : Packet) (s : State) : Option State :=
  match p.body with
  | .token k port tok => some (s.landToken dst k port tok p.view)
  | .scale k port sc => some (s.landScale dst k port sc)
  | .paged edge sw tok => (s.pagedConsumer dst sw edge).map fun c => s.landToken dst c.1 c.2 tok p.view
  | .pagedScale edge sw sc => (s.pagedConsumer dst sw edge).map fun c => s.landScale dst c.1 c.2 sc
  | _ => none

/-- Whether the first packet of a class between two nodes lands by TOKEN_LANDING. -/
def State.tokenFirst (s : State) (src dst : Nat) (cls : TrafficClass) : Bool :=
  match takePacket src dst cls s.net with
  | some (p, _) => (landTokenBody dst p s).isSome
  | none => false

/-- One packet of a list landed where it may. -/
def State.landOne (s : State) (t : Nat) (p : Packet) : State :=
  if s.heldBack p then s else (landTokenBody t p { s with net := s.net.erase p }).getD s

/-- The tokens of one commit to the committing tile itself land together: another actor there sees all of those sent to it or none. Those to an
actor that moves or is not resident wait, all of them, and hold nothing back that goes to another (R177). -/
def State.landBatch (s : State) (t : Nat) (cls : TrafficClass) (batch : Nat) : State :=
  (s.net.filter fun p => p.src == t && p.dst == t && p.cls == cls && p.batch == batch).foldl (fun s p => s.landOne t p) s

/-- TOKEN_LANDING: the first token between two nodes lands, on the main channel or, where that has none to land, on the paged one; a paged
token whose consumer is not resident waits at its head (R115, R135, R206). -/
def execTokenLanding (src dst : Nat) (s : State) : Out :=
  event (
    let cls := if s.tokenFirst src dst .token then TrafficClass.token else .paged
    let s1 := s.land src dst cls (landTokenBody dst)
    match takePacket src dst cls s.net with
    | some (p, _) =>
      if src = dst ∧ p.batch ≠ 0 ∧ s1.net.count p < s.net.count p then s1.landBatch dst cls p.batch else s1
    | none => s1)

/-! ### Messages and arrivals (R130, R131, R320) -/

/-- Fault 0x1B against the inbox actor slot of a tile, which follows the disposition of the inbox settings of the message's launch: the
record, and then a void counted, the scope aborted or the swatch stopped (R131, R185). No firing is concerned, so none commits. -/
def State.inboxOverflow (s : State) (t sw : Nat) : State :=
  let w := s.swatch sw
  let disp := Words.field w.launch 9 6 2
  let sc := Words.field w.launch 9 8 8
  let s1 := (s.writeError t 0x1B 5 16 (if disp = 0 then 8 else 0) w.tag 0 0).modSlot t 16 fun sl =>
    let sl1 := sl.setCause 0x1B
    if disp = 0 then { sl1 with record := Words.setWord sl1.record 6 (min (sl1.voidedCount + 1) 0xFFFFFFFF) } else sl1
  if disp = 0 then s1.addVoid sw sc else if disp = 1 then s1.abortScope sw sc 0x1B else s1.stopSwatch sw 0x1B t 16

/-- An active message in the lowest free entry, or discarded where none is free and unreserved (R131, R306). -/
def landMessage (dst : Nat) (p : Packet) (s : State) : Option State :=
  match p.body with
  | .message sw words =>
    some (match (s.tile dst).freeEntryNo with
      | some i => s.modTile dst fun x => x.fill i 16 0 sw p.view.reach words
      | none => s.inboxOverflow dst sw)
  | _ => none

/-- The channel on which the first packet between two nodes is one that take accepts. -/
def State.channelOf (s : State) (src dst : Nat) (take : Packet → State → Option State) : TrafficClass :=
  match takePacket src dst .token s.net with
  | some (p, _) => if (take p s).isSome then .token else .paged
  | none => .paged

/-- ACTIVE_MESSAGE_LANDING (R131). -/
def execActiveMessageLanding (src dst : Nat) (s : State) : Out :=
  event (s.land src dst (s.channelOf src dst (landMessage dst)) (landMessage dst))

def landArrival (dst : Nat) (p : Packet) (s : State) : Option State :=
  match p.body with
  | .arrival a phase drop _ tag => some (s.applyArrival dst a phase drop tag p.view true)
  | _ => none

/-- REMOTE_ARRIVAL (R320). -/
def execRemoteArrival (src dst : Nat) (s : State) : Out :=
  event (s.land src dst (s.channelOf src dst (landArrival dst)) (landArrival dst))

/-! ### Records of a paged launch (R206) -/

/-- The words of record i of a paged launch's record table, read under its tag. -/
def State.pagedRecord (s : State) (w : Swatch) (i : Nat) : Option Words :=
  match s.readVirt w.tag (Words.dword w.launch 16 + 256 * i) 256 with
  | .ok b => some (Words.ofList (bytesWords b))
  | .error _ => none

/-- A record as a slot that nothing has reached. -/
def slotOf (r : Words) : Slot := { emptySlot with record := r }

/-- The input port on which a record consumes an edge. -/
def consumingPort (r : Words) (edge : Nat) : Option Nat := ports.find? fun p => (slotOf r).inDecl p && (slotOf r).inEdge p == edge

/-- The first record of a paged launch whose actor consumes an edge: its index, its words and the port. -/
def State.pagedEntry (s : State) (w : Swatch) (edge : Nat) : Option (Nat × Words × Nat) :=
  (List.range (Words.word w.launch 15)).findSome? fun i =>
    (s.pagedRecord w i).bind fun r => (consumingPort r edge).map fun p => (i, r, p)

/-- Where a host edge of a paged launch ends whose consumer is not resident: at the tile to which the consumer has moved, else at the tile of the
swatch whose router edge table names the edge, else at its first tile (R208; log entry 6). -/
def State.pagedTile (s : State) (w : Swatch) (edge : Nat) : Nat :=
  (Map.find w.edgeTile edge).getD <| (w.tiles.find? fun t => (s.tile t).edgeTab.any fun e => e.1 % 4 == 0 && e.2.toNat % 65536 == edge).getD (tileId w.x0 w.y0)

/-! ### Seeds and host tokens (R26) -/

/-- Whether the selvage admits tokens to a swatch now (R26, R353, R396). -/
def State.admits (s : State) (w : Swatch) : Bool := w.gates && decide (s.power.step < 3) && !s.power.failing

/-- The end of a host input edge: the tile, the words of a token there, and what carries a token to it; a paged consumer need not be resident
(R26, R206). -/
def State.hostEnd (s : State) (sw edge : Nat) : Option (Nat × Nat × (Token → PacketBody)) :=
  let w := s.swatch sw
  match s.consumer sw edge with
  | some (t, k, p) => some (t, (s.slot t k).inWidth p, if w.paged then .paged edge sw else .token k p)
  | none =>
    if w.paged then (s.pagedEntry w edge).map fun e => (s.pagedTile w edge, (slotOf e.2.1).inWidth e.2.2, .paged edge sw) else none

/-- One held token entered where its edge has a credit and no earlier token of the edge is still held (R26). A token of another width than its
port's is cut there or filled with words of zero, a choice of the model (R203; log entry 24). So is that a token whose edge no input port of
the launch consumes is held for good, and every host token behind such a seed with it, and that no scale token comes with a seed or a host
token: a scaled host edge then never has a token present (R78, R123, R203; log entry 32). -/
def State.injectOne (s : State) (sw : Nat) (kept : List (Nat × Token)) (e : Nat × Token) : State × List (Nat × Token) :=
  let w := s.swatch sw
  match s.hostEnd sw e.1 with
  | some (t, width, body) =>
    if 0 < Map.get 0 w.hostFree e.1 ∧ !(kept.any fun x => x.1 == e.1) then
      let tok := { e.2 with tag := w.tag, words := (e.2.words ++ List.replicate width 0).take width }
      let s1 := s.modSwatch sw fun w =>
        { w with hostFree := Map.set w.hostFree e.1 (Map.get 0 w.hostFree e.1 - 1),
                 hostPushed := Map.set w.hostPushed e.1 (Map.get 0 w.hostPushed e.1 + 1) }
      (s1.send { src := selvage, dst := t, cls := tokenClass w, body := body tok }, kept)
    else (s, kept ++ [e])
  | none => (s, kept ++ [e])

/-- The tokens of a list entered as far as credits go; those that stay. -/
def State.injectList (s : State) (sw : Nat) (l : List (Nat × Token)) : State × List (Nat × Token) :=
  l.foldl (fun a e => a.1.injectOne sw a.2 e) (s, [])

/-- SEED_INJECTION: seeds in order, and host tokens once every seed has entered (R26). -/
def State.inject (s : State) (sw : Nat) : State :=
  if s.admits (s.swatch sw) then
    let a := s.injectList sw (s.swatch sw).seeds
    let s1 := a.1.modSwatch sw fun w => { w with seeds := a.2 }
    if a.2.isEmpty then
      let b := s1.injectList sw (s1.swatch sw).hostToks
      b.1.modSwatch sw fun w => { w with hostToks := b.2 }
    else s1
  else s

/-- Seeds and host tokens of every swatch, as far as they may enter. -/
def State.injectAll (s : State) : State := (Map.keys s.swatches).foldl State.inject s

/-! ### Slot returns (R181) -/

/-- n slots returned to output port p: RETBASE and FREE advance, the retained copies go (R161, R181); event 2 of the slot (R344). -/
def State.takeReturn (s : State) (t k p n : Nat) : State :=
  (s.modSlot t k fun sl =>
    ((sl.setFree p (sl.free p + n)).setRetBase p (sl.retBase p + n)).setOutQueue p
      { sl.outQueue p with retained := (sl.outQueue p).retained.drop n }).modTile t fun x => x.event k 2

/-- The binding of a host edge to a peer module, if it has one (R394). -/
def State.peerOf (s : State) (sw edge : Nat) : Option Nat := s.host.peers.findIdx? fun p => p.swatch == sw && p.edge == edge

def State.modPeer (s : State) (i : Nat) (f : Peer → Peer) : State := { s with host := { s.host with peers := s.host.peers.modify i f } }

/-- n slots of a host input edge back at the selvage: credits of the edge, returned to the peer module where it is bound to one (R181, R394). -/
def State.hostReturn (s : State) (sw edge n : Nat) : State :=
  let s1 := match s.peerOf sw edge with
    | some i => s.modPeer i fun q => { q with returned := q.returned + n }
    | none => s
  (s1.modSwatch sw fun w => { w with hostFree := Map.set w.hostFree edge (Map.get 0 w.hostFree edge + n) }).inject sw

def landReturn (dst : Nat) (p : Packet) (s : State) : Option State :=
  match p.body with
  | .slotReturn k port n => some (if dst = selvage then s.hostReturn k port n else s.takeReturn dst k port n)
  | _ => none

/-- SLOT_RETURN (R181); at the selvage it is the credit of a host input edge, which lets a held token enter (R26). -/
def execSlotReturn (src dst : Nat) (s : State) : Out := event (s.land src dst .slotReturn (landReturn dst))

/-! ### Loops (R199) -/

/-- CLOSED falls when every permit is back. -/
def Slot.settleLoop (sl : Slot) : Slot := if sl.loopClosed ∧ sl.permits = sl.loopK then sl.setRec 3 24 1 0 else sl

/-- The slot of a tile to which a permit or a close belongs, between the firings of that slot (R199). -/
def State.entrySlot (s : State) (t : Nat) : PacketBody → Option Nat
  | .permit k => if (s.tile t).runs_ k then none else some k
  | .close k _ _ => if (s.tile t).runs_ k then none else some k
  | .pagedPermit edge sw => (s.pagedConsumer t sw edge).bind fun c => if (s.tile t).runs_ c.1 then none else some c.1
  | .pagedClose edge sw _ _ => (s.pagedConsumer t sw edge).bind fun c => if (s.tile t).runs_ c.1 then none else some c.1
  | _ => none

/-- A permit taken by an entry (R199). -/
def State.takePermit (s : State) (t k : Nat) : State := s.modSlot t k fun sl => (sl.setRec 3 8 8 (sl.permits + 1)).settleLoop

/-- A close taken by an entry, with its reply; admission closed, it is ready no more (R163, R199). -/
def State.takeClose (s : State) (t k exitTile exitSlot : Nat) : State :=
  let sl := (s.slot t k).setRec 3 8 8 ((s.slot t k).permits + 1)
  let s1 := s.send { src := t, dst := exitTile, cls := .slotReturn, body := .closeReply exitSlot (sl.loopK - sl.permits) }
  (s1.modSlot t k fun _ => (sl.setRec 3 24 1 1).settleLoop).dropUnready t

def landPermit (dst : Nat) (p : Packet) (s : State) : Option State :=
  match p.body, s.entrySlot dst p.body with
  | .permit _, some k => some (s.takePermit dst k)
  | .pagedPermit _ _, some k => some (s.takePermit dst k)
  | _, _ => none

/-- PERMIT_RETURN (R199). -/
def execPermitReturn (src dst : Nat) (s : State) : Out := event (s.land src dst .slotReturn (landPermit dst))

def landClose (dst : Nat) (p : Packet) (s : State) : Option State :=
  match p.body, s.entrySlot dst p.body with
  | .close _ et es, some k => some (s.takeClose dst k et es)
  | .pagedClose _ _ et es, some k => some (s.takeClose dst k et es)
  | _, _ => none

/-- LOOP_CLOSE (R199). -/
def execLoopClose (src dst : Nat) (s : State) : Out := event (s.land src dst .slotReturn (landClose dst))

def landReply (dst : Nat) (p : Packet) (s : State) : Option State :=
  match p.body with
  | .closeReply k c => some (s.modSlot dst k fun sl => (sl.setRec 3 16 8 c).setRec 3 26 1 0)
  | _ => none

/-- CLOSE_REPLY (R199). -/
def execCloseReply (src dst : Nat) (s : State) : Out := event (s.land src dst .slotReturn (landReply dst))

/-- LOOP_DISCARD: in place of a firing of a loop exit, while DISCARD is not 0 and a token is present (R199). -/
def execLoopDiscard (t k : Nat) (s : State) : Out :=
  event (
    let sl := s.slot t k
    let x := s.tile t
    if x.firing.isNone ∧ x.gating = .running ∧ sl.stateCode = 1 ∧ sl.isExit ∧ 0 < sl.discard ∧ 0 < sl.presentCount 0 ∧ (s.swatch sl.swatch).gates then
      let s1 := (s.popInput t k 0 1).modSlot t k fun sl => sl.setRec 3 16 8 (sl.discard - 1)
      match (s.swatch sl.swatch).rel t (sl.dest 0) with
      | some et => s1.send { src := t, dst := et, cls := .slotReturn, body := sl.permitBody (s.swatch sl.swatch).paged }
      | none => s1
    else s)

/-! ### Host sinks (R188, R196) -/

/-- The next token ordinal of a host edge at the selvage. -/
def Swatch.hostOrdinal (w : Swatch) (edge : Nat) : Nat := Map.get 0 w.hostPushed edge

/-- Tokens that wait at the gateway of a bound edge cross in order as far as its credits go, while the peer link is up (R394). -/
def Peer.cross (q : Peer) : Peer :=
  if q.down then q
  else { q with
    crossed := q.crossed ++ q.waiting.take q.credits, waiting := q.waiting.drop q.credits, credits := q.credits - q.waiting.length }

/-- A replay of the peer link: of the tokens sent and not returned, the peer has the first n, and the rest are sent again from the next ordinal
(R144, R394). -/
def Peer.replay (q : Peer) (n : Nat) : Peer :=
  ({ q with
    crossed := q.crossed.take n, waiting := q.crossed.drop n ++ q.waiting, credits := q.credits + (q.crossed.length - n) } : Peer).cross

/-- A token taken at the selvage from a host output edge: a void is dropped and logged, a valid one goes to the host, and the slot returns
(R181, R188). One of an edge bound to a peer goes to the gateway as it is, is kept there until the peer returns its slot, and is logged at the
final sink alone (R394). -/
def State.sinkToken (s : State) (src k p : Nat) (tok : Token) : State :=
  let sl := s.slot src k
  let sw := sl.swatch
  let edge := sl.outEdge p
  let ord := (s.swatch sw).hostOrdinal edge
  let s1 := s.modSwatch sw fun w => { w with hostPushed := Map.set w.hostPushed edge (ord + 1) }
  match s.peerOf sw edge with
  | some i => s1.modPeer i fun q => ({ q with waiting := q.waiting ++ [tok] } : Peer).cross
  | none =>
    let s2 := if tok.void then s1.logVoid sw sl.scopeNo edge ord
      else { s1 with host := { s1.host with delivered := s1.host.delivered ++ [{ swatch := sw, edge := edge, tok := tok }] } }
    s2.send { src := selvage, dst := src, cls := .slotReturn, body := .slotReturn k p 1 }

/-- n slots of a bound output edge returned by the peer: its oldest tokens are kept no longer, the gateway has as many credits more, and the
local producer has its slots back (R394). -/
def State.peerReturn (s : State) (i n : Nat) : State :=
  match s.host.peers[i]? with
  | none => s
  | some q =>
    let m := min n q.crossed.length
    match s.producer q.swatch q.edge with
    | some (t, k, p) =>
      if m = 0 then s
      else
        (s.modPeer i fun q => ({ q with crossed := q.crossed.drop m, credits := q.credits + m } : Peer).cross).send
          { src := selvage, dst := t, cls := .slotReturn, body := .slotReturn k p m }
    | none => s

/-- A token that comes from the peer on a bound input edge, which sends it where it has a credit, a slot of the edge that no token has taken: it is
held and enters in edge order, its void and its mark with it (R26, R394). -/
def State.peerToken (s : State) (i : Nat) (words : List Word32) (void mark : Bool) : State :=
  match s.host.peers[i]? with
  | none => s
  | some q =>
    let held := ((s.swatch q.swatch).hostToks.filter fun e => e.1 == q.edge).length
    if q.down || (s.producer q.swatch q.edge).isSome || !s.liveSwatch q.swatch || !decide (held < Map.get 0 (s.swatch q.swatch).hostFree q.edge) then s
    else
      let tok : Token := { words := words, void := void, mark := mark, tag := (s.swatch q.swatch).tag }
      (s.modSwatch q.swatch fun w => { w with hostToks := w.hostToks ++ [(q.edge, tok)] }).inject q.swatch

/-- HOST_SINK (R188). -/
def execHostSink (src : Nat) (s : State) : Out :=
  event (match takePacket src selvage .token s.net with
    | some (p, rest) =>
      match p.body with
      | .token k port tok => { s with net := rest }.sinkToken src k port tok
      | _ => s
    | none => s)

/-! ### Paged records (R206) -/

/-- The first packet of the paged channel of a tile that waits for its consumer: its swatch and edge. -/
def State.pagedMiss (s : State) (t : Nat) : Option (Nat × Nat) :=
  let first := fun (p : Packet) => !(s.net.takeWhile (fun q => !(q == p))).any fun q => q.src == p.src && q.dst == t && q.cls == .paged
  (s.net.filterMap fun p =>
    match p.body with
    | .paged edge sw _ => if p.dst = t ∧ (s.pagedConsumer t sw edge).isNone ∧ first p then some (sw, edge) else none
    | .pagedScale edge sw _ => if p.dst = t ∧ (s.pagedConsumer t sw edge).isNone ∧ first p then some (sw, edge) else none
    | _ => none).head?

/-- Whether a paged slot may be evicted: waiting, empty queues, no retained copies, no outstanding operation (R206). An entry with permits
away or an exit that waits or discards stays, for the permits, the close and the reply find it (R199; log entry 31). -/
def Tile.evictable (x : Tile) (k : Nat) : Bool :=
  let sl := x.slot k
  sl.stateCode == 1 && (sl.inq.all fun e => e.2.toks.isEmpty && e.2.scales.isEmpty) &&
    (sl.outq.all fun e => e.2.retained.isEmpty && e.2.local_.isEmpty) && !x.runs_ k &&
    !((List.range 16).any fun j => strOwner (x.stream j) == k && strBusy (x.stream j)) && !(x.copies.any fun c => c.slot == k) &&
    !(x.atomics.any fun a => a.slot == k) && sl.permits == sl.loopK && !sl.loopClosed && !sl.loopWait && sl.discard == 0

/-- Whether a slot of a tile holds a record that a fetch placed there, and is waiting, not ready (R158, R206). -/
def State.mayEvict (s : State) (t k : Nat) : Bool :=
  ((s.swatch (s.slot t k).swatch).recordTable.any fun e => e.1 == t && e.2.1 == k) && (s.tile t).evictable k && !s.isReady t k

/-- The paged slot of a tile, of whichever launch, that may be evicted and fired least recently; a fetched record that has not fired ranks by
its fetch, a choice of the model (R206; log entry 31). -/
def State.evictee (s : State) (t : Nat) : Option Nat :=
  let x := s.tile t
  ((List.range 16).filter (s.mayEvict t)).foldl (fun best k => match best with
    | none => some k
    | some j => if (x.slot k).lastUid < (x.slot j).lastUid then some k else some j) none

/-- A paged slot written back to its record and emptied: its inbox entries are freed, and the swatch keeps the block positions of its output
edges (R123, R206, R306). Where the tag cannot write the record's page it is dropped, and where it cannot read one the token waits, the model's
choice (log entry 32). -/
def State.evict (s : State) (t k : Nat) : State :=
  let sl := s.slot t k
  let w := s.swatch sl.swatch
  match w.recordTable.find? fun e => e.1 == t && e.2.1 == k with
  | none => s
  | some e =>
    let s1 := match s.writeVirt w.tag (Words.dword w.launch 16 + 256 * e.2.2) (wordsBytes (Words.toList sl.record 64)) with
      | .ok s' => s'
      | .error _ => s
    (s1.modSwatch sl.swatch fun w => { w with
      recordTable := w.recordTable.filter fun e => !(e.1 == t && e.2.1 == k)
      edgePos := sl.outPorts.foldl (fun m p => Map.set m (sl.outEdge p) (sl.outQueue p).pos) w.edgePos }).modTile t fun x =>
      { x with
        slots := Map.erase x.slots k
        inbox := x.inbox.map fun e => if e.2.owner = k ∧ e.2.state ≠ .free then (e.1, freeEntry) else e }

/-- A fetched record placed in slot k, reserved fields zero (R5): it rests as its swatch and its scope have it, its queues are empty, its output
edges go on at their block positions, and its ordinal continues from its counts (R123, R158, R161, R206). -/
def State.placeRecord (s : State) (sw t k i : Nat) (r : Words) : State :=
  let sl : Slot := { emptySlot with
    record := Words.setField (Words.setField (maskedWords recordMask (Words.toList r 64)) 7 24 8 1) 2 16 4 k, swatch := sw, lastUid := (s.tile t).nextUid }
  let outs := sl.outPorts.map fun p =>
    (p, { emptyOutQueue with pushed := sl.retBase p, pos := Map.get 0 (s.swatch sw).edgePos (sl.outEdge p) })
  let s1 := s.modTile t fun x => x.setSlot k
    { sl with ordinal := sl.firedCount + sl.voidedCount, inq := sl.inPorts.map fun p => (p, emptyInQueue), outq := outs }
  (s1.modSlot t k fun sl => sl.setState (s1.restingCode t k)).modSwatch sw fun w => { w with recordTable := w.recordTable ++ [(t, k, i)] }

/-- RECORD_FETCH: the record of the consumer for which the paged channel waits, put in an empty slot, or in place of the paged slot that fired
least recently and may be evicted (R206). -/
def execRecordFetch (t : Nat) (s : State) : Out :=
  event (match s.pagedMiss t with
    | none => s
    | some (sw, edge) =>
      match s.pagedEntry (s.swatch sw) edge with
      | none => s
      | some (i, r, _) =>
        match (List.range 16).find? fun k => (s.slot t k).stateCode == 0 with
        | some k => s.placeRecord sw t k i r
        | none =>
          match s.evictee t with
          | some k => (s.evict t k).placeRecord sw t k i r
          | none => s)

end Sys2Proof.Machine
end

