-- ==== Sys2Proof/Machine/Engine.lean ====
section
/-! DEFINITION. The stream and copy engines of a tile (R278 to R284, R290, R291, R294, R295, R298, R302 to R305, R308, R311). -/

namespace Sys2Proof.Machine

/-! ### Operations by reference -/

/-- The engine state of an operation that is under way; none where it has gone. -/
def State.opEngine (s : State) (o : OpRef) : Option Engine :=
  let x := s.tile o.tile
  match o.key with
  | .stream k => if strBusy (x.stream k) && strStart (x.stream k) == o.run then some (x.run k).eng else none
  | .copy id => (x.copies.find? fun c => c.id == id).map (·.eng)
  | .atomic id => (x.atomics.find? fun a => a.id == id).map (·.eng)
  | .watch id => (x.atomics.find? fun a => a.id == id).map (·.eng)

/-- The tile with the engine state of an operation replaced. -/
def Tile.setEngine (x : Tile) (key : OpKey) (g : Engine) : Tile :=
  match key with
  | .stream k => x.setRun k { x.run k with eng := g }
  | .copy id => { x with copies := x.copies.map fun c => if c.id = id then { c with eng := g } else c }
  | .atomic id => { x with atomics := x.atomics.map fun a => if a.id = id then { a with eng := g } else a }
  | .watch id => { x with atomics := x.atomics.map fun a => if a.id = id then { a with eng := g } else a }

def State.setOpEngine (s : State) (o : OpRef) (g : Engine) : State := s.modTile o.tile fun x => x.setEngine o.key g

/-- The slot that owns an operation. -/
def State.opSlot (s : State) (o : OpRef) : Nat :=
  let x := s.tile o.tile
  match o.key with
  | .stream k => strOwner (x.stream k)
  | .copy id => ((x.copies.find? fun c => c.id == id).map (·.slot)).getD 0
  | .atomic id => ((x.atomics.find? fun a => a.id == id).map (·.slot)).getD 0
  | .watch id => ((x.atomics.find? fun a => a.id == id).map (·.slot)).getD 0

/-- The record that says what becomes of an operation: that of its owning slot, as the launch has it in whose firing it was issued (R303). -/
def State.opOwner (s : State) (o : OpRef) : Slot := s.slotIn o.tile (s.opSlot o) (((s.opEngine o).map (·.swatch)).getD 0)

/-- The context tag of an operation. -/
def State.opTag (s : State) (o : OpRef) : Nat := (s.opOwner o).tag

/-- The reference of a stream. -/
def State.streamRef (s : State) (t k : Nat) : OpRef := { tile := t, key := .stream k, run := strStart ((s.tile t).stream k) }

/-! ### Requests to DRAM (R298, R311) -/

/-- What an engine knows of the page of an address. -/
def Engine.page (g : Engine) (va : Nat) (write : Bool) : Option Nat :=
  (g.pages.find? fun p => p.vpage == va / 4096 && p.write == write).map fun p => p.ppage * 4096 + va % 4096

/-- A probe of a page, unless one is on its way (R298). -/
def State.probePage (s : State) (o : OpRef) (va : Nat) (write : Bool) : State :=
  match s.opEngine o with
  | some g =>
    if g.probing.isSome then s
    else
      { s.setOpEngine o { g with probing := some (va / 4096) } with
        xprobes := s.xprobes ++ [{ op := o, tag := s.opTag o, vpage := va / 4096, write := write, atomic := false, watch := false, walking := false }] }
  | none => s

/-- A request sent with its wave-order tag: the sequence number, and the latest earlier request to the same memory actor (R298). -/
def State.sendRequest (s : State) (o : OpRef) (g : Engine) (kind : MemKind) (va pa first count : Nat) (write : Bool) : State :=
  let actor := s.owner pa
  let g1 : Engine := { g with
    outstanding := g.outstanding ++ [{ seq := g.seq, first := first, count := count, write := write, data := none, losses := 0 }]
    lastReq := Map.set g.lastReq actor g.seq, seq := g.seq + 1 }
  { s.setOpEngine o g1 with
    performed := if (Map.find g.lastReq actor).isSome then s.performed else s.performed.filter fun e => !(e.1 == actor && e.2.1 == o)
    memReqs := s.memReqs ++
      [{ op := o, station := s.home (s.opTag o) va, seq := g.seq, pred := Map.find g.lastReq actor, actor := actor, pa := pa, kind := kind,
         held := false }] }

/-- Requests outstanding on a tile (R311). -/
def Tile.requests (x : Tile) : Nat :=
  ((x.runs.map fun e => e.2.eng.outstanding.length) ++ x.copies.map fun c => c.eng.outstanding.length).sum

/-- Whether an operation may send one more request (R311). -/
def Tile.mayRequest (x : Tile) (g : Engine) : Bool := decide (g.outstanding.length < 64) && decide (x.requests < 256)

/-! ### Engine access to SRAM (R223, R224, R304, R316) -/

/-- How far an operation's accesses in its tile's SRAM have come. -/
def State.sramSeen (s : State) (o : OpRef) : Stamp := ((s.opEngine o).map (·.reach.sram)).getD Stamp.zero

/-- An access of an operation in its tile's SRAM has come to a place. -/
def State.noteSram (s : State) (o : OpRef) (p : Stamp) : State :=
  match s.opEngine o with
  | some g => s.setOpEngine o { g with reach := { g.reach with sram := g.reach.sram.max p } }
  | none => s

/-- The n bytes from a as an operation reads them, in pieces of at most k bytes, each at a place of its own in the service order and in the order
of the operation, and the state with the reads kept (R329, R331, R332; log entry 8). -/
def State.engineBytes (s : State) (o : OpRef) (k a n : Nat) : List Byte × State :=
  (chunks k a n).foldl (fun acc p =>
    let q := (acc.2.tile o.tile).enginePlace (acc.2.sramSeen o) (Config.stale s.tick o.tile p.1) p.1 p.2
    (acc.1 ++ (acc.2.tile o.tile).bytesAt q p.1 p.2,
      (acc.2.modTile o.tile fun x => { x with order := x.order.noteRead q 0 p.1 p.2 }).noteSram o q)) ([], s)

/-- The bytes that an operation reads from its tile's SRAM, with corrected words counted. -/
def State.opRead (s : State) (o : OpRef) (k a n : Nat) (go : State → List Byte → State) : State :=
  let r := s.engineBytes o k a n
  go (r.2.modTile o.tile fun x => x.correct a n) r.1

/-- Bytes that an operation writes to its tile's SRAM, in pieces of at most k bytes: each takes a place of its own in the service order, in the
order of the operation, a bad word that they cover whole is sound again, and parity follows in a protected window (R222, R223, R329, R331). -/
def State.opWrite (s : State) (o : OpRef) (k a : Nat) (bs : List Byte) : State :=
  (chunks k a bs.length).foldl (fun s p =>
    let r := s.engineWrite o.tile (s.sramSeen o) p.1 ((bs.drop (p.1 - a)).take p.2)
    r.1.noteSram o r.2) s

/-- An access performed that a waiting FENCE.STR covers, as it was issued before the fence: what the fence orders reaches so far (R327). -/
def Tile.coverAccess (x : Tile) (key : OpKey) (seq : Nat) (r : Reach) : Tile :=
  match x.firing with
  | none => x
  | some f =>
    match f.phase with
    | .waiting (.accesses upTo reach) =>
      if upTo.any fun e => e.1 == key && decide (seq < e.2) then
        { x with firing := some { f with phase := .waiting (.accesses upTo (reach.join r)) } }
      else x
    | _ => x

/-- What an engine read finds: nothing wrong; or a word rebuilt under parity, to be read again; or a word that ends the operation (R304). -/
inductive ReadFind where
  | good
  | rebuilt (s : State)
  | bad (s : State) (w : Nat)

/-- The words of a range that an operation reads (R224, R304), a bad one recorded with its address. A protected word is rebuilt and read again;
where the rebuild meets a second bad word of the group, the swatch stops and the operation ends, as it cannot go on (log entry 13). -/
def State.engineFind (s : State) (o : OpRef) (a n : Nat) : ReadFind :=
  let x := s.tile o.tile
  let sl := s.opOwner o
  match x.badWord a n with
  | none => .good
  | some w =>
    let s1 := (s.repairWord o.tile w).writeError o.tile 0x20 8 (s.opSlot o) 0 sl.tag 0 w
    if !s.underParity o.tile w then .bad s1 w
    else if s.rebuildFails o.tile w then .bad (s1.stopSwatch sl.swatch 0x20 o.tile (s.opSlot o)) w
    else .rebuilt s1

/-! ### The nest (R280, R282) -/

/-- Whether the destination is the patterned endpoint. -/
def strPatDst (r : Words) : Bool := (patternedDst (strSrcKind r) (strDstKind r)).getD false

/-- The index of level l at element n. -/
def levelIndex (r : Words) (n l : Nat) : Nat := n / ((List.range l).map (strCount r)).prod % strCount r l

/-- The address that the nest gives element n from a base (R282). -/
def patternAddr (r : Words) (base n : Nat) : Nat :=
  (([0, 1, 2, 3].map fun l => (levelIndex r n l : Int) * strStride r l).sum + base).toNat

def strSrcAddr (r : Words) (n : Nat) : Nat := if strPatDst r then strSrcBase r + strElem r * n else patternAddr r (strSrcBase r) n

def strDstAddr (r : Words) (n : Nat) : Nat := if strPatDst r then patternAddr r (strDstBase r) n else strDstBase r + strElem r * n

/-- Elements in one iteration of the highest level whose count exceeds 1 (R282). -/
def outerSize (r : Words) : Nat :=
  match [3, 2, 1, 0].find? fun l => decide (1 < strCount r l) with
  | some l => ((List.range l).map (strCount r)).prod
  | none => 1

/-- Whether element n stands at an outer-loop boundary (R282). -/
def atOuter (r : Words) (n : Nat) : Bool := n % outerSize r == 0

/-- The number of elements, from element n on, that form one request to DRAM: level-0 elements with stride e in one 64-byte block, at most
limit of them (R311). -/
def runLength (r : Words) (addr : Nat → Nat) (n limit : Nat) : Nat :=
  let e := strElem r
  let ok := fun j => decide (j < limit) && (j == 0 || (strStride r 0 == e && decide (levelIndex r n 0 + j < strCount r 0))) &&
    addr (n + j) / 64 == addr n / 64
  ((List.range 64).takeWhile ok).length

/-- Elements performed in full from the start (R278, R290). -/
def Engine.performedTo (g : Engine) (begun : Nat) : Nat := g.outstanding.foldl (fun m o => min m o.first) begun

/-- A record with n elements performed: their number, and the indices of the next (R278). -/
def atElement (r : Words) (n : Nat) : Words :=
  [0, 1, 2, 3].foldl (fun r' l => Words.setWord r' (18 + l) (levelIndex r n l)) (Words.setDword r 22 n)

/-- The last outer-loop boundary at or before element n. -/
def outerBefore (r : Words) (n : Nat) : Nat := n / outerSize r * outerSize r

/-- What the retention area holds of a run once n elements are performed: written afresh at an outer-loop boundary (R278). -/
def StreamRun.keepAt (run : StreamRun) (r : Words) (n : Nat) : StreamRun :=
  let b := outerBefore r n
  if run.kept < b then { run with kept := b, keptSeq := run.eng.seq, since := run.since.filter fun e => decide (b < e.2.1) } else run

/-- The record brought up to date with the progress of its run, and what the retention area holds of it (R278). -/
def Tile.noteProgress (x : Tile) (k : Nat) : Tile :=
  let r := x.stream k
  let run := x.run k
  let n := run.eng.performedTo run.begun
  (x.setRun k (run.keepAt r n)).setStream k (Words.setWord (atElement r n) 26 run.eng.seq)

/-! ### Tokens of stream ports (R281, R283, R284) -/

/-- The slot and port of a port parameter (R280). -/
def paramSlot (p : Nat) : Nat := bitField p 0 4
def paramPort (p : Nat) : Nat := bitField p 4 3

/-- Most tokens requested and not yet pushed (R280). -/
def paramWindow (p : Nat) : Nat := if bitField p 16 8 = 0 then 8 else bitField p 16 8

/-- Elements of a token of a port W words wide. -/
def tokenElems (w e : Nat) : Nat := 4 * w / e

/-- The tokens that a feeding stream delivers in all (R283). -/
def feedTotal (r : Words) (w : Nat) : Nat :=
  if strTotal r = 0 then (if bitField (strDstParam r) 8 1 = 1 then 1 else 0) else ceilDiv (strTotal r) (tokenElems w (strElem r))

/-- A token pushed by a feeding stream into its port on the tile, counted in its record (R278, R283). -/
def State.feedToken (s : State) (t k : Nat) (words : List Word32) (void : Bool) : State :=
  let r := (s.tile t).stream k
  let ps := paramSlot (strDstParam r)
  let pp := paramPort (strDstParam r)
  let sl := s.slot t ps
  let last := strTokens r + 1 == feedTotal r (sl.inWidth pp)
  let tok : Token := { words := words, void := void, mark := !void && last && bitField (strDstParam r) 8 1 == 1, tag := sl.tag }
  let r1 := Words.setWord r 24 (strTokens r + 1)
  let r2 := if void then Words.setWord r1 25 (strVoids r + 1) else r1
  (s.modTile t fun x => x.setStream k r2).landToken t ps pp tok []

/-- Bytes of a token of w words, zeros where they run out. -/
def tokenWords (w : Nat) (bs : List Byte) : List Word32 := (bytesWords ((bs ++ List.replicate (4 * w) 0).take (4 * w))).map (BitVec.ofNat 32)

/-- Element bytes that have arrived for a feeding stream, the last of them element upTo - 1: each whole token is pushed, and the last one with
zeros where the elements run out (R283). -/
def State.feedBytes (s : State) (t k : Nat) (bs : List Byte) (upTo : Nat) : State :=
  let r := (s.tile t).stream k
  let w := (s.slot t (paramSlot (strDstParam r))).inWidth (paramPort (strDstParam r))
  let all := ((s.tile t).run k).filling ++ bs
  let n := all.length / (4 * w)
  let rest := all.drop (4 * w * n)
  let s1 := (List.range n).foldl (fun s i => s.feedToken t k (tokenWords w (all.drop (4 * w * i))) false) s
  if upTo = strTotal r ∧ !rest.isEmpty then
    (s1.feedToken t k (tokenWords w rest) false).modTile t fun x => x.setRun k { x.run k with filling := [] }
  else s1.modTile t fun x => x.setRun k { x.run k with filling := rest }

/-- Elements that a feeding stream may have begun: those of the tokens within WINDOW for which there are free slots (R283). -/
def State.feedLimit (s : State) (t k : Nat) : Nat :=
  let r := (s.tile t).stream k
  let sl := s.slot t (paramSlot (strDstParam r))
  let pp := paramPort (strDstParam r)
  (strTokens r + min (paramWindow (strDstParam r)) (sl.inSlots pp - (sl.inQueue pp).toks.length)) * tokenElems (sl.inWidth pp) (strElem r)

/-- Whether a feeding stream may begin its next element. -/
def State.mayFeed (s : State) (t k : Nat) : Bool := decide (((s.tile t).run k).begun < s.feedLimit t k)

/-- The head token of a stream or copy edge taken by its engine, its slot back (R281, R294). -/
def Slot.takeLocal (sl : Slot) (p : Nat) : Slot :=
  ((sl.setFree p (sl.free p + 1)).setRetBase p (sl.retBase p + 1)).setOutQueue p
    { sl.outQueue p with local_ := (sl.outQueue p).local_.drop 1 }

/-- A drained token, of elements first up to past, taken: counted, its slot back unless it was taken before the loss of its tile; a marked one
ends a stream with STOPMARK once it is consumed whole (R284, R304). -/
def State.drainToken (s : State) (t k first past : Nat) (tok : Token) (whole : Bool) : State :=
  s.modTile t fun x =>
    let r := x.stream k
    let run := x.run k
    let r1 := Words.setWord r 24 (strTokens r + 1)
    let r2 := if tok.void then Words.setWord r1 25 (strVoids r + 1) else r1
    let x1 := x.setStream k r2
    let x2 := if run.redo.isEmpty then
        (x1.modSlot (paramSlot (strSrcParam r)) fun sl => sl.takeLocal (paramPort (strSrcParam r))).event (paramSlot (strSrcParam r)) 2
      else x1
    x2.setRun k { run with
      drained := 0, since := run.since ++ [(first, past, tok)], redo := run.redo.drop 1
      marked := run.marked || (tok.mark && whole && bitField (strSrcParam r) 9 1 == 1) }

/-- The tokens that a draining stream finds at its port: those that it takes once more, and the committed ones of the port's queue (R284, R304). -/
def State.drainQueue (s : State) (t k : Nat) : List Token :=
  let p := strSrcParam ((s.tile t).stream k)
  ((s.tile t).run k).redo ++ ((s.slot t (paramSlot p)).outQueue (paramPort p)).local_

/-- The ordinal of the token at the head of a stream or copy edge (R161, R188). -/
def Slot.headOrdinal (sl : Slot) (p : Nat) : Nat := (sl.outQueue p).pushed - (sl.outQueue p).local_.length

/-! ### Ends by a fault (R302, R303) -/

/-- The unit of an operation's error record (R303). -/
def opUnit : OpKey → Nat
  | .stream _ => 3 | .copy _ => 4 | .atomic _ => 10 | .watch _ => 10

/-- An operation ended with a status, and its completion written (R303, R307). -/
def State.finishOp (s : State) (o : OpRef) (status : Nat) : State :=
  s.modTile o.tile fun x => match o.key with
    | .stream k => (x.noteProgress k).finishStream k status (status == 0)
    | .copy id => x.finishCopy id status
    | .atomic id => x.finishAtomic id status 0 0
    | .watch id => x.finishAtomic id status 0 0

/-- The feeding stream that an operation is, if it is one. -/
def State.feedingStream (s : State) (o : OpRef) : Option Nat :=
  match o.key with
  | .stream k => if strDstKind ((s.tile o.tile).stream k) = 2 then some k else none
  | _ => none

/-- An operation that ends fatally: the slot's cause, the record, the completion, and the disposition of its owner; a feeding stream under void
cone asks for nothing more, and pushes its voids in the state in which it stands (R189, R303). -/
def State.endFatal (s : State) (o : OpRef) (cause addr : Nat) : State :=
  let slot := s.opSlot o
  let sl := s.opOwner o
  let s1 := (s.writeError o.tile cause (opUnit o.key) slot (if sl.disp = 0 then 8 else 0) sl.tag 0 (addr % 2 ^ 32)).modTile o.tile fun x => x.modSlot slot fun sl => sl.setCause cause
  if sl.disp = 0 then
    let s2 := s1.addVoid sl.swatch sl.scopeNo
    match s.feedingStream o with
    | some k =>
      { s2.modTile o.tile fun x =>
          let run := x.run k
          x.setRun k { run with
            voiding := true, stopStatus := cause, filling := [], eng := { run.eng with outstanding := [], probing := none, notice := none } } with
        memReqs := s2.memReqs.filter fun r => !(r.op == o) }
    | none => s2.finishOp o cause
  else if sl.disp = 1 then (s1.finishOp o cause).abortScope sl.swatch sl.scopeNo cause
  else (s1.finishOp o cause).stopSwatch sl.swatch cause o.tile slot

/-- An operation paused by a translation fault, with its notice (R302). -/
def State.pauseOp (s : State) (o : OpRef) (g : Engine) (cause va : Nat) : State :=
  let id := s.nextNotice
  let tag := s.opTag o
  let s1 := s.modTile o.tile fun x =>
    let x1 := x.setEngine o.key { g with notice := some id, probing := none }
    match o.key with
    | .stream k =>
      let x2 := (x1.noteProgress k).setRun k { (x1.noteProgress k).run k with
        kept := (x1.run k).eng.performedTo (x1.run k).begun, keptSeq := (x1.run k).eng.seq }
      (x2.setStream k (Words.setWord (setStrState (x2.stream k) 3) 27 (strPauses (x2.stream k) + 1))).event (strOwner (x2.stream k)) 5
    | .copy c => { x1 with copies := x1.copies.map fun p => if p.id = c then { p with paused := true } else p }
    | .atomic a => { x1 with atomics := x1.atomics.map fun p => if p.id = a then { p with paused := true } else p }
    | .watch a => { x1 with atomics := x1.atomics.map fun p => if p.id = a then { p with paused := true } else p }
  { s1 with notices := s1.notices ++ [{ id := id, op := o, tag := tag, va := va, cause := cause, stage := 0 }], nextNotice := id + 1 }

/-! ### Elements of a stream -/

/-- The run of stream k changed. -/
def State.modRun (s : State) (t k : Nat) (f : StreamRun → StreamRun) : State := s.modTile t fun x => x.setRun k (f (x.run k))

/-- n more elements begun, the record brought up to date. -/
def State.begin (s : State) (t k n : Nat) : State :=
  (s.modRun t k fun run => { run with begun := run.begun + n }).modTile t fun x => x.noteProgress k

/-- Element bytes read from SRAM at an address for stream k, passed on; where the word cannot be read, the operation ends once nothing of it
is outstanding (R304). -/
def State.readElem (s : State) (t k a n : Nat) (go : State → List Byte → State) : State :=
  let o := s.streamRef t k
  match s.engineFind o a n with
  | .good => s.opRead o (min 8 (strElem ((s.tile t).stream k))) a n go
  | .rebuilt s1 => s1
  | .bad s1 w => if ((s.tile t).run k).eng.outstanding.isEmpty then s1.endFatal o 0x20 w else s

/-- Bytes written to SRAM by stream k, or its end where they touch a live barrier slot (R316). -/
def State.writeElem (s : State) (t k a : Nat) (bs : List Byte) (go : State → State) : State :=
  if touchesBarrier (s.tile t).barriers a bs.length then
    if ((s.tile t).run k).eng.outstanding.all (·.data.isSome) then s.endFatal (s.streamRef t k) 0x19 a else s
  else go (s.opWrite (s.streamRef t k) (min 8 (strElem ((s.tile t).stream k))) a bs)

/-- The request of stream k for DRAM at its next element: probed first where the page is not known (R298). -/
def State.streamRequest (s : State) (t k va n : Nat) (kind : MemKind) (write : Bool) (go : State → State) : State :=
  let o := s.streamRef t k
  let run := (s.tile t).run k
  match run.eng.page va write with
  | none => s.probePage o va write
  | some pa =>
    if (s.tile t).mayRequest run.eng then go ((s.sendRequest o run.eng kind va pa run.begun n write).begin t k n) else s

/-- An element from a memory in the tile: to SRAM, to DRAM, or to a port (R280). -/
def State.fromSram (s : State) (t k : Nat) : State :=
  let r := (s.tile t).stream k
  let n := ((s.tile t).run k).begun
  let e := strElem r
  if strDstKind r = 0 then
    s.readElem t k (strSrcAddr r n) e fun s bs => s.writeElem t k (strDstAddr r n) bs fun s => s.begin t k 1
  else if strDstKind r = 1 then
    let m := runLength r (strDstAddr r) n (strTotal r - n)
    match ((s.tile t).run k).eng.page (strDstAddr r n) true with
    | none => s.probePage (s.streamRef t k) (strDstAddr r n) true
    | some _ =>
      s.readElem t k (strSrcAddr r n) (m * e) fun s bs => s.streamRequest t k (strDstAddr r n) m (.write bs) true fun s => s
  else if s.mayFeed t k then
    s.readElem t k (strSrcAddr r n) e fun s bs => (s.begin t k 1).feedBytes t k bs (n + 1)
  else s

/-- Elements from DRAM: a read request for a run of them, no further than the tokens that may be requested (R283, R311). -/
def State.fromDram (s : State) (t k : Nat) : State :=
  let r := (s.tile t).stream k
  let n := ((s.tile t).run k).begun
  let e := strElem r
  let m := runLength r (strSrcAddr r) n (if strDstKind r = 2 then min (strTotal r) (s.feedLimit t k) - n else strTotal r - n)
  if m = 0 then s else s.streamRequest t k (strSrcAddr r n) m (.read (m * e)) false fun s => s

/-- d elements of the tokens at the head of a drained port begun: a token is taken with its last element, or where the nest is over (R284). -/
def State.advanceDrain (s : State) (t k ept : Nat) (last : Bool) : Nat → Nat → State
  | 0, _ => s
  | fuel + 1, d =>
    let first := ((s.tile t).run k).begun - d
    match s.drainQueue t k with
    | [] => s
    | tok :: _ =>
      if ept ≤ d then (s.drainToken t k first (first + ept) tok true).advanceDrain t k ept last fuel (d - ept)
      else if last && decide (0 < d) then s.drainToken t k first (first + d) tok false
      else s.modRun t k fun run => { run with drained := d }

/-- The valid tokens at the head of a port up to the first void one, and with STOPMARK up to the first marked one. -/
def drainable (stopMark : Bool) : List Token → List Token
  | [] => []
  | tok :: ts => if tok.void then [] else if tok.mark && stopMark then [tok] else tok :: drainable stopMark ts

/-- Elements from the tokens at the head of a drained port; a void token is skipped whole and logged (R188, R284, R311). -/
def State.fromPort (s : State) (t k : Nat) : State :=
  let r := (s.tile t).stream k
  let run := (s.tile t).run k
  let n := run.begun
  let e := strElem r
  let pp := paramPort (strSrcParam r)
  let sl := s.slot t (paramSlot (strSrcParam r))
  let toks := s.drainQueue t k
  let ept := tokenElems (sl.outWidth pp) e
  let total := strTotal r
  match toks with
  | [] => s
  | tok :: _ =>
    if tok.void then
      let left := min (ept - run.drained) (total - n)
      let s1 := if run.redo.isEmpty then s.logVoid sl.swatch sl.scopeNo (sl.outEdge pp) (sl.headOrdinal pp) else s
      (s1.begin t k left).advanceDrain t k ept (decide (total ≤ n + left)) 1
        (run.drained + left)
    else
      let bytes := ((drainable (bitField (strSrcParam r) 9 1 == 1) toks).flatMap fun tok => wordsBytes (tok.words.map BitVec.toNat)).drop
        (run.drained * e)
      if strDstKind r = 0 then
        s.writeElem t k (strDstAddr r n) (bytes.take e) fun s =>
          (s.begin t k 1).advanceDrain t k ept (decide (total ≤ n + 1)) toks.length (run.drained + 1)
      else
        let m := runLength r (strDstAddr r) n (min (total - n) (bytes.length / e))
        s.streamRequest t k (strDstAddr r n) m (.write (bytes.take (m * e))) true fun s =>
          s.advanceDrain t k ept (decide (total ≤ n + m)) toks.length (run.drained + m)

/-- Whether a stream is held at its outer-loop boundaries: its swatch stops, is saved or is parked, or the power fails (R352, R353, R362). -/
def State.streamHeld (s : State) (t k : Nat) : Bool :=
  let w := s.swatch ((s.tile t).run k).eng.swatch
  w.preempt.isSome || w.stop.isSome || w.parked

/-- The runs for which an SBAR still holds a stream back (R290). -/
def Tile.sbarLeft (x : Tile) (k : Nat) : List (Nat × Nat) := (x.run k).sbar.filter fun e => strBusy (x.stream e.1) && strStart (x.stream e.1) == e.2

/-- The hold of an SBAR over: the accesses that it waited for come before those of the stream (R331 rule 3), and SBARW falls unless the next SGO
is held as well (R290). -/
def Tile.endSbar (x : Tile) (k : Nat) : Tile :=
  let run := x.run k
  if run.sbar.isEmpty then x
  else
    let reach := run.sbar.foldl (fun v e => Reach.join v (Map.get noReach x.ended e.1)) run.eng.reach
    (x.setRun k { run with sbar := [], eng := { run.eng with reach := reach } }).setStream k
      (Words.setField (x.stream k) 0 7 1 (if (Map.get [] x.barred k).isEmpty then 0 else 1))

/-- STREAM_ELEMENT: a running stream, or one that stops at an outer-loop boundary only, performs its next element or sends its next request;
one that voids what it has not delivered pushes the next void (R282 to R284, R189). -/
def execStreamElement (t k : Nat) (s : State) : Out :=
  event (
    let r := (s.tile t).stream k
    let run := (s.tile t).run k
    let active := strState r == 2 || (strState r == 5 && run.outerOnly)
    let w := (s.slot t (paramSlot (strDstParam r))).inWidth (paramPort (strDstParam r))
    if s.power.failing then s
    else if strBusy r && run.voiding then
      let sl := s.slot t (paramSlot (strDstParam r))
      let pp := paramPort (strDstParam r)
      if strTokens r < feedTotal r w ∧ (sl.inQueue pp).toks.length < sl.inSlots pp then s.feedToken t k (List.replicate w 0) true else s
    else if !active then s
    else if !((s.tile t).sbarLeft k).isEmpty then s
    else
      let s1 := s.modTile t fun x => x.endSbar k
      if run.marked then s1
      else if strTotal r ≤ run.begun then
        if strDstKind r = 2 ∧ strTotal r = 0 ∧ strTokens r < feedTotal r w ∧ s1.mayFeed t k then
          s1.feedToken t k (List.replicate w 0) false
        else s1
      else if (strState r = 5 ∨ s1.streamHeld t k) ∧ atOuter r run.begun then s1
      else if strSrcKind r = 0 then s1.fromSram t k
      else if strSrcKind r = 1 then s1.fromDram t k
      else s1.fromPort t k)

/-- STREAM_STOP_BOUNDARY: a stopping stream with nothing outstanding, at an element boundary or, where it must, at an outer-loop boundary
(R279, R288, R305). -/
def execStreamStopBoundary (t k : Nat) (s : State) : Out :=
  event (
    let r := (s.tile t).stream k
    let run := (s.tile t).run k
    if strState r = 5 ∧ !run.voiding ∧ run.eng.outstanding.isEmpty ∧ (!run.outerOnly || run.marked || atOuter r run.begun || decide (strTotal r ≤ run.begun)) then
      s.finishOp (s.streamRef t k) run.stopStatus
    else s)

/-! ### Replies (R283, R291) -/

/-- The replies of reads at the head of a stream's requests applied in stream order (R31). -/
def State.absorbStream (s : State) (t k : Nat) : Nat → State
  | 0 => s
  | fuel + 1 =>
    let run := (s.tile t).run k
    match run.eng.outstanding with
    | o :: rest =>
      match o.data with
      | some bs =>
        let r := (s.tile t).stream k
        let drop := fun (s : State) => s.modRun t k fun run => { run with eng := { run.eng with outstanding := rest } }
        if strDstKind r = 2 then
          State.absorbStream (((drop s).feedBytes t k bs (o.first + o.count)).modTile t fun x => x.noteProgress k) t k fuel
        else if touchesBarrier (s.tile t).barriers (strDstAddr r o.first) bs.length then
          s.endFatal (s.streamRef t k) 0x19 (strDstAddr r o.first)
        else 
          let s1 := s.opWrite (s.streamRef t k) (min 8 (strElem r)) (strDstAddr r o.first) bs
          let reach : Reach := { noReach with sram := s1.sramSeen (s.streamRef t k) }
          State.absorbStream ((drop s1).modTile t fun x => (x.noteProgress k).coverAccess (.stream k) o.seq reach) t k fuel
      | none => s
    | [] => s

/-- Copy id of a tile. -/
def Tile.copy? (x : Tile) (id : Nat) : Option Copy := x.copies.find? fun c => c.id == id

def State.modCopy (s : State) (t id : Nat) (f : Copy → Copy) : State :=
  s.modTile t fun x => { x with copies := x.copies.map fun c => if c.id = id then f c else c }

def copyRef (t id : Nat) : OpRef := { tile := t, key := .copy id, run := id }

/-- The replies of reads at the head of a copy's requests applied in order: into SRAM; a copy to DRAM goes on with COPY_WORD. -/
def State.absorbCopy (s : State) (t id : Nat) : Nat → State
  | 0 => s
  | fuel + 1 =>
    match (s.tile t).copy? id with
    | none => s
    | some c =>
      if copyDram c.dst then s
      else match c.eng.outstanding with
        | o :: rest =>
          match o.data with
          | some bs =>
            if touchesBarrier (s.tile t).barriers (c.dst + o.first) bs.length then s.endFatal (copyRef t id) 0x19 (c.dst + o.first)
            else
              State.absorbCopy ((s.opWrite (copyRef t id) 4 (c.dst + o.first) bs).modCopy t id fun c =>
                { c with done := o.first + o.count, eng := { c.eng with outstanding := rest } }) t id fuel
          | none => s
        | [] => s

/-- A write acknowledged: its request is no longer outstanding, and progress follows (R290). -/
def State.ackWrite (s : State) (o : OpRef) (g : Engine) (seq : Nat) : State :=
  let g1 := { g with outstanding := g.outstanding.filter fun q => !(q.seq == seq) }
  let s1 := s.setOpEngine o g1
  match o.key with
  | .stream k => s1.modTile o.tile fun x => x.noteProgress k
  | .copy id => s1.modCopy o.tile id fun c => { c with done := g1.performedTo c.begun }
  | _ => s1

/-! ### Copies (R291, R294, R295) -/

/-- Whether a copy is one of the 16 in progress (R295). -/
def Tile.copyInProgress (x : Tile) (id : Nat) : Bool := (((x.copies.filter fun c => !c.deferred).take 16).any fun c => c.id == id)

/-- Bytes from a position that stay in one 64-byte block. -/
def blockLeft (a n : Nat) : Nat := min n (64 - a % 64)

/-- The next words of a copy: SRAM to SRAM a word at a time in ascending order; to or from DRAM a request, each page probed before its first
(R291, R298, R311). -/
def State.copyStep (s : State) (t : Nat) (c : Copy) : State :=
  let o := copyRef t c.id
  let left := c.len - c.begun
  let src := copyAddr c.src + c.begun
  let dst := copyAddr c.dst + c.begun
  let begin := fun (n : Nat) (s : State) => s.modCopy t c.id fun c => { c with begun := c.begun + n }
  let request := fun (s : State) (kind : MemKind) (va pa n : Nat) (write : Bool) =>
    match s.opEngine o with
    | some g => begin n (s.sendRequest o g kind va pa c.begun n write)
    | none => s
  let readAnd := fun (n : Nat) (go : State → List Byte → State) =>
    match s.engineFind o src n with
    | .good => s.opRead o 4 src n go
    | .rebuilt s1 => s1
    | .bad s1 w => if c.eng.outstanding.isEmpty then s1.endFatal o 0x20 w else s
  let room := (s.tile t).mayRequest c.eng
  match copyDram c.src, copyDram c.dst, c.eng.outstanding with
  | false, false, _ =>
    if left = 0 then s
    else readAnd 4 fun s bs =>
      if touchesBarrier (s.tile t).barriers dst 4 then s.endFatal o 0x19 dst
      else (s.opWrite o 4 dst bs).modCopy t c.id fun c => { c with begun := c.begun + 4, done := c.done + 4 }
  | false, true, _ =>
    if left = 0 then s
    else match c.eng.page dst true with
      | none => s.probePage o dst true
      | some pa => if room then readAnd (blockLeft dst left) fun s bs => request s (.write bs) dst pa (blockLeft dst left) true else s
  | true, false, _ =>
    if left = 0 then s
    else match c.eng.page src false with
      | none => s.probePage o src false
      | some pa => if room then request s (.read (blockLeft src left)) src pa (blockLeft src left) false else s
  | true, true, [] =>
    if left = 0 then s
    else match c.eng.page src false, c.eng.page dst true with
      | none, _ => s.probePage o src false
      | _, none => s.probePage o dst true
      | some pa, some _ =>
        let n := min (blockLeft src left) (blockLeft dst left)
        if room then request s (.read n) src pa n false else s
  | true, true, q :: _ =>
    match q.data, c.eng.page (copyAddr c.dst + q.first) true with
    | none, _ => s
    | some _, none => s.probePage o (copyAddr c.dst + q.first) true
    | some bs, some pa => s.sendRequest o { c.eng with outstanding := [] } (.write bs) (copyAddr c.dst + q.first) pa q.first q.count true

/-- COPY_WORD: the next words of a copy in progress (R295). -/
def execCopyWord (t id : Nat) (s : State) : Out :=
  event (
    match (s.tile t).copy? id with
    | some c => if (s.tile t).copyInProgress id && !c.paused && c.status == 0 && !s.power.failing then s.copyStep t c else s
    | none => s)

/-- COPY_REQUEST_TOKEN: the committed token at the head of a copy-request port: a void is dropped and logged; a valid one reserves an entry
for the producing slot, gives its slot back and starts its copy (R188, R292, R294). -/
def execCopyRequestToken (t k p : Nat) (s : State) : Out :=
  event (
    let x := s.tile t
    let sl := x.slot k
    if bitField (x.edgeFlags k (sl.outEdge p)) 1 1 = 0 then s
    else match (sl.outQueue p).local_ with
      | [] => s
      | tok :: _ =>
        if tok.void then
          (s.logVoid sl.swatch sl.scopeNo (sl.outEdge p) (sl.headOrdinal p)).modTile t fun x => (x.modSlot k fun sl => sl.takeLocal p).event k 2
        else match x.freeEntryNo with
          | none => s
          | some i =>
            let c : Copy :=
              { id := x.nextOp, slot := k, kind := 0x03, src := packetSrc tok.words, dst := packetDst tok.words, len := packetWord tok.words 4,
                tag := packetWord tok.words 5, packet := tok.words, begun := 0, done := 0, deferred := false, paused := false,
                status := packetCause x t k (sl.cls == 2) tok.words
                eng := { emptyEngine with entry := i, swatch := sl.swatch, scope := sl.scopeNo, reach := x.issueReach } }
            s.modTile t fun x =>
              let x1 := ((x.reserve k i sl.swatch).modSlot k fun sl => sl.takeLocal p).event k 2
              { x1 with copies := x1.copies ++ [c], nextOp := x1.nextOp + 1 })

/-! ### Completions (R303, R307, R308) -/

/-- Whether a running stream has come to its own end, and the status of that end (R279, R284, R308). -/
def State.streamEnd (s : State) (t k : Nat) : Option Nat :=
  let x := s.tile t
  let r := x.stream k
  let run := x.run k
  let w := (s.slot t (paramSlot (strDstParam r))).inWidth (paramPort (strDstParam r))
  let fed := strDstKind r != 2 || feedTotal r w == strTokens r
  if strBusy r && run.voiding then (if fed then some run.stopStatus else none)
  else if strState r ≠ 2 then none
  else if run.eng.outstanding.isEmpty && (run.marked || decide (strTotal r ≤ run.begun)) && fed && (x.sbarLeft k).isEmpty then
    some (if run.marked then 0x7F else 0)
  else none

/-- The value and the flag that a reply brought to an atomic or watch. -/
def Atomic.replied (a : Atomic) : Option (Nat × Nat) :=
  match a.eng.outstanding with
  | o :: _ => o.data.map fun d => (leNat d, o.first)
  | [] => none

/-- COMPLETION_MESSAGE: an operation that has been performed writes its completion (R308, R325); a copy request that was malformed or refused
ends with its cause, and the producer's disposition applies (R294). -/
def execCompletionMessage (t : Nat) (key : OpKey) (s : State) : Out :=
  event (match key with
    | .stream k =>
      match s.streamEnd t k with
      | some st => s.finishOp (s.streamRef t k) st
      | none => s
    | .copy id =>
      match (s.tile t).copy? id with
      | some c =>
        if c.status ≠ 0 then s.endFatal (copyRef t id) c.status (c.src % 2 ^ 32)
        else if !c.deferred && c.eng.outstanding.isEmpty && decide (c.len ≤ c.begun) && (s.tile t).copyInProgress id then s.finishOp (copyRef t id) 0
        else s
      | none => s
    | .atomic id =>
      match (s.tile t).atomics.find? fun a => a.id == id && a.op != 9 with
      | some a =>
        match a.replied with
        | some v => s.modTile t fun x => x.finishAtomic id 0 v.1 v.2
        | none => s
      | none => s
    | .watch id =>
      match (s.tile t).atomics.find? fun a => a.id == id && a.op == 9 with
      | some a =>
        match a.replied with
        | some v => s.modTile t fun x => x.finishAtomic id 0 v.1 v.2
        | none => s
      | none => s)

end Sys2Proof.Machine
end

