-- ==== Sys2Proof/Machine/Scope.lean ====
section
/-! DEFINITION. Completions of host packets (R389) and the ends of scopes as the occupancy tree reports them (R27, R28, R191, R195, R196). -/

namespace Sys2Proof.Machine

/-- A completion entry written (R389). -/
def State.pushCompletion (s : State) (h : Hdr) (status b9 b10 result : Nat) : State :=
  { s with host := { s.host with completions := s.host.completions ++
      [{ adapter := h.adapter, queue := h.queue, seq := h.seq, status := status, b9 := b9, b10 := b10, result := result }] } }

/-- The guilt count of a tag gains one; past its limit, the tag is barred (R392). -/
def HostSide.blame (x : HostSide) (tag : Nat) : HostSide :=
  let n := min 255 (Map.get 0 x.guilt tag + 1)
  { x with guilt := Map.set x.guilt tag n, barred := if Map.get 16 x.limits tag < n ∧ !x.barred.contains tag then tag :: x.barred else x.barred }

/-- The guilt of the tag of a packet gains one (R392). -/
def State.blameHdr (s : State) (h : Hdr) : State := { s with host := s.host.blame h.tag }

/-- Packets of owner class taken and not yet completed: launches under way, scope commands held for a table, queues being deleted, handovers
that wait (R26, R390, R391, R393). -/
def State.ownerPending (s : State) : List Hdr :=
  (s.swatches.flatMap fun e => e.2.launchHdr.toList ++ e.2.heldCmds.map (·.1)) ++ (s.host.queues.flatMap fun e => e.2.deleting) ++
    s.host.handovers.map (·.2.1)

/-- Every packet taken and not yet completed. -/
def State.pendingHdrs (s : State) : List Hdr := s.ownerPending ++ s.host.pending.map (·.1)

/-- The key of a queue in the table of queues. -/
def queueKey (adapter q : Nat) : Nat := 256 * adapter + q

/-- The queue of a key gone, and its deletions completed, where it is being deleted and every packet taken from it has completed (R391). -/
def State.settleQueue (s : State) (key : Nat) : State :=
  match Map.find s.host.queues key with
  | none => s
  | some q =>
    if q.deleting.isEmpty || s.pendingHdrs.any fun h => queueKey h.adapter h.queue == key then s
    else q.deleting.foldl (fun s h => s.pushCompletion h 0 0 0 0) { s with host := { s.host with queues := Map.erase s.host.queues key } }

/-- A handover in effect, once every packet of owner class taken before it has completed (R393). -/
def State.settleHandover (s : State) (e : Nat × Hdr × List Hdr) : State :=
  if e.2.2.any s.ownerPending.contains then s
  else { s with host := { s.host with owner := some e.1, handovers := s.host.handovers.filter fun q => !(q == e) } }.pushCompletion e.2.1 0 0 0 0

/-- What waited for a last completion comes about: queues deleted, handovers in the order in which they were taken (R391, R393). -/
def State.settleHost (s : State) : State :=
  let s1 := (Map.keys s.host.queues).foldl State.settleQueue s
  s1.host.handovers.foldl State.settleHandover s1

/-- A packet completed (R389). -/
def State.completeWith (s : State) (h : Hdr) (status b9 b10 result : Nat) : State := (s.pushCompletion h status b9 b10 result).settleHost

/-- A completion with no more than a status (R389). -/
def State.completeStatus (s : State) (h : Hdr) (status : Nat) : State := s.completeWith h status 0 0 0

/-- A completion, where a packet waits for it. -/
def State.completeOpt (s : State) (h : Option Hdr) (status : Nat) : State :=
  match h with
  | some h => s.completeStatus h status
  | none => s

/-! ### What a scope has outstanding (R28, R196) -/

/-- Whether a tile has a stream, copy or atomic that counts in a scope of a swatch, in which it was issued (R28, R32). -/
def Tile.opsIn (x : Tile) (here : Engine → Bool) : Bool :=
  ((List.range 16).any fun j => strBusy (x.stream j) && here (x.run j).eng) || (x.copies.any fun c => here c.eng) || x.atomics.any fun a => here a.eng

/-- Whether slot k of a tile holds tokens, its firing, or tokens that an engine has yet to take. -/
def Tile.slotHolds (x : Tile) (k : Nat) : Bool :=
  let sl := x.slot k
  (sl.inq.any fun e => !e.2.toks.isEmpty) || (sl.outq.any fun e => !e.2.local_.isEmpty) || x.runs_ k

/-- Whether slot k of a tile has anything outstanding. -/
def Tile.slotBusy (x : Tile) (k : Nat) : Bool :=
  x.slotHolds k || ((List.range 16).any fun j => strOwner (x.stream j) == k && strBusy (x.stream j)) || (x.copies.any fun c => c.slot == k) ||
    x.atomics.any fun a => a.slot == k

/-- The scope of the consumer of an edge, resident or in the record table (R206). -/
def State.edgeScope (s : State) (sw edge : Nat) : Option Nat :=
  match s.consumer sw edge with
  | some (t, k, _) => some (s.slot t k).scopeNo
  | none => if (s.swatch sw).paged then (s.pagedEntry (s.swatch sw) edge).map fun e => (slotOf e.2.1).scopeNo else none

/-- The swatch and scope in which a packet on its way counts: a token in its consumer's scope, at the selvage its producer's, and a remote
arrival in its sender's (R27, R196, R382; log entry 24). -/
def State.packetScope (s : State) (p : Packet) : Option (Nat × Nat) :=
  match p.body with
  | .token k port _ =>
    if p.dst = selvage then some ((s.slot p.src k).swatch, (s.slot p.src k).scopeNo)
    else if (s.slot p.dst k).inDecl port then some ((s.slot p.dst k).swatch, (s.slot p.dst k).scopeNo)
    else none
  | .paged edge sw _ => (s.edgeScope sw edge).map fun sc => (sw, sc)
  | .arrival .. => some p.sender
  | _ => none

/-- Whether anything of a scope is outstanding (R27, R28). -/
def State.scopeBusy (s : State) (sw sc : Nat) : Bool :=
  ((s.actorsOf sw).any fun a => (s.slot a.1 a.2).scopeNo == sc && (s.tile a.1).slotHolds a.2) ||
    (s.tiles.any fun e => e.2.runs_ 16 && (e.2.slot 16).swatch == sw && (e.2.slot 16).scopeNo == sc) ||
    (s.tiles.any fun e => e.2.opsIn fun g => g.swatch == sw && g.scope == sc) ||
    (s.net.any fun p => s.packetScope p == some (sw, sc)) ||
    (((s.swatch sw).seeds ++ (s.swatch sw).hostToks).any fun e => s.edgeScope sw e.1 == some sc)

/-- The child scopes of a scope that are not free (R27, R195). -/
def Swatch.children (w : Swatch) (sc : Nat) : List Nat := w.scopeNumbers.filter fun n => n != 0 && n != sc && (w.scope n).parent == sc

/-- WAITSCOPE packets on a scope that has become terminal complete with its state (R390). -/
def State.answerWaits (s : State) (sw sc : Nat) : State :=
  let code := ((s.swatch sw).scope sc).stateCode
  let hit := s.host.pending.filter fun p => p.2.1 == sw && p.2.2 == sc
  let s1 := { s with host := { s.host with pending := s.host.pending.filter fun p => !(p.2.1 == sw && p.2.2 == sc) } }
  hit.foldl (fun s p => s.completeWith p.1 0 0 0 code) s1

/-- SCOPE_COMPLETE: sealed, nothing outstanding, every child ended (R27, R195). -/
def execScopeComplete (sw sc : Nat) (s : State) : Out :=
  event (
    let w := s.swatch sw
    let e := w.scope sc
    let kids := (w.children sc).map fun n => (w.scope n).stateCode
    if s.liveSwatch sw ∧ e.stateCode = 2 ∧ !s.scopeBusy sw sc ∧ kids.all terminalCode then
      let code := if e.voids = 0 ∧ !(kids.contains 4 || kids.contains 5) then 3 else 4
      (s.modSwatch sw fun w => w.setScope sc (e.setState code)).answerWaits sw sc
    else s)

/-- SCOPE_ABORTED: a draining scope empty with its descendants (R191, R195). -/
def execScopeAborted (sw sc : Nat) (s : State) : Out :=
  event (
    let w := s.swatch sw
    let under := w.scopeNumbers.filter fun n => w.below sc 257 n
    if s.liveSwatch sw ∧ (w.scope sc).stateCode = 6 ∧ !(under.any (s.scopeBusy sw)) then
      let hit := under.filter fun n => (w.scope n).stateCode == 6
      let s1 := s.modSwatch sw fun w => hit.foldl (fun w n => w.setScope n ((w.scope n).setState 5)) w
      hit.foldl (fun s n => s.answerWaits sw n) s1
    else s)

end Sys2Proof.Machine
end

