-- ==== Sys2Proof/Machine/Launch.lean ====
section
/-! DEFINITION. Launch, cast-on and release of swatches (R24 to R29, R198, R200, R202 to R207, R210, R211, R277, R312, R340). -/

namespace Sys2Proof.Machine

/-! ### The image (R202, R204) -/

/-- A segment of an image: whether it follows, and its commands. -/
abbrev Segment := Bool × List (Nat × Nat)

/-- The first n commands of a list of words. -/
def takeCommands : Nat → List Nat → Option (List (Nat × Nat) × List Nat)
  | 0, ws => some ([], ws)
  | n + 1, a :: b :: ws => (takeCommands n ws).map fun r => ((a, b) :: r.1, r.2)
  | _ + 1, _ => none

/-- The segments of a row; an error is the word that breaks the layout. -/
def takeSegments : Nat → List Nat → Except Nat (List Segment × List Nat)
  | 0, ws => .ok ([], ws)
  | _ + 1, [] => .error 0
  | n + 1, h :: ws =>
    if bitField h 24 8 ≠ 0xA7 ∨ bitField h 20 3 ≠ 0 then .error h
    else match takeCommands (bitField h 0 20) ws with
      | none => .error h
      | some r => do
        let rest ← takeSegments n r.2
        .ok ((bitField h 23 1 == 1, r.1) :: rest.1, rest.2)

/-- The rows of an image, at most fuel of them. -/
def takeRows (w : Nat) : Nat → List Nat → Except Nat (List (List Segment))
  | _, [] => .ok []
  | 0, h :: _ => .error h
  | fuel + 1, h :: ws =>
    if bitField h 24 8 ≠ 0xA6 ∨ bitField h 16 8 ≠ 0 ∨ w < bitField h 0 16 then .error h
    else do
      let r ← takeSegments (bitField h 0 16) ws
      let rest ← takeRows w fuel r.2
      .ok (r.1 :: rest)

/-- An image read under a tag: whether order-dependent, its edges, its rows. -/
structure Image where
  orderDependent : Bool
  edges : Nat
  rows : List (List Segment)

/-- The image of a launch record, or a status: a fault cause, or 0xE6 with the word at fault (R26, R202, R204). -/
def State.readImage (s : State) (launch : Words) : Except (Nat × Nat) Image :=
  let tag := Words.field launch 3 0 13
  match s.readVirt tag (Words.dword launch 4) (Words.dword launch 6) with
  | .error c => .error (c, 0)
  | .ok bytes =>
    let ws := bytesWords bytes
    if ws.getD 0 0 ≠ 0x474D4952 then .error (0xE6, ws.getD 0 0)
    else if ws.getD 1 0 / 2 ≠ 0 then .error (0xE6, ws.getD 1 0)
    else match takeRows (Words.field launch 2 0 16) (Words.field launch 2 16 16) (ws.drop 4) with
      | .error x => .error (0xE6, x)
      | .ok rows => .ok { orderDependent := ws.getD 1 0 % 2 == 1, edges := ws.getD 2 0, rows := rows }

/-- The segments of an image by the tile that takes each, for an origin (R204). -/
def placeSegments (x0 y0 : Nat) (rows : List (List Segment)) : Map Segment :=
  (rows.zipIdx).flatMap fun r => (r.1.zipIdx).map fun g => (tileId (x0 + g.2) (y0 + r.2), g.1)

/-! ### The launch record (R202, R24, R29) -/

/-- Whether a launch record is malformed (R26). -/
def launchMalformed (v : Variant) (r : Words) : Bool :=
  let w := Words.field r 2 0 16
  let h := Words.field r 2 16 16
  Words.word r 0 != 0x48434E4C || Words.field r 1 4 28 != 0 || Words.field r 3 13 19 != 0 ||
    ((List.range 10).any fun i => Words.word r (22 + i) != 0) || w == 0 || decide (meshW v < w) || h == 0 || decide (200 < h)

/-- Whether the levels of a record obey R29 and R202: from level 0 without gaps, each bound to a larger code than the one before. -/
def levelsOk (r : Words) : Bool :=
  let valid := fun i => Words.field r 8 (4 * i + 3) 1 == 1
  let code := fun i => Words.field r 8 (4 * i) 3
  valid 0 && [0, 1, 2, 3, 4, 5, 6].all fun i => !valid (i + 1) || (valid i && decide (code i < code (i + 1)))

/-- The highest-numbered level that a launch declares (R194). -/
def topLevel (r : Words) : Nat := ((List.range 8).filter fun i => Words.field r 8 (4 * i + 3) 1 == 1).length - 1

/-- Whether two rectangles overlap. -/
def overlaps (x0 y0 w h x1 y1 w1 h1 : Nat) : Bool :=
  decide (x0 < x1 + w1) && decide (x1 < x0 + w) && decide (y0 < y1 + h1) && decide (y1 < y0 + h)

/-- Whether a launch is exclusive (R202). -/
def isExclusive (r : Words) : Bool := Words.field r 1 1 1 == 0

/-- The slots that a segment writes or clears (R24). -/
def segmentSlots (g : Segment) : List Nat :=
  (g.2.filter fun c => bitField c.1 28 4 == 0 || bitField c.1 28 4 == 4).map fun c => bitField c.1 8 20

/-- Whether an origin meets both conditions of R24. A slot that the image of another shared launch is still to write, in a segment that its tile
has not applied, counts as empty, and that segment writes over the actor: the spec does not say how two cast-ons at once meet, and this is the
model's choice (log entry 32). -/
def State.originOk (s : State) (r : Words) (img : Image) (x0 y0 : Nat) : Bool :=
  let w := Words.field r 2 0 16
  let h := Words.field r 2 16 16
  decide (x0 + w ≤ meshW s.variant) && decide (y0 + h ≤ 200) &&
    (s.swatches.all fun e => !overlaps x0 y0 w h e.2.x0 e.2.y0 e.2.w e.2.h || (!isExclusive r && !isExclusive e.2.launch)) &&
    (placeSegments x0 y0 img.rows).all fun g => (segmentSlots g.2).all fun k => decide (16 ≤ k) || (s.slot g.1 k).stateCode == 0

/-- The origins that qualify. -/
def State.origins (s : State) (r : Words) (img : Image) : List (Nat × Nat) :=
  (List.range 200).flatMap fun y => ((List.range (meshW s.variant)).filter fun x => s.originOk r img x y).map fun x => (x, y)

/-- The origin that the selvage chooses among those that qualify (R24; log entry 10). -/
def State.chooseOrigin (s : State) (r : Words) (img : Image) : Option (Nat × Nat) :=
  let l := s.origins r img
  l[Config.origin s.tick % l.length]?

/-! ### Clearing slots and releasing a swatch (R204, R279, R306, R316, R353, R358) -/

/-- The protected bytes of a tile that are not 0. -/
def Tile.protImage (x : Tile) : List (Nat × Byte) := x.sram.filter fun e => x.isProtected e.1

/-- A change of a tile's configuration, the parity of its protected windows following (R14). -/
def State.modConfig (s : State) (t : Nat) (f : Tile → Tile) : State :=
  let x := s.tile t
  let y := f x
  (s.setTile t y).parityDelta t (x.protImage ++ y.protImage)

/-- A slot cleared to empty: its streams idle, its operations, inbox entries, barrier slots and edge-table entries gone (R204, R279, R306,
R316). -/
def Tile.clearSlot (x : Tile) (k : Nat) : Tile :=
  let mine := (List.range 16).filter fun j => strOwner (x.stream j) == k && !(Map.find x.streams j).isNone
  { x with
    slots := Map.erase x.slots k
    streams := x.streams.map fun e => if mine.contains e.1 then (e.1, setStrState e.2 0) else e
    keptStreams := x.keptStreams.map fun e => if mine.contains e.1 then (e.1, setStrState e.2 0) else e
    runs := x.runs.filter fun e => !mine.contains e.1
    barred := x.barred.filter fun e => !mine.contains e.1
    copies := x.copies.filter fun c => !(c.slot == k)
    atomics := x.atomics.filter fun a => !(a.slot == k)
    inbox := x.inbox.filter fun e => !(e.2.owner == k)
    barriers := x.barriers.filter fun b => !(b.2 == k)
    barInfo := x.barInfo.filter fun e => !(x.barriers.any fun b => b.1 == e.1 && b.2 == k)
    edgeTab := x.edgeTab.filter fun e => !(bitField (Map.get 0 x.edgeTab (e.1 / 4 * 4)).toNat 24 5 == k)
    firing := x.firing.filter fun f => !(f.slot == k) }

/-- The windows, streams and semaphores of slot k freed. -/
def Tile.freeGrants (x : Tile) (k : Nat) : Tile :=
  { x with
    cwords := [0x040, 0x060, 0x0A0, 0x0C0].foldl (fun m n => Map.erase m (n + k)) x.cwords
    sems := x.sems.filter fun e => !(decide (x.semBase k ≤ e.1) && decide (e.1 < x.semBase k + x.semCount k)) }

/-- What a launch leaves with the inbox actor slot of a tile that it shares freed: its messages, its operations with their entries, and the
barrier slots that it made live (R306, R316). -/
def Tile.clearShare (x : Tile) (sw : Nat) : Tile :=
  let bars := x.barriers.filter fun b => b.2 == 16 && (Map.get emptyBarInfo x.barInfo b.1).swatch == sw
  { x with
    inbox := x.inbox.filter fun e => !(e.2.owner == 16 && e.2.swatch == sw)
    copies := x.copies.filter fun c => !(c.slot == 16 && c.eng.swatch == sw)
    atomics := x.atomics.filter fun a => !(a.slot == 16 && a.eng.swatch == sw)
    barriers := x.barriers.filter fun b => !bars.contains b
    barInfo := x.barInfo.filter fun e => !(bars.any fun b => b.1 == e.1)
    slots := if (x.slot 16).swatch = sw ∧ (x.slot 16).stateCode = 6 then (x.modSlot 16 fun sl => sl.setState 1).slots else x.slots }

/-- A swatch released: its slots cleared, its grants freed, what its launch left with the inbox actor slots gone, the packets that wait on its
scopes completed as naming nothing (R353, R358, R306, R316, R390). -/
def State.releaseSwatch (s : State) (sw : Nat) : State :=
  let w := s.swatch sw
  let s1 := w.tiles.foldl (fun s t =>
    let mine := (s.tile t).loaded.filter fun k => decide (k < 16) && ((s.tile t).slot k).swatch == sw
    let shared := s.swatches.any fun e => !(e.1 == sw) && e.2.tiles.contains t
    let y := (s.tile t).clearShare sw
    if mine.isEmpty && shared && y == s.tile t then s
    else s.modConfig t fun x =>
      let x1 := (mine.foldl (fun x k => (x.clearSlot k).freeGrants k) x).clearShare sw
      if shared then x1 else { (x1.clearSlot 16).freeGrants 16 with poolUsed := 0 }) s
  let hit := s1.host.pending.filter fun p => p.2.1 == sw
  let s2 := { s1 with
    swatches := Map.erase s1.swatches sw
    host := { s1.host with
      pending := s1.host.pending.filter fun p => !(p.2.1 == sw)
      peers := s1.host.peers.filter fun p => !(p.swatch == sw) } }
  let s3 := hit.foldl (fun s p => s.completeStatus p.1 0xE7) s2
  w.heldCmds.foldl (fun s c => s.completeStatus c.1 0xE7) s3

/-! ### Configuration commands (R204, R207) -/

/-- What is wrong with a node-record word by itself (R155 to R160, R207). -/
def recordWordOk (i v : Nat) : Bool :=
  if i = 0 then bitField v 22 10 == 0 && bitField v 0 2 == 0
  else if i = 1 then bitField v 16 16 != 0 && bitField v 6 2 != 3 && bitField v 4 2 != 3 && decide (bitField v 0 4 < 12)
  else if i = 2 then bitField v 26 6 == 0 && decide (bitField v 13 3 < 4)
  else if i = 3 then bitField v 27 5 == 0
  else if i < 8 then true
  else if i < 32 then
    if i % 3 = 2 then
      bitField v 6 10 == 0 && decide (bitField v 0 3 < 5) && decide (bitField v 16 8 ≤ bitField v 24 8) &&
        (bitField v 5 1 == 0 || bitField v 3 1 == 1 || bitField v 16 8 == bitField v 24 8)
    else true
  else if i % 4 = 1 then bitField v 24 8 == 0 && bitField v 14 2 == 0 && decide (bitField v 8 3 < 5)
  else true

/-- Whether a KIND 3 command may give a control word that value: a value that breaks the layout of a configured word is an error, and any other
number of the range is accepted (R204, R207, R210, R277, R312, R340). -/
def configWordOk (n v : Nat) : Bool :=
  if (0x040 ≤ n ∧ n ≤ 0x050) ∨ (0x060 ≤ n ∧ n ≤ 0x070) then bitField v 24 8 == 0
  else if n = 0x05F then bitField v 12 20 == 0
  else if 0x0A0 ≤ n ∧ n ≤ 0x0B0 then
    bitField v 10 22 == 0 && decide (bitField v 0 5 + bitField v 5 5 ≤ 16) && (!(n == 0x0B0) || bitField v 5 5 == 0)
  else if 0x0C0 ≤ n ∧ n ≤ 0x0D0 then bitField v 11 21 == 0 && decide (bitField v 0 5 + bitField v 5 6 ≤ 32)
  else if n = 0x006 then decide (16 ≤ v) && decide (v ≤ 30)
  else true

/-- The control words that keep what a KIND 3 command writes; any other keeps its own value, which the part or a firing maintains (R210, R277,
R312, R337, R340; log entry 6). -/
def configKept (n : Nat) : Bool :=
  decide ((0x040 ≤ n ∧ n ≤ 0x050) ∨ (0x060 ≤ n ∧ n ≤ 0x070) ∨ (0x0A0 ≤ n ∧ n ≤ 0x0B0) ∨ (0x0C0 ≤ n ∧ n ≤ 0x0D0)) || [0x006, 0x05F, 0x07F].contains n

/-- One command applied to a tile; none where it breaks a rule by itself. -/
def Tile.applyCommand (x : Tile) (c : Nat × Nat) : Option Tile :=
  let kind := bitField c.1 28 4
  let el := bitField c.1 8 20
  let fd := bitField c.1 0 8
  if kind = 0 then
    if el < 16 ∧ fd < 64 ∧ recordWordOk fd c.2 then some (x.modSlot el fun sl => { sl with record := Words.setWord sl.record fd c.2 }) else none
  else if kind = 1 then
    if el < 3072 then
      some ((x.cleanWords (el * 1024 + fd * 4) 4).setBytes (el * 1024 + fd * 4) (leBytes 4 c.2))
    else none
  else if kind = 2 then
    if el < 1024 ∧ fd < 4 then some { x with edgeTab := Map.set x.edgeTab (4 * el + fd) (BitVec.ofNat 32 c.2) } else none
  else if kind = 3 then
    if el < 4096 ∧ fd = 0 ∧ configWordOk el c.2 then
      let x1 := if configKept el then { x with cwords := Map.set x.cwords el (BitVec.ofNat 32 c.2) } else x
      if 0x0A0 ≤ el ∧ el ≤ 0x0B0 then
        let granted := fun k => decide (bitField c.2 0 5 ≤ k) && decide (k < bitField c.2 0 5 + bitField c.2 5 5)
        some { x1 with
          streams := x1.streams.filter fun e => !granted e.1, keptStreams := x1.keptStreams.filter fun e => !granted e.1 }
      else if 0x0C0 ≤ el ∧ el ≤ 0x0D0 then
        some { x1 with sems := x1.sems.filter fun e => !(decide (bitField c.2 0 5 ≤ e.1) && decide (e.1 < bitField c.2 0 5 + bitField c.2 5 6)) }
      else some x1
    else none
  else if kind = 4 then
    if el < 16 ∧ fd = 0 then some (x.clearSlot el) else none
  else none

/-- The commands of a segment applied in order; the first word of the one that breaks a rule. -/
def Tile.applyCommands (x : Tile) : List (Nat × Nat) → Except Nat Tile
  | [] => .ok x
  | c :: cs => match x.applyCommand c with
    | some y => y.applyCommands cs
    | none => .error c.1

/-- The first words of the commands that configure a record word and a control word. -/
def recordCommand (k i : Nat) : Nat := 2 ^ 8 * k + i
def controlCommand (n : Nat) : Nat := 3 * 2 ^ 28 + 2 ^ 8 * n

/-- Whether two runs of given base and count overlap. -/
def runsOverlap (b n b' n' : Nat) : Bool := decide (0 < n) && decide (0 < n') && decide (b < b' + n') && decide (b' < b + n)

/-- The slots of a tile that hold an actor, the inbox actor slot among them. -/
def Tile.residents (x : Tile) : List Nat := (slotNumbers.filter fun k => !(k == 16) && !((x.slot k).stateCode == 0)) ++ [16]

/-- The windows of resident slots: the control word that gives each (R211). -/
def Tile.windowWords (x : Tile) : List Nat := x.residents.map (0x040 + ·) ++ x.residents.map (0x060 + ·)

/-- Whether a window clashes with another, or reaches the system region or the end of SRAM (R211). -/
def Tile.windowBad (x : Tile) (t n : Nat) : Bool :=
  let w := x.cword n
  decide (0 < winLen w) && (decide (x.sysb t < winBase w + winLen w) || decide (3072 < winBase w + winLen w) ||
    x.windowWords.any fun m => !(m == n) && runsOverlap (winBase w) (winLen w) (winBase (x.cword m)) (winLen (x.cword m)))

/-- Whether a run of streams or semaphores of a resident slot clashes with that of another (R277, R312). -/
def Tile.runBad (x : Tile) (k : Nat) : Option Nat :=
  if x.residents.any fun j => !(j == k) && runsOverlap (x.strBase k) (x.strCount k) (x.strBase j) (x.strCount j) then some (0x0A0 + k)
  else if x.residents.any fun j => !(j == k) && runsOverlap (x.semBase k) (x.semCount k) (x.semBase j) (x.semCount j) then some (0x0C0 + k)
  else none

/-- What R198 asks of the record of a loop exit or entry. -/
def loopRecordOk (sl : Slot) : Bool :=
  (!sl.isExit || (sl.kindCode == 1 && sl.inDecl 0 && !sl.inBounded 0 && sl.inMax 0 == 1 && sl.outDecl 0 && sl.outBounded 0 &&
      sl.outMax 0 == 1 && sl.outDecl 1 && sl.outBounded 1 && sl.outMax 1 == 1)) &&
    (sl.loopK == 0 || decide (sl.outMax 0 ≤ sl.loopK))

/-- The first command that a slot's configuration breaks a rule at, as its tile sees it (R207, R211, R198). -/
def Tile.slotBad (x : Tile) (k : Nat) : Option Nat :=
  let sl := x.slot k
  if sl.budget = 0 then some (recordCommand k 1)
  else if winLen (x.pwin k) = 0 then some (controlCommand (0x040 + k))
  else if !(decide (winBase (x.pwin k) * 1024 ≤ sl.handler) && decide (sl.handler < (winBase (x.pwin k) + winLen (x.pwin k)) * 1024)) then
    some (recordCommand k 0)
  else if !loopRecordOk sl then some (recordCommand k 3)
  else none

/-- A port of slot k whose edge has another width or scale at its other end, by the word that declares it (R207). -/
def State.edgeBad (s : State) (sw t k : Nat) : Option Nat :=
  let sl := s.slot t k
  match sl.inPorts.find? fun p => match s.producer sw (sl.inEdge p) with
    | some (t', k', p') => !((s.slot t' k').outWidth p' == sl.inWidth p && (s.slot t' k').outScaled p' == sl.inScaled p)
    | none => false with
  | some p => some (recordCommand k (8 + 3 * p))
  | none =>
    (sl.outPorts.find? fun p => match s.consumer sw (sl.outEdge p) with
      | some (t', k', p') => !((s.slot t' k').inWidth p' == sl.outWidth p && (s.slot t' k').inScaled p' == sl.outScaled p)
      | none => false).map fun p => recordCommand k (33 + 4 * p)

/-- The queues that slot k needs on its tile: slots and words of a token (R207). -/
def Slot.queueNeeds (sl : Slot) : List (Nat × Nat) := sl.inPorts.map fun p => (sl.inSlots p, sl.inWidth p)

/-- A record newly configured: its maintained fields at their reset values, its slot waiting (R154 to R161). -/
def Slot.configured (sl : Slot) (sw : Nat) : Slot :=
  let r := [4, 5, 6].foldl (fun r i => Words.setWord r i 0) sl.record
  let r1 := Words.setWord (Words.setField r 2 20 6 0) 7 (2 ^ 24)
  let r2 := Words.setField (Words.setField (Words.setField (Words.setField r1 3 26 1 0) 3 24 1 0) 3 16 8 0) 3 8 8 (Words.field r1 3 0 8)
  let r3 := ports.foldl (fun r p => Words.setWord (Words.setWord r (10 + 3 * p) 0) (35 + 4 * p) 0) r2
  { sl with record := r3, swatch := sw, ordinal := 0, age := 0, attempts := 0, inq := [], outq := [] }

/-- The slots that commands in order leave with a record: a KIND 0 command gives a slot one, and a KIND 4 command empties it again (R204,
R205). -/
def configuredSlots (cs : List (Nat × Nat)) : List Nat :=
  cs.foldl (fun l c =>
    let k := bitField c.1 8 20
    if bitField c.1 28 4 = 0 then (if l.contains k then l else l ++ [k])
    else if bitField c.1 28 4 = 4 then l.filter (fun j => !(j == k)) else l) []

/-- A segment applied to tile t of a swatch: the state, or the first word of the command at fault (R205, R207, R211). -/
def State.applySegment (s : State) (sw t : Nat) (g : Segment) : Except Nat State :=
  match (s.tile t).applyCommands g.2 with
  | .error c => .error c
  | .ok y =>
    let written := configuredSlots g.2
    let y1 := written.foldl (fun (y : Tile) k => y.modSlot k fun sl => sl.configured sw) y
    let s1 := s.modConfig t fun _ => y1
    match y1.windowWords.find? (y1.windowBad t) with
    | some n => .error (controlCommand n)
    | none =>
      match y1.residents.findSome? y1.runBad with
      | some n => .error (controlCommand n)
      | none =>
        match (y1.residents.filter fun k => decide (k < 16)).findSome? y1.slotBad with
        | some c => .error c
        | none =>
          match written.findSome? (s1.edgeBad sw t) with
          | some c => .error c
          | none =>
            if Config.queueFits t (y1.loaded.flatMap fun k => (y1.slot k).queueNeeds) then .ok s1
            else .error (recordCommand (written.headD 0) 9)

/-! ### The graph of a launch as a whole (R197, R198, R200, R207) -/

/-- The actors of a launch by tile and slot; an actor of a record table has the selvage and its index in their place. -/
abbrev Graph := List ((Nat × Nat) × Slot)

/-- The records of the record table of a paged launch, those that its tag cannot read apart (R206; log entry 31). -/
def State.tableRecords (s : State) (w : Swatch) : Graph :=
  if w.paged then (List.range (Words.word w.launch 15)).filterMap fun i => (s.pagedRecord w i).map fun r => ((selvage, i), slotOf r) else []

/-- The actors that the cast-on configured, and those of the record table. -/
def State.graph (s : State) (sw : Nat) : Graph :=
  ((s.actorsOf sw).map fun a => (a, s.slot a.1 a.2)) ++ s.tableRecords (s.swatch sw)

/-- The actor and output port from which an edge comes. -/
def Graph.producer (g : Graph) (edge : Nat) : Option (Nat × Nat × Nat × Slot) :=
  g.findSome? fun a => (a.2.outPorts.find? fun p => a.2.outEdge p == edge).map fun p => (a.1.1, a.1.2, p, a.2)

/-- The actor and input port to which an edge goes. -/
def Graph.consumer (g : Graph) (edge : Nat) : Option (Nat × Nat × Nat × Slot) :=
  g.findSome? fun a => (a.2.inPorts.find? fun p => a.2.inEdge p == edge).map fun p => (a.1.1, a.1.2, p, a.2)

/-- The actors that the tokens of a list of actors reach in one edge, an actor apart. -/
def Graph.successors (g : Graph) (stop : Nat × Nat) (l : List (Nat × Nat)) : List (Nat × Nat) :=
  (g.filter fun a => l.contains a.1).flatMap fun a => a.2.outPorts.filterMap fun p =>
    ((g.consumer (a.2.outEdge p)).map fun c => (c.1, c.2.1)).filter fun b => !(b == stop)

/-- The actors reachable from a list without passing through an actor. -/
def Graph.reach (g : Graph) (stop : Nat × Nat) : Nat → List (Nat × Nat) → List (Nat × Nat)
  | 0, l => l
  | fuel + 1, l =>
    let l1 := (l ++ g.successors stop l).eraseDups
    if l1.length = l.length then l else g.reach stop fuel l1

/-- Whether an actor's tokens reach in0 of an actor in one edge (R197). -/
def Graph.feedsIn0 (g : Graph) (a b : Nat × Nat) : Bool :=
  g.any fun e => e.1 == a && e.2.outPorts.any fun p =>
    match g.consumer (e.2.outEdge p) with
    | some (t, k, q, _) => t == b.1 && k == b.2 && q == 0
    | none => false

/-- The region of a loop entry: the entry, the exit, and every actor on a path from entry.out0 to exit.in0 not through the entry; no such path
begins where out0 leads back to the entry (R197). -/
def Graph.loopRegion (g : Graph) (e : (Nat × Nat) × Slot) : List (Nat × Nat) :=
  match g.producer (e.2.inEdge 0), g.consumer (e.2.outEdge 0) with
  | some (xt, xk, _, _), some (ct, ck, _, _) =>
    let fwd := if (ct, ck) = e.1 then [] else g.reach e.1 g.length [(ct, ck)]
    [e.1, (xt, xk)] ++ fwd.filter fun a => !(a == (xt, xk)) && (g.reach e.1 g.length [a]).any fun b => g.feedsIn0 b (xt, xk)
  | _, _ => [e.1]

/-- An actor of a pipelined region that is not pure (R200). -/
def Graph.impure (g : Graph) : Option (Nat × Nat) :=
  (g.filter fun e => decide (1 < e.2.loopK)).findSome? fun e =>
    (g.loopRegion e).find? fun a => g.any fun b => b.1 == a && !(b.2.cls == 0)

/-- A loop entry whose back edge is not out0 of an exit, or an exit whose out0 is not the back edge of an entry (R197, R198). -/
def Graph.loopBad (g : Graph) : Option (Nat × Nat) :=
  (g.find? fun a =>
    let sl := a.2
    (sl.loopK != 0 && !(sl.inDecl 0 && match g.producer (sl.inEdge 0) with
      | some (_, _, p, x) => p == 0 && x.isExit
      | none => false)) ||
    (sl.isExit && !(match g.consumer (sl.outEdge 0) with
      | some (_, _, p, x) => p == 0 && x.loopK != 0
      | none => false))).map (·.1)

/-- Whether a port of an actor has another width or scale at the other end of its edge (R207). -/
def Graph.mismatched (g : Graph) (sl : Slot) : Bool :=
  (sl.inPorts.any fun p => match g.producer (sl.inEdge p) with
    | some (_, _, q, x) => !(x.outWidth q == sl.inWidth p && x.outScaled q == sl.inScaled p)
    | none => false) ||
  sl.outPorts.any fun p => match g.consumer (sl.outEdge p) with
    | some (_, _, q, x) => !(x.inWidth q == sl.outWidth p && x.inScaled q == sl.outScaled p)
    | none => false

/-- What R207 asks of one record of a record table beside the graph. -/
def tableRecordOk (sl : Slot) : Bool :=
  ((List.range 64).all fun i => recordWordOk i (Words.word sl.record i)) && sl.budget != 0 && loopRecordOk sl

/-- A record of the record table that breaks a rule by itself, or at an edge (R207). -/
def State.tableBad (s : State) (sw : Nat) : Option (Nat × Nat) :=
  ((s.tableRecords (s.swatch sw)).find? fun a => !tableRecordOk a.2 || (s.graph sw).mismatched a.2).map (·.1)

/-- The tile and the word of a record at which a launch breaks a rule: a record of its record table, which stands on no tile and in no command,
has the origin and 0 in their place, the model's choice (R207; log entry 31). -/
def State.badAt (s : State) (sw i : Nat) (a : Nat × Nat) : Nat × Nat :=
  if a.1 = selvage then (tileId (s.swatch sw).x0 (s.swatch sw).y0, 0) else (a.1, recordCommand a.2 i)

/-- The tile and the command at which a whole graph breaks a rule (R198, R200, R207). -/
def State.graphBad (s : State) (sw : Nat) : Option (Nat × Nat) :=
  match s.tableBad sw with
  | some a => some (s.badAt sw 0 a)
  | none =>
    match (s.graph sw).loopBad with
    | some a => some (s.badAt sw 3 a)
    | none => (s.graph sw).impure.map (s.badAt sw 1)

/-! ### The steps of a launch (R26) -/

/-- The launch of a swatch ended by a configuration error at a tile and command: the swatch is released (R26, R207, R389). -/
def State.launchFails (s : State) (sw t cmd : Nat) : State :=
  let w := s.swatch sw
  let s1 := s.releaseSwatch sw
  match w.launchHdr with
  | some h => s1.completeWith h 0xE6 (tileX t - w.x0) (tileY t - w.y0) cmd
  | none => s1

/-- The launch of a swatch ended with a status. -/
def State.launchEnds (s : State) (sw status : Nat) : State :=
  let h := (s.swatch sw).launchHdr
  (s.releaseSwatch sw).completeOpt h status

/-- The swatch that a launch allocates (R24). -/
def newSwatch (launch : Words) (va : Nat) (img : Image) (x0 y0 : Nat) (h : Option Hdr) : Swatch :=
  { emptySwatch with
    x0 := x0, y0 := y0, w := Words.field launch 2 0 16, h := Words.field launch 2 16 16, tag := Words.field launch 3 0 13, launch := launch,
    launchVa := va, orderDependent := img.orderDependent, edgeCount := img.edges, paged := Words.field launch 1 0 1 == 1,
    segments := placeSegments x0 y0 img.rows, launchHdr := h }

/-- Whether a launch record's levels and its inbox settings pass the cast-on (R29, R155, R207). -/
def settingsOk (r : Words) : Bool := levelsOk r && recordWordOk 1 (Words.word r 9)

/-- Steps 1 and 2 of R26 for a launch record at an address; a packet's tag other than 0 is that of the context that the record names (R389). A
record whose levels or inbox settings fail the cast-on names no tile and no command: the completion with 0xE6 holds 0 in all three places, a
choice of the model (R29, R389; log entry 24). -/
def State.launch (s : State) (h : Hdr) (va : Nat) : State :=
  match s.readVirt h.tag va 128 with
  | .error c => s.completeStatus h c
  | .ok bytes =>
    let r := Words.ofList (bytesWords bytes)
    if launchMalformed s.variant r ∨ va % 64 ≠ 0 ∨ (h.tag ≠ 0 ∧ h.tag ≠ Words.field r 3 0 13) then (s.blameHdr h).completeStatus h 0xE1
    else if Words.field r 1 0 1 = 1 ∧ s.variant = .w2q then s.completeStatus h 0x02
    else match s.readImage r with
      | .error e => s.completeWith h e.1 0 0 e.2
      | .ok img =>
        match s.chooseOrigin r img with
        | none => s.completeStatus h 0xE4
        | some o =>
          if !settingsOk r then s.completeWith h 0xE6 0 0 0
          else
            { (s.setSwatch s.nextSwatch (newSwatch r va img o.1 o.2 (some h))) with nextSwatch := s.nextSwatch + 1 }

/-- Whether every slot that a segment writes is waiting or empty, with empty input queues and no retained copies (R205). -/
def Tile.followClear (x : Tile) (g : Segment) : Bool :=
  (segmentSlots g).all fun k =>
    let sl := x.slot k
    (sl.stateCode == 0 || sl.stateCode == 1) && (sl.inq.all fun e => e.2.toks.isEmpty) && sl.outq.all fun e => e.2.retained.isEmpty

/-- The segment of a tile applied, if it need not wait; a configuration error ends the launch (R205, R207). -/
def State.takeSegment (s : State) (sw t : Nat) (g : Segment) : State :=
  match s.applySegment sw t g with
  | .ok s1 => s1.modSwatch sw fun w => { w with segments := Map.erase w.segments t }
  | .error c => s.launchFails sw t c

/-- CAST_ON_SEGMENT: a tile takes and applies its segment, or holds one that follows (R205). -/
def execCastOnSegment (sw t : Nat) (s : State) : Out :=
  event (
    let w := s.swatch sw
    match Map.find w.segments t with
    | some g => if w.phase = .casting ∧ (!g.1 || (s.tile t).followClear g) then s.takeSegment sw t g else s
    | none => s)

/-- FOLLOW_HOLD_RELEASE: a held segment is applied once its slots are waiting and empty (R205). -/
def execFollowHoldRelease (sw t : Nat) (s : State) : Out :=
  event (
    let w := s.swatch sw
    match Map.find w.segments t with
    | some g => if w.phase = .casting ∧ g.1 ∧ (s.tile t).followClear g then s.takeSegment sw t g else s
    | none => s)

/-- The scope table of a launch: an entry that its image does not leave free is open, whatever other state it gives, as R195 has the load end
in that state alone, a choice of the model where R194 has the image give STATE (log entry 24); scope 0 has no parent and the top level (R194,
R195). -/
def scopeTable (launch : Words) (ws : List Nat) : Map ScopeEntry :=
  ((List.range 256).filter fun n => ws.getD (4 * n) 0 % 8 != 0).map fun n =>
    let w0 := ws.getD (4 * n) 0
    let parent := if n = 0 then 0 else bitField w0 8 8
    let level := if n = 0 then topLevel launch else bitField w0 4 3
    (n, { emptyScope with words := Words.ofList [1 + 2 ^ 4 * level + 2 ^ 8 * parent] }.publish)

/-- The seeds of a list of bytes (R203). -/
def takeSeeds : Nat → List Byte → List (Nat × Token)
  | 0, _ => []
  | n + 1, bs =>
    let hd := leNat (bs.take 8)
    let w := bitField hd 16 5
    let tok : Token := { words := (bytesWords ((bs.drop 8).take (4 * w))).map (BitVec.ofNat 32), void := false, mark := bitField hd 21 1 == 1, tag := 0 }
    (bitField hd 0 16, tok) :: takeSeeds n (bs.drop (8 + ceilDiv (4 * w) 8 * 8))

/-- The seeds of a launch, read one header after another under its tag (R203). -/
def State.readSeeds (s : State) (tag : Nat) : Nat → Nat → Except Nat (List (Nat × Token))
  | 0, _ => .ok []
  | n + 1, va => do
    let hd ← s.readVirt tag va 8
    let len := 8 + ceilDiv (4 * bitField (leNat hd) 16 5) 8 * 8
    let bs ← s.readVirt tag va len
    let rest ← State.readSeeds s tag n (va + len)
    .ok (takeSeeds 1 bs ++ rest)

/-- The host input edges of the records of a paged launch that are not resident, each with its slots: those that no record produces (R160,
R206). -/
def State.pagedHostEdges (s : State) (w : Swatch) : List (Nat × Nat) :=
  if w.paged then
    let rs := (List.range (Words.word w.launch 15)).filterMap fun i => (s.pagedRecord w i).map slotOf
    let made := rs.flatMap fun sl => sl.outPorts.map sl.outEdge
    rs.flatMap fun sl => (sl.inPorts.filter fun p => !made.contains (sl.inEdge p)).map fun p => (sl.inEdge p, sl.inSlots p)
  else []

/-- The credits of the producers of a swatch: FREE takes the SLOTS of the consumer, and the selvage those of the host input edges (R160). Where
an edge ends at the host, a stream or the copy engine no descriptor gives SLOTS, and FREE keeps what the image gives it, the model's choice
(log entry 32). -/
def State.giveCredits (s : State) (sw : Nat) : State :=
  let s1 := (s.actorsOf sw).foldl (fun s a => (s.slot a.1 a.2).outPorts.foldl (fun s p =>
    match s.consumer sw ((s.slot a.1 a.2).outEdge p) with
    | some (t, k, q) => s.modSlot a.1 a.2 fun sl => sl.setFree p ((s.slot t k).inSlots q)
    | none => s) s) s
  let fromHost := (s1.actorsOf sw).flatMap fun a =>
    ((s1.slot a.1 a.2).inPorts.filter fun p => (s1.producer sw ((s1.slot a.1 a.2).inEdge p)).isNone &&
      bitField ((s1.tile a.1).edgeFlags a.2 ((s1.slot a.1 a.2).inEdge p)) 0 1 == 0).map fun p =>
        ((s1.slot a.1 a.2).inEdge p, (s1.slot a.1 a.2).inSlots p)
  s1.modSwatch sw fun w => { w with
    hostFree := (s1.pagedHostEdges (s1.swatch sw) ++ fromHost).foldl (fun m e => Map.set m e.1 e.2) w.hostFree }

/-- A scope command of the host applied to a loaded table: 0xE7 for a free entry; a release frees the entry (R195, R390). -/
def State.scopeCommand (s : State) (sw : Nat) (h : Hdr) (c : ScopeCmd) (sc : Nat) : State :=
  if ((s.swatch sw).scope sc).stateCode = 0 then s.completeStatus h 0xE7
  else
    match c with
    | .seal => (s.sealScope sw sc).completeStatus h 0
    | .abort => (s.abortScope sw sc 0).completeStatus h 0
    | .release =>
      let hit := s.host.pending.filter fun p => p.2.1 == sw && p.2.2 == sc
      let s1 := s.modSwatch sw fun w => w.setScope sc { w.scope sc with words := [], log := [] }
      let s2 := { s1 with host := { s1.host with pending := s1.host.pending.filter fun p => !(p.2.1 == sw && p.2.2 == sc) } }
      (hit.foldl (fun s p => s.completeStatus p.1 0xE7) s2).completeStatus h 0

/-- Actors of a launch parked, or freed again: each that rests takes state 7, or 1 (R362). -/
def State.parkSwatch (s : State) (sw : Nat) (on : Bool) : State :=
  let s1 := ((s.actorsOf sw).foldl (fun s a => s.modSlot a.1 a.2 fun sl =>
    if on && sl.stateCode == 1 then sl.setState 7 else if !on && sl.stateCode == 7 then sl.setState 1 else sl) s).modSwatch sw
      fun w => { w with parked := on }
  (s1.actorsOf sw).foldl (fun s a => s.dropUnready a.1) s1

/-- Whether a launch is marked deferrable (R202). -/
def Swatch.deferrable (w : Swatch) : Bool := Words.field w.launch 1 3 1 == 1

/-- The scope table and the seeds of a launch taken, packets that wait on a scope which it leaves free completed, and the scope commands held
for the table applied (R26 steps 4 and 5, R390); the cause where one of them cannot be read. -/
def State.loadTable (s : State) (sw : Nat) : Except Nat State := do
  let w := s.swatch sw
  let table ← s.readVirt w.tag (Words.dword w.launch 10) 4096
  let seeds ← s.readSeeds w.tag (Words.word w.launch 14) (Words.dword w.launch 12)
  let s1 := s.modSwatch sw fun w =>
    { w with scopes := scopeTable w.launch (bytesWords table), tableLoaded := true, seeds := seeds, heldCmds := [] }
  let hit := s1.host.pending.filter fun p => p.2.1 == sw && ((s1.swatch sw).scope p.2.2).stateCode == 0
  let s2 := { s1 with host := { s1.host with pending := s1.host.pending.filter fun p => !hit.contains p } }
  .ok (w.heldCmds.foldl (fun s c => s.scopeCommand sw c.1 c.2.1 c.2.2) (hit.foldl (fun s p => s.completeStatus p.1 0xE7) s2))

/-- The LAUNCH packet of a swatch completes with 0 and the swatch's number. -/
def State.launchDone (s : State) (sw : Nat) : State :=
  let h := (s.swatch sw).launchHdr
  let s1 := s.modSwatch sw fun w => { w with launchHdr := none }
  match h with
  | some h => s1.completeWith h 0 0 0 sw
  | none => s1

/-- CONFIGURATION_COMPLETE: every tile has acknowledged; the scope table is loaded, held scope commands are applied, the gates open and the
seeds enter. A pre-emption asked for meanwhile begins first, before the table is loaded (R26). A table or a seed list that cannot be read ends
the launch as an image does that cannot be read, a choice of the model, as R26 names the record and the image alone (log entry 24). -/
def execConfigurationComplete (sw : Nat) (s : State) : Out :=
  event (
    let w := s.swatch sw
    if s.liveSwatch sw ∧ w.phase = .casting ∧ w.segments.isEmpty then
      match s.graphBad sw with
      | some e => s.launchFails sw e.1 e.2
      | none =>
        let s1 := (s.giveCredits sw).modSwatch sw fun w => { w with phase := if w.stop.isSome then .stopping else .open_ }
        match w.preempt with
        | some p => s1.beginPreempt sw p.1 p.2
        | none =>
          match s1.loadTable sw with
          | .error c => s.launchEnds sw c
          | .ok s2 =>
            let s3 := s2.modSwatch sw fun w => { w with gates := w.stop.isNone && !s.power.failing }
            let s4 := if w.deferrable && decide (4 ≤ s.power.step) then s3.parkSwatch sw true else s3
            (s4.inject sw).launchDone sw
    else s)

end Sys2Proof.Machine
end

