-- ==== Sys2Proof/Machine/Memsys.lean ====
section
/-! DEFINITION. Stations, walkers, memory actors and watches (R296 to R302, R324 to R326, R329 to R332). -/

namespace Sys2Proof.Machine

/-! ### Translation (R298, R300, R301) -/

/-- The rights that a probe asks for (R300). -/
def XlateProbe.need (p : XlateProbe) : Nat := needRights p.write p.atomic p.watch

def XlateProbe.va (p : XlateProbe) : Nat := p.vpage * 4096

/-- The reply to a probe. -/
def XlateProbe.reply (p : XlateProbe) (page : Option Nat) (cause : Nat) : ProbeReply :=
  { op := p.op, vpage := p.vpage, write := p.write, page := page, cause := cause }

/-- The cached translation of a station that covers an address of a tag (R301). -/
def State.cached (s : State) (station tag va : Nat) : Option Xlation :=
  (Map.get [] s.xlations station).find? fun x => x.tag == tag && decide (x.base ≤ va) && decide (va < x.base + x.size)

/-- Walks under way at a station, one for each tag and page (R301). -/
def State.walking (s : State) (station : Nat) : List (Nat × Nat) :=
  ((s.xprobes.filter fun p => p.walking && s.home p.tag p.va == station).map fun p => (p.tag, p.vpage)).eraseDups

/-- The physical page of an address in a translation. -/
def Xlation.page (x : Xlation) (va : Nat) : Nat := (x.pa + (va - x.base)) / 4096

/-- The way of a probe that has not been taken: its tile and its home station. -/
def State.probeWay (s : State) (p : XlateProbe) : Option (List Nat) := if p.walking then none else some [p.op.tile, s.home p.tag p.va]

/-- The way of a reply to a probe. -/
def State.probeReplyWay (s : State) (p : ProbeReply) : Option (List Nat) := some [s.home (s.opTag p.op) (p.vpage * 4096), p.op.tile]

/-- The way of a request that has not been taken: its tile, the station at which it enters the ring, its memory actor. -/
def MemReq.way (r : MemReq) : Option (List Nat) := if r.held then none else some [r.op.tile, r.station, r.actor]

/-- The way of a reply of a memory actor. -/
def MemReply.way (p : MemReply) : Option (List Nat) := some [p.actor, p.station, p.op.tile]

/-- TRANSLATION_PROBE: the station answers from its cache; an entry that refuses for want of a right is dropped; on a miss one of its 64
walkers starts, or a walk of the same page is shared (R298, R301). -/
def execTranslationProbe (i : Nat) (s : State) : Out :=
  event (match s.xprobes[i]? with
    | none => s
    | some p =>
      if p.walking || !isFirst s.probeWay s.xprobes i then s
      else
        let st := s.home p.tag p.va
        match s.cached st p.tag p.va with
        | some x =>
          let s1 := { s with xprobes := s.xprobes.eraseIdx i }
          if hasRights x.rights p.need then { s1 with probeReplies := s1.probeReplies ++ [p.reply (some (x.page p.va)) 0] }
          else
            { s1 with
              probeReplies := s1.probeReplies ++ [p.reply none 0x11]
              xlations := Map.set s1.xlations st ((Map.get [] s1.xlations st).filter fun y => !(y == x)) }
        | none =>
          let w := s.walking st
          if w.contains (p.tag, p.vpage) ∨ w.length < 64 then { s with xprobes := s.xprobes.modify i fun p => { p with walking := true } } else s)

/-- PAGE_WALK: a walk ends; every probe that shares it is answered, and a translation that refused none is cached, 16,384 at most (R301). -/
def execPageWalk (i : Nat) (s : State) : Out :=
  event (match s.xprobes[i]? with
    | none => s
    | some p =>
      if !p.walking then s
      else
        let shares := fun (q : XlateProbe) => q.walking && q.tag == p.tag && q.vpage == p.vpage
        let mine := s.xprobes.filter shares
        let s1 := { s with xprobes := s.xprobes.filter fun q => !shares q }
        match s.walk p.tag p.va with
        | .error c => { s1 with probeReplies := s1.probeReplies ++ mine.map fun q => q.reply none c }
        | .ok x =>
          let st := s.home p.tag p.va
          let ok := mine.all fun q => hasRights x.rights q.need
          let old := Map.get [] s1.xlations st
          { s1 with
            probeReplies := s1.probeReplies ++ mine.map fun q =>
              if hasRights x.rights q.need then q.reply (some (x.page q.va)) 0 else q.reply none 0x11
            xlations := if ok then Map.set s1.xlations st ((x :: old.filter fun y => !(y == x)).take 16384) else s1.xlations })

/-! ### Probe replies and faults (R298, R302, R303) -/

/-- Atomic or watch id of a tile. -/
def Tile.atomic? (x : Tile) (id : Nat) : Option Atomic := x.atomics.find? fun a => a.id == id

/-- What an atomic asks of its memory actor, and the watch that an AWATCH asks of its station (R324, R326). -/
def State.sendAtomic (s : State) (o : OpRef) (id pa : Nat) : State :=
  match (s.tile o.tile).atomic? id with
  | none => s
  | some a =>
    let g := { a.eng with outstanding := [{ seq := a.eng.seq, first := 0, count := 1, write := false, data := none, losses := 0 }], seq := a.eng.seq + 1, probing := none }
    let s1 := s.setOpEngine o g
    if a.op = 9 then
      { s1 with watches := s1.watches ++
          [{ op := o, seq := a.eng.seq, actor := s.owner pa, pa := pa, cond := a.cond, size := a.size, unsigned_ := a.unsigned_, d := a.d, waiting := true }] }
    else
      { s1 with memReqs := s1.memReqs ++
          [{ op := o, station := s.home (s.opTag o) a.addr, seq := a.eng.seq, pred := none, actor := s.owner pa, pa := pa, kind := .atomic a.op a.size a.unsigned_ a.d a.b, held := false }] }

/-- The virtual address at which an operation stands: the next element or word, or the atomic's location. -/
def State.opAddress (s : State) (o : OpRef) (vpage : Nat) : Nat :=
  let x := s.tile o.tile
  match o.key with
  | .stream k =>
    let r := x.stream k
    let n := (x.run k).begun
    if strDstKind r = 1 then strDstAddr r n else strSrcAddr r n
  | .copy id =>
    match x.copy? id with
    | some c =>
      let src := copyAddr c.src + c.begun
      let dst := copyAddr c.dst + (c.eng.outstanding.head?.map (·.first)).getD c.begun
      max (vpage * 4096) (if copyDram c.src && src / 4096 == vpage then src else dst)
    | none => vpage * 4096
  | .atomic id => ((x.atomic? id).map (·.addr)).getD 0
  | .watch id => ((x.atomic? id).map (·.addr)).getD 0

/-- Whether an operation is a stream that stops by SSTOP, or one that stops at a boundary it can no longer reach. -/
def State.stoppingStream (s : State) (o : OpRef) : Bool :=
  match o.key with
  | .stream k => strState ((s.tile o.tile).stream k) == 5
  | _ => false

/-- Whether an operation is a stream that pushes the voids of its fatal end. -/
def State.voidingStream (s : State) (o : OpRef) : Bool :=
  match o.key with
  | .stream k => ((s.tile o.tile).run k).voiding
  | _ => false

/-- A fault of a translation probe: cause 0x12 ends the operation; otherwise it pauses at an element boundary, with everything before it
performed, and sends a notice; a stopping stream, which pauses no more, stops where it stands (R279, R302, R303; log entry 14). -/
def State.probeFault (s : State) (o : OpRef) (g : Engine) (p : ProbeReply) : State :=
  let va := s.opAddress o p.vpage
  let s1 := s.setOpEngine o { g with probing := none }
  if s.voidingStream o then s1
  else if p.cause = 0x12 then s1.endFatal o 0x12 va
  else if s.stoppingStream o then
    match o.key with
    | .stream k => s1.finishOp o ((s.tile o.tile).run k).stopStatus
    | _ => s1
  else s1.pauseOp o g p.cause va

/-- PROBE_REPLY: the engine learns the page, or pauses once what it has begun is performed; an atomic or watch goes on its way (R298, R302,
R325). -/
def execProbeReply (i : Nat) (s : State) : Out :=
  event (match s.probeReplies[i]? with
    | none => s
    | some p =>
      let s1 := { s with probeReplies := s.probeReplies.eraseIdx i }
      if !isFirst s.probeReplyWay s.probeReplies i then s
      else match s.opEngine p.op with
      | none => s1
      | some g =>
        match p.page with
        | none => if g.outstanding.all fun q => q.data.isSome then s1.probeFault p.op g p else s
        | some pg =>
          match p.op.key with
          | .atomic id => s1.sendAtomic p.op id (pg * 4096 + s.opAddress p.op p.vpage % 4096)
          | .watch id => s1.sendAtomic p.op id (pg * 4096 + s.opAddress p.op p.vpage % 4096)
          | _ =>
            let known : PageInfo := { vpage := p.vpage, ppage := pg, write := p.write }
            s1.setOpEngine p.op { g with pages := known :: g.pages.filter fun q => !(q.vpage == p.vpage && q.write == p.write), probing := none })

/-- The way of a notice that the selvage has not taken. -/
def Notice.way (n : Notice) : Option (List Nat) := if n.stage = 0 then some [n.op.tile] else none

/-- FAULT_NOTICE: the selvage takes a notice, those of one tile in the order in which they were sent, and passes it to the owner; a withdrawn one
it drops (R136, R302). -/
def execFaultNotice (i : Nat) (s : State) : Out :=
  event (match s.notices[i]? with
    | some n =>
      if n.stage = 0 ∧ isFirst Notice.way s.notices i then
        { s with notices := s.notices.modify i (fun n => { n with stage := 1 }), host := { s.host with notices := s.host.notices ++ [.fault n.id] } }
      else s
    | none => s)

/-! ### Memory actors (R298, R324, R326, R329) -/

/-- Whether the request before a request, of the same operation to the same actor, has been performed (R298). -/
def State.predDone (s : State) (r : MemReq) : Bool :=
  match r.pred with
  | none => true
  | some p => s.performed.any fun e => e.1 == r.actor && e.2.1 == r.op && decide (p ≤ e.2.2)

/-- The latest request of an operation that an actor has performed is noted. -/
def State.notePerformed (s : State) (r : MemReq) : State :=
  { s with performed := (r.actor, r.op, r.seq) :: s.performed.filter fun e => !(e.1 == r.actor && e.2.1 == r.op) }

/-- The new value of an atomic, if it writes, and its flag (R324). -/
def atomicResult (op bits : Nat) (uns : Bool) (x v c : Nat) : Option Nat × Nat :=
  if op = 0 then (some ((x + v) % 2 ^ bits), 0)
  else if op = 1 then (some (x &&& v), 0)
  else if op = 2 then (some (x ||| v), 0)
  else if op = 3 then (some (x ^^^ v), 0)
  else if op = 4 then (some (if asOrdered bits uns v < asOrdered bits uns x then v else x), 0)
  else if op = 5 then (some (if asOrdered bits uns x < asOrdered bits uns v then v else x), 0)
  else if op = 6 then (some v, 0)
  else if op = 7 then (if x = v then (some c, 1) else (none, 0))
  else (some ((x + v) % 2 ^ 128), 0)

/-! #### The service order of the memory actors (R329 to R332) -/

/-- The place in the service order of an actor of a read of n bytes from a that must stand after seen: before the latest of the writes there
that no rule orders before it (log entry 8). -/
def State.dramPlace (s : State) (node : Nat) (seen : Stamp) (a n : Nat) : Stamp :=
  readPlace (s.dramOrder.writesAfter seen node a n) seen (Config.stale s.tick node a)

/-- The n bytes from a as the writes at an actor up to place p left them. -/
def State.dramBytesAt (s : State) (p : Stamp) (node a n : Nat) : List Byte :=
  (s.physRead a n).zipIdx.map fun e => s.dramOrder.byteAt p node (a + e.2) e.1

/-- The place of a write of n bytes to a, or of an atomic there, that must stand after seen: after the reads of its bytes as well, and before
the latest of the other writes at the actor that no rule orders before it (log entry 8). -/
def State.dramStamp (s : State) (node : Nat) (seen : Stamp) (a n : Nat) : Stamp :=
  s.dramOrder.newStamp (s.dramOrder.writeFloor seen node a n) node (Config.stale s.tick node a)

/-- One access that writes, at its place; memory holds what no later write has replaced, and the watches are checked. -/
def State.dramAccess (s : State) (p : Stamp) (node a : Nat) (bs : List Byte) : State :=
  ({ s with
    dram := Memory.writeCells s.dram ((s.dramOrder.standing p node a bs).filter fun e => decide (e.1 < memBytes s.variant))
    dramOrder := s.dramOrder.insert p node a (s.dramBytesAt p node a bs.length) bs false } : State).checkWatches a bs.length

/-- How far an operation's accesses at a memory actor have come. -/
def State.dramSeen (s : State) (o : OpRef) (node : Nat) : Stamp := Map.get Stamp.zero (((s.opEngine o).map (·.reach.dram)).getD []) node

/-- An access of an operation at an actor has come to a place. -/
def State.noteDram (s : State) (o : OpRef) (seq node : Nat) (p : Stamp) : State :=
  match s.opEngine o with
  | some g =>
    (s.setOpEngine o { g with reach := g.reach.join (View.reach [(node, p)]) }).modTile o.tile fun x =>
      x.coverAccess o.key seq (View.reach [(node, p)])
  | none => s

/-- Bytes of one access of an operation: an element up to 8, a word of a copy (R291, R329). -/
def State.accessSize (s : State) (o : OpRef) : Nat :=
  match o.key with
  | .stream k => min 8 (strElem ((s.tile o.tile).stream k))
  | _ => 4

/-- The n bytes that a request reads, access by access in the operation's order, the state with the reads kept, and the place of the last. -/
def State.readRequest (s : State) (r : MemReq) (n : Nat) : List Byte × State × Stamp :=
  (chunks (s.accessSize r.op) r.pa n).foldl (fun acc p =>
    let q := acc.2.1.dramPlace r.actor acc.2.2 p.1 p.2
    (acc.1 ++ acc.2.1.dramBytesAt q r.actor p.1 p.2,
      { acc.2.1 with dramOrder := acc.2.1.dramOrder.noteRead q r.actor p.1 p.2 }, q)) ([], s, s.dramSeen r.op r.actor)

/-- The bytes of a request written, access by access in the operation's order, and the place of the last. -/
def State.writeRequest (s : State) (r : MemReq) (bs : List Byte) : State × Stamp :=
  (chunks (s.accessSize r.op) r.pa bs.length).foldl (fun acc p =>
    let q := acc.1.dramStamp r.actor acc.2 p.1 p.2
    (acc.1.dramAccess q r.actor p.1 ((bs.drop (p.1 - r.pa)).take p.2), q)) (s, s.dramSeen r.op r.actor)

def State.memReply (s : State) (r : MemReq) (data : List Byte) (flag : Nat) : State :=
  { s with
    memReplies := s.memReplies ++
      [{ op := r.op, station := r.station, actor := r.actor, seq := r.seq, data := data, flag := flag, again := none }] }

/-- A request performed by its memory actor (R298, R324, R329). -/
def State.performRequest (s : State) (r : MemReq) : State :=
  let s1 := s.notePerformed r
  match r.kind with
  | .read n =>
    let d := s1.readRequest r n
    (d.2.1.noteDram r.op r.seq r.actor d.2.2).memReply r d.1 0
  | .write bs =>
    let d := s1.writeRequest r bs
    (d.1.noteDram r.op r.seq r.actor d.2).memReply r [] 0
  | .atomic op size uns d b =>
    let n := atomBytes size
    let p := s1.dramStamp r.actor (s1.dramSeen r.op r.actor) r.pa n
    let x := leNat (s1.dramBytesAt p r.actor r.pa n)
    let v := if op = 8 then d.toNat + b.toNat * 2 ^ 64 else d.toNat % 2 ^ (8 * n)
    let y := atomicResult op (8 * n) uns x v (b.toNat % 2 ^ (8 * n))
    let s2 := match y.1 with
      | some w => s1.dramAccess p r.actor r.pa (leBytes n w)
      | none => { s1 with dramOrder := s1.dramOrder.noteRead p r.actor r.pa n }
    (s2.noteDram r.op r.seq r.actor p).memReply r (leBytes n x) y.2
  | .watch _ _ _ _ => s1

/-- Requests held in the reorder store of a memory actor. -/
def State.heldAt (s : State) (actor : Nat) : Nat := (s.memReqs.filter fun r => r.held && r.actor == actor).length

/-- MEMORY_REQUEST: performed once its predecessor has been; held until then in a store of 2,048, or refused with a retry reply (R298). -/
def execMemoryRequest (i : Nat) (s : State) : Out :=
  event (match s.memReqs[i]? with
    | none => s
    | some r =>
      let s1 := { s with memReqs := s.memReqs.eraseIdx i }
      if !isFirst MemReq.way s.memReqs i then s
      else if s.predDone r then s1.performRequest r
      else if r.held then s
      else if s.heldAt r.actor < 2048 then { s with memReqs := s.memReqs.modify i fun r => { r with held := true } }
      else { s1 with memReplies := s1.memReplies ++ [{ op := r.op, station := r.station, actor := r.actor, seq := r.seq, data := [], flag := 0, again := some r }] })

/-- Data returned for a request kept with it. -/
def Engine.setData (g : Engine) (seq : Nat) (data : List Byte) (flag : Nat) (isAtomic : Bool) : Engine :=
  { g with outstanding := g.outstanding.map fun o =>
      if o.seq = seq then { o with data := some data, first := if isAtomic then flag else o.first } else o }

/-- MEMORY_REPLY: the engine completes the access; read data is applied in the operation's order, pushing tokens where a port is its
destination; a refused request is sent again (R283, R290, R298). -/
def execMemoryReply (i : Nat) (s0 : State) : Out :=
  event (match s0.memReplies[i]? with
    | none => s0
    | some p =>
      let s := { s0 with memReplies := s0.memReplies.eraseIdx i }
      if !isFirst MemReply.way s0.memReplies i then s0
      else match s.opEngine p.op with
      | none => s
      | some g =>
        match p.again with
        | some r => { s with memReqs := s.memReqs ++ [{ r with held := false }] }
        | none =>
          let isWrite := g.outstanding.any fun o => o.seq == p.seq && o.write
          if isWrite then s.ackWrite p.op g p.seq
          else match p.op.key with
            | .stream k => (s.setOpEngine p.op (g.setData p.seq p.data 0 false)).absorbStream p.op.tile k (g.outstanding.length + 1)
            | .copy id => (s.setOpEngine p.op (g.setData p.seq p.data 0 false)).absorbCopy p.op.tile id (g.outstanding.length + 1)
            | _ => s.setOpEngine p.op (g.setData p.seq p.data p.flag true))

/-- WATCH_REGISTER: a waiting watch registers where its station has fewer than 1,024 and none waits before it; it is answered at once where
its condition holds (R326). -/
def execWatchRegister (i : Nat) (s : State) : Out :=
  event (match s.watches[i]? with
    | none => s
    | some w =>
      if !w.waiting || (s.watches.take i).any (fun v => v.waiting && v.actor == w.actor) ||
          !decide ((s.watches.filter fun v => !v.waiting && v.actor == w.actor).length < 1024) then s
      else if s.watchNow w then s.watchReply w 1
      else { s with watches := s.watches.modify i fun w => { w with waiting := false } })

/-- What an engine has learnt of pages and predecessors forgotten: it probes afresh. -/
def Engine.forget (g : Engine) : Engine := { g with pages := [], probing := none, lastReq := [] }

def Tile.forgetPages (x : Tile) : Tile :=
  { x with
    runs := x.runs.map fun r => (r.1, { r.2 with eng := r.2.eng.forget })
    copies := x.copies.map fun c => { c with eng := c.eng.forget } }

/-- HOME_LIST_REBUILD: a station or memory actor retires. With every request and probe answered, the operations standing at an element
boundary, the lists are rebuilt, what the engines knew of pages and predecessors is learnt afresh (R297), and every write has taken its place. -/
def execHomeListRebuild (station : Bool) (n : Nat) (s : State) : Out :=
  event (
    if s.memReqs.isEmpty && s.memReplies.isEmpty && s.xprobes.isEmpty && s.probeReplies.isEmpty then
      let s1 : State := { s with performed := [], dramOrder := s.dramOrder.settle, tiles := s.tiles.map fun e => (e.1, e.2.forgetPages) }
      if station then { s1 with stations := s1.stations.filter fun m => !(m == n), xlations := Map.erase s1.xlations n }
      else
        let actors := s1.actors.filter fun m => !(m == n)
        { s1 with actors := actors, watches := s1.watches.map fun w => { w with actor := ({ s1 with actors := actors } : State).owner w.pa } }
    else s)

end Sys2Proof.Machine
end

