-- ==== Sys2Proof/Machine/Link.lean ====
section
/-! DEFINITION. Links, lanes, paths, the gauge and the rebinding of a tile (R127, R133, R137 to R145). -/

namespace Sys2Proof.Machine

/-! ### Records under a physical tile (R152) -/

/-- The logical tile that a physical tile hosts. -/
def State.hostedOn (s : State) (p : Nat) : Option Nat := (s.nodeAt p).filter fun n => decide (n < selvage)

/-- A record under a physical tile, with the coordinate that it hosts, or 0xFFFF where it hosts none (R152). -/
def State.writeErrorAt (s : State) (p cause unit_ flags edge detail : Nat) : State :=
  let f := s.fieldOfPhys p
  let s1 := s.advanceField f
  let h := s1.physTile p
  let e := errorBytes p ((s.hostedOn p).getD 0xFFFF) cause unit_ 0xFF flags (Map.get 0 s1.fieldCtr f) 0 edge detail
  { s1 with phys := Map.set s1.phys p { h with errors := (e :: h.errors).take 16, errorCount := h.errorCount + 1 } }

/-! ### Physical links (R12, R142, R143) -/

/-- FLIT_CRC_ERROR: the link replays from the bad flit; the eighth failure in a row of one flit starts lane diagnosis (R142). -/
def execFlitCrcError (link : Nat) (s : State) : Out :=
  event (
    let l := Map.get healthyLink s.links link
    if l.diagnosing then s
    else
      let n := if Config.flitPassed s.tick link then 1 else l.failing + 1
      { s with links := Map.set s.links link { l with failing := n, diagnosing := decide (8 ≤ n) } })

/-- LANE_DIAGNOSIS: the failing lanes of a link found; spares replace them as far as they go, and a record names the link (R142, R143, R152).
Which lane the record names is free (log entry 12). -/
def execLaneDiagnosis (link failing : Nat) (s : State) : Out :=
  event (
    let l := Map.get healthyLink s.links link
    if l.diagnosing then
      ({ s with links := Map.set s.links link { failing := 0, badLanes := l.badLanes + failing, diagnosing := false } } : State).writeErrorAt (link / 4)
        0x21 9 0 (link % 4) (Config.openWord s.tick link).toNat
    else s)

/-! ### Remap and gauge entries (R133, R137 to R140) -/

/-- The remap entry of a logical hop, the gauge entry and CW.NPTR written whole, the view's generation advancing before and after (R137 to
R140). -/
def State.setHop (s : State) (t dir : Nat) (ds : List Nat) (band : Nat) : State :=
  if s.hasNeighbour t dir then
    let g := s.composeGauge t ds band
    { s.modTile t fun x => { x with
        gauge := Map.set x.gauge dir (BitVec.ofNat 32 g)
        nptr := Map.set x.nptr dir (BitVec.ofNat 32 (s.composeNptr t dir (bitField g 0 2))) } with gaugeGen := s.gaugeGen + 2 }
  else s

/-- A hop put on one of its legal paths, where it has one, with the band measured there: the one asked for, else one that firmware chooses (R133,
R143; log entry 10). -/
def State.remapHop (s : State) (t dir : Nat) (asked : Option Nat) : Option State :=
  match asked.filter (s.legalPath t dir) with
  | some e => some (s.setHop t dir (pathDirs e) (bitField e 2 4))
  | none =>
    let c := Config.reroute s.tick t dir
    (s.pickPath t dir c.1).map fun ds => s.setHop t dir ds c.2

/-- REMAP_ENTRY_CHANGE: a control wave rewrites the entry of a hop to another legal path. The wave quiesces the hop first, the whole within
one step, so that nothing sent over the old path comes after what is sent over the new one (R136, R137). -/
def execRemapEntryChange (t dir entry : Nat) (s : State) : Out :=
  event (
    if dir < 4 ∧ s.hasNeighbour t dir ∧ s.legalPath t dir entry then s.setHop t dir (pathDirs entry) (bitField entry 2 4) else s)

/-- GAUGE_REFRESH: the band of a path measured afresh, the entry written whole (R139). -/
def execGaugeRefresh (t dir entry : Nat) (s : State) : Out :=
  event (if dir < 4 then s.setHop t dir (pathDirs (s.gaugeOf t dir).toNat) (bitField entry 2 4) else s)

/-- FIELD_OFFSET_MEASUREMENT: the offset record of a field toward a neighbour field published (R30, R141). -/
def execFieldOffsetMeasurement (f dir : Nat) (offset : Int) (unc : Nat) (drift : Int) (s : State) : Out :=
  event (
    if dir < 4 ∧ s.fieldHas f dir then
      { s with offsets := Map.set s.offsets (4 * f + dir) (offset, unc % 2 ^ 32, drift), gaugeGen := s.gaugeGen + 2 }
    else s)

/-! ### What a path that goes down loses (R144, R304) -/

/-- A request or reply of an operation lost: it is sent again, and at the fourth loss the operation ends with 0x21 (R304). -/
def State.loseAccess (s : State) (o : OpRef) (seq addr : Nat) : State :=
  match s.opEngine o with
  | none => s
  | some g =>
    match g.outstanding.find? fun q => q.seq == seq with
    | none => s
    | some q =>
      if q.losses < 3 then
        s.setOpEngine o { g with outstanding := g.outstanding.map fun q => if q.seq = seq then { q with losses := q.losses + 1 } else q }
      else ({ s with
        memReqs := s.memReqs.filter fun r => !(r.op == o), memReplies := s.memReplies.filter fun r => !(r.op == o) } : State).endFatal o 0x21 addr

/-- The last cause and the record of a slot whose firing is over, as a launch has the slot (R185). -/
def State.noteCause (s : State) (t k sw cause unit_ edge : Nat) : State :=
  let sl := s.slotIn t k sw
  (s.writeError t cause unit_ k (if sl.disp = 0 then 8 else 0) sl.tag edge 0).modSlot t k fun sl => sl.setCause cause

/-- A cause charged to a slot whose firing is over: the record, and what the disposition does beyond a firing. -/
def State.chargeSlot (s : State) (t k sw cause unit_ edge : Nat) : State :=
  let sl := s.slotIn t k sw
  let s1 := s.noteCause t k sw cause unit_ edge
  if sl.disp = 0 then s1.addVoid sl.swatch sl.scopeNo
  else if sl.disp = 1 then s1.abortScope sl.swatch sl.scopeNo cause
  else s1.stopSwatch sl.swatch cause t k

/-- The slot that sent a message or a remote arrival; none for other traffic (R307). -/
def Packet.issuer (p : Packet) : Option Nat :=
  match p.body with
  | .message _ words => some (bitField (words.getD 1 0).toNat 24 8)
  | .arrival _ _ _ k _ => some k
  | _ => none

/-- The logical hops from tile a to tile b, along the row and then along the column (R134). -/
def hopsTo (a b : Nat) : List (Nat × Nat) :=
  let c := tileId (tileX b) (tileY a)
  ((List.range (tileX b - tileX a)).map fun i => (a + i, 1)) ++ ((List.range (tileX a - tileX b)).map fun i => (a - i, 3)) ++
    ((List.range (tileY b - tileY a)).map fun i => (c + 256 * i, 2)) ++ (List.range (tileY a - tileY b)).map fun i => (c - 256 * i, 0)

/-- The hops of a packet; host traffic enters and leaves at the west end of the row of its tile (R134, R296, R390). -/
def Packet.hops (p : Packet) : List (Nat × Nat) :=
  if p.src = selvage then hopsTo (tileId 0 (tileY p.dst)) p.dst
  else if p.dst = selvage then hopsTo p.src (tileId 0 (tileY p.src))
  else hopsTo p.src p.dst

/-- What was in the replay buffers of the path of a hop that goes down is lost: tokens and slot returns are sent again in order, so that they
stay on their way; messages and arrivals are lost for good; memory requests and replies are sent again (R144, R296). Which of what crosses
the hop was there is open (log entry 2). -/
def State.loseFlits (s : State) (t dir : Nat) : State :=
  let lost := fun (base i : Nat) (hops : List (Nat × Nat)) => hops.contains (t, dir) && Config.lost s.tick (3 * i + base)
  let stays := fun (e : Packet × Nat) => e.1.issuer.isNone || !lost 0 e.2 e.1.hops
  let s1 : State := { s with net := (s.net.zipIdx.filter stays).map (·.1) }
  let s2 := (s.net.zipIdx.filter fun e => !stays e).foldl
    (fun s e => s.chargeSlot e.1.src (e.1.issuer.getD 0) e.1.sender.1 0x21 9 dir) s1
  let s3 := (s.memReqs.zipIdx.filter fun e => !e.1.held && lost 1 e.2 (hopsTo e.1.op.tile (gateway s.variant e.1.station))).foldl
    (fun s e => s.loseAccess e.1.op e.1.seq 0) s2
  (s.memReplies.zipIdx.filter fun e => e.1.again.isNone && lost 2 e.2 (hopsTo (gateway s.variant e.1.station) e.1.op.tile)).foldl
    (fun s e => s.loseAccess e.1.op e.1.seq 0) s3

/-! ### A node that changes its host (R145) -/

/-- A node bound to a spare; the old host is the former holder (R145, R153). -/
def State.bindNode (s : State) (n spare : Nat) : State :=
  { s with
    phys := Map.set s.phys spare { s.physTile spare with former := some (s.physOf n) }, binding := Map.set s.binding n spare }

/-- The logical coordinate t bound to a spare: the hops from it and to it take legal paths there, and the tile goes on with its whole state
(R145, R153). -/
def State.rebindTile (s : State) (t spare : Nat) : State :=
  let s1 := (s.bindNode t spare).modTile t fun x => { x with cycles := Config.spareCycles s.tick t % 2 ^ 64, gating := .running }
  [0, 1, 2, 3].foldl (fun s d =>
    if s.hasNeighbour t d then
      let s' := (s.remapHop t d none).getD s
      (s'.remapHop (neighbour t d) (opposite d) none).getD s'
    else s) s1

/-! ### Paths that go down (R143) -/

/-- A hop that stays down: its gauge entry shows it, and every swatch that contains it stops with 0x21 (R143). -/
def State.hopDown (s : State) (t dir : Nat) : State :=
  let g := (s.gaugeOf t dir).toNat
  let s1 := s.setHop t dir (pathDirs g) (bitField g 2 4)
  ((Map.keys s.swatches).filter fun n => (s.swatch n).tiles.contains t && (s.swatch n).tiles.contains (neighbour t dir)).foldl
    (fun s n => s.stopSwatch n 0x21 t 0xFF) s1

/-- One end of a hop rebound to a spare, the leaving end before the other, where either has one that fits (R143). -/
def State.rebindEnd (s : State) (t dir hint : Nat) : Option State :=
  match s.chooseSpare t hint with
  | some p => some (s.rebindTile t p)
  | none => (s.chooseSpare (neighbour t dir) hint).map (s.rebindTile (neighbour t dir))

/-- What a path's going down asks of firmware: the path to remap to, and the spare to rebind to. -/
def altPath : PathAlt → Option Nat
  | .remap entry => some entry
  | _ => none

def altSpare : PathAlt → Nat
  | .rebind p => p
  | _ => 0

/-- PATH_DOWN: what the path carried is lost; firmware remaps the hop onto a legal path, else rebinds one end of it to a spare, else leaves
it down (R143, R144). -/
def execPathDown (t dir : Nat) (alt : PathAlt) (s : State) : Out :=
  event (
    if !(decide (dir < 4) && s.hasNeighbour t dir && s.pathState t (s.gaugeOf t dir).toNat == 2) then s
    else
      let s1 := (s.writeError t 0x21 9 0xFF 0 0 dir 0).loseFlits t dir
      match s1.remapHop t dir (altPath alt) with
      | some s2 => s2
      | none => (s1.rebindEnd t dir (altSpare alt)).getD (s1.hopDown t dir))

end Sys2Proof.Machine
end

