-- ==== Sys2Proof/Machine/Parity.lean ====
section
/-! DEFINITION. Soft errors, parity, darning and the loss of a tile (R14, R147, R222 to R225, R304, R350, R351). -/

namespace Sys2Proof.Machine

/-! ### The scrubber (R223 to R225) -/

/-- The swatch and slot in whose protected window a byte lies. -/
def Tile.windowOwner (x : Tile) (a : Nat) : Nat := (slotNumbers.find? fun k => inWindow (x.pwin k) (a / 1024)).getD 0xFF

/-- Every swatch with an actor on a tile stops with a cause (R224, R351). -/
def State.stopTile (s : State) (t cause : Nat) : State :=
  ((Map.keys s.swatches).filter fun n => (s.actorsOf n).any fun a => a.1 == t).foldl (fun s n => s.stopSwatch n cause t 0xFF) s

/-- SCRUB: a word read; one bit in error is corrected and counted, an uncorrectable word is repaired by its place, and no fault is raised;
a poisoned word is repaired only where parity can rebuild it, and a rebuild that meets a second bad word of the group stops the swatch, in the
retention area every swatch with an actor on the tile (R224, R225; log entry 13). -/
def execScrub (t addr : Nat) (s : State) : Out :=
  event (
    let w := addr / 4 * 4
    let x := s.tile t
    if 3 * 2 ^ 20 ≤ w then s
    else if x.uncorrectable.contains w || (x.poisoned.contains w && s.underParity t w) then
      let k := x.windowOwner w
      let s1 := (s.writeError t 0x20 8 k 0 (if k = 0xFF then 0 else (x.slot k).tag) 0 w).repairWord t w
      if !s.lostWord t w then s1
      else if x.isProtected w then s1.stopSwatch (x.slot k).swatch 0x20 t k else s1.stopTile t 0x20
    else s.modTile t fun x => x.correct w 4)

/-! ### Parity (R14, R147, R176) -/

/-- PARITY_DELTA: the parity tile of the group applies the delta of a commit under way, of its in-place stores and of its journal, and
acknowledges it, which is the commit point. What the firing keeps of the journal is how SRAM still differs from what the parity tile knows. -/
def execParityDelta (t : Nat) (s : State) : Out :=
  event (match (s.tile t).firing with
    | some f =>
      if f.phase = .committing false ∧ f.writesProtected then
        let d := journalDelta (Config.stale s.tick t) (s.tile t) f.journal
        (s.parityDelta t (f.delta ++ d)).modTile t fun x => { x with firing := some { f with delta := d, phase := .committing true } }
      else s
    | none => s)

/-- The addresses at which a rebuilt byte of tile t may differ from 0. -/
def State.rebuiltAddrs (s : State) (t : Nat) : List Nat :=
  let g := s.group t
  ((Map.get [] s.parity g).map (·.1) ++ ((s.groupMembers g).filter fun m => !(m == t)).flatMap fun m => (s.tile m).sram.map (·.1)).filter
    (s.tile t).isProtected

/-- The SRAM of a spare that takes over tile t: the protected windows rebuilt, everything else 0, as a start clears it (R147, R395). In-place
stores of the lost tile whose delta had not been sent are gone. -/
def State.darn (s : State) (t : Nat) : State :=
  let m := (s.rebuiltAddrs t).foldl (fun m a => Memory.write m a (s.rebuiltByte t a)) []
  s.modTile t fun x => { x with
    sram := m, order := x.order.settle, poisoned := [], uncorrectable := [], singleError := []
    firing := x.firing.map fun f => { f with delta := [] } }

/-- The slots of tile t whose protected windows hold a word that the group cannot rebuild, as another member cannot read its own (R224). -/
def State.unbuilt (s : State) (t : Nat) : List Nat :=
  ((s.groupMembers (s.group t)).flatMap fun m =>
    (((s.tile m).uncorrectable ++ (s.tile m).poisoned).filter fun w => !(m == t) && (s.tile m).isProtected w && (s.tile t).isProtected w).map
      (s.tile t).windowOwner).eraseDups

/-- The parity of a group computed afresh from its members (R14, R351). -/
def State.freshParity (s : State) (g : Nat) : Memory :=
  let ms := s.groupMembers g
  let addrs := ms.flatMap fun m => (s.tile m).sram.filterMap fun e => if (s.tile m).isProtected e.1 then some e.1 else none
  addrs.eraseDups.foldl (fun p a => Memory.write p a
    (ms.foldl (fun b m => if (s.tile m).isProtected a then b ^^^ (s.tile m).settledByte a else b) 0)) []

/-! ### A tile lost (R147, R182, R184, R304, R351) -/

/-- Where a live stream begins again after the loss of its tile: a feeding stream at the first token its consumer has not got, a paused one
where its pause record has it, and any other at the outer-loop boundary at or before the place where its record was last written (R278,
R304). -/
def State.resumeFrom (s : State) (t k : Nat) : Nat :=
  let r := (s.tile t).stream k
  let run := (s.tile t).run k
  let w := (s.slot t (paramSlot (strDstParam r))).inWidth (paramPort (strDstParam r))
  if strDstKind r = 2 then min (strTotal r) (strTokens r * tokenElems w (strElem r))
  else if strState r = 3 then run.kept else outerBefore r run.kept

/-- The run of a stream that begins again at element n: nothing outstanding and no page known, and the tokens that it took for elements from n on
to be drained once more (R284, R304; log entry 14). -/
def StreamRun.again (run : StreamRun) (n : Nat) : StreamRun :=
  let redo := run.since.filter fun e => decide (n < e.2.1)
  { run with
    begun := n, kept := n, filling := [], drained := n - ((redo.head?.map (·.1)).getD n), redo := redo.map (·.2.2) ++ run.redo
    since := run.since.filter fun e => !decide (n < e.2.1), marked := run.marked && redo.isEmpty
    eng := { run.eng with outstanding := [], probing := none, pages := [], lastReq := [], seq := run.keptSeq } }

/-- A stream after the loss of its tile. A live one resumes from its darned record, the tokens that it drains once more counted afresh; one that
pushes its voids has nothing to resume; of one that does not run, the record is what the retention area held (R278, R304). -/
def State.resumeStream (s : State) (t k : Nat) : State :=
  let x := s.tile t
  let r := x.stream k
  let run := x.run k
  if !strBusy r then
    s.modTile t fun x => match Map.find x.keptStreams k with
      | some r' => x.setStream k (setStrState r' (min 1 (strState r')))
      | none => { x with streams := Map.erase x.streams k }
  else if run.voiding then s
  else
    let n := s.resumeFrom t k
    let again := run.again n
    let redo := again.redo.take (again.redo.length - run.redo.length)
    let r1 := Words.setWord (atElement r n) 26 again.eng.seq
    let r2 := Words.setWord (Words.setWord r1 24 (strTokens r - redo.length)) 25 (strVoids r - (redo.filter Token.void).length)
    { s.modTile t fun x => (x.setRun k again).setStream k r2 with
      memReqs := s.memReqs.filter fun q => !(q.op == s.streamRef t k)
      memReplies := s.memReplies.filter fun q => !(q.op == s.streamRef t k)
      xprobes := s.xprobes.filter fun q => !(q.op == s.streamRef t k)
      probeReplies := s.probeReplies.filter fun q => !(q.op == s.streamRef t k) }

/-- The engine operations of a lost tile: streams resume, copies start again from their first word (R304). -/
def State.resumeEngines (s : State) (t : Nat) : State :=
  let s1 := (List.range 16).foldl (fun s k => s.resumeStream t k) s
  let ofCopy := fun (o : OpRef) => o.tile == t && (match o.key with | .copy _ => true | _ => false)
  { s1.modTile t fun x => { x with
      copies := x.copies.map fun c =>
        { c with begun := 0, done := 0, eng := { c.eng with outstanding := [], probing := none, pages := [], lastReq := [] } } } with
    memReqs := s1.memReqs.filter fun q => !ofCopy q.op
    memReplies := s1.memReplies.filter fun q => !ofCopy q.op
    xprobes := s1.xprobes.filter fun q => !ofCopy q.op
    probeReplies := s1.probeReplies.filter fun q => !ofCopy q.op }

/-- A direct actor of a lost tile that was not firing voided with 0x22, as its disposition has it: under void, the effects of a void commit,
with as many voids at each port as it has slots free (R147, R184, R186; log entry 14). -/
def State.loseDirect (s : State) (t k : Nat) : State :=
  let sl := s.slot t k
  if sl.disp = 0 then
    (s.noteCause t k sl.swatch 0x22 0 0).voidEffects t k (fun p => min (voidPushes sl p) (sl.free p)) (voidPops sl none)
  else s.chargeSlot t k sl.swatch 0x22 0 0

/-- Whether an actor of a lost tile is one that the loss voids beside the tile's firing: direct, and neither empty nor draining (R184). -/
def State.direct (s : State) (t k : Nat) : Bool :=
  let c := (s.slot t k).stateCode
  decide (k < 16) && ((s.slot t k).cls == 2) && !(c == 0) && !(c == 5)

/-- What becomes of the firings and actors of a lost tile: a commit past its commit point goes on, a firing before it is abandoned or
disposed of, every other direct actor is voided (R177, R182, R184, R351). -/
def State.loseFirings (s : State) (t : Nat) : State :=
  let s1 := match (s.tile t).firing with
    | some f =>
      match f.phase with
      | .committing true => s.commit t f
      | .released => s.completeCommit t f
      | .abandoned => s
      | _ => s.takeFault t 0x22 0 f.pc
    | none => s
  let runs := ((s.tile t).firing.map (·.slot)).getD 0xFF
  ((s1.tile t).loaded.filter fun k => s1.direct t k && !(k == runs)).foldl (fun s k => s.loseDirect t k) s1

/-- The firing of a lost tile that no spare takes over ends with the tile, and nothing of it commits (R351). -/
def State.endOnLost (s : State) (t : Nat) : State := ((s.discardStaged t).orphan t (((s.tile t).firing.map (·.uid)).getD 0)).closeFiring t 6

/-- The nodes of the parity group of a node: its members and its parity tile. -/
def State.groupNodes (s : State) (n : Nat) : List Nat :=
  let g := if n < selvage then s.group n else n - parityNode 0
  parityNode g :: s.groupMembers g

/-- Every swatch with an actor on the affected tiles of a lost node stops: on the tile itself, or, where its parity tile is lost, on every tile of
the group, which then has no cover (R351). -/
def State.stopNode (s : State) (n : Nat) : State :=
  if n < selvage then (s.stopTile n 0x22).endOnLost n
  else (s.groupMembers (n - parityNode 0)).foldl (fun s m => s.stopTile m 0x22) s

/-- A node's physical tile answers no more (R147). -/
def State.markLost (s : State) (n : Nat) : State :=
  let p := s.physOf n
  { s with phys := Map.set s.phys p { s.physTile p with lost := true } }

/-- A tile lost: darned onto a spare that firmware chooses, with its coordinate rebound, its firings retried or voided, its engines resumed; a
word that the group cannot rebuild stops its swatch (R147, R224, R351). A parity tile lost is rebuilt from the members of its group onto a
spare. Where no spare fits, or another node of the group is lost and nothing can be rebuilt, the swatches of the affected tiles stop. Loss and
darning are one step. -/
def State.loseTile (s0 : State) (t hint : Nat) : State :=
  let s := s0.markLost t
  let others := (s.groupNodes t).filter fun n => !(n == t) && s.hostLost n
  if !others.isEmpty then others.foldl State.stopNode (s.stopNode t)
  else match s.chooseSpare t hint with
  | some p =>
    if t < selvage then
      let s1 := (((s.darn t).rebindTile t p).loseFirings t).resumeEngines t
      (s.unbuilt t).foldl (fun s k => s.stopSwatch (s.slot t k).swatch 0x20 t k) s1
    else
      let g := t - parityNode 0
      { s.bindNode t p with parity := Map.set s.parity g (s.freshParity g) }
  | none => s.stopNode t

/-- Two nodes of one parity group lost before the darning of the first has ended (R351). -/
def State.loseTwo (s : State) (a b : Nat) : State :=
  let s1 := (s.markLost a).markLost b
  (s1.stopNode a).stopNode b

/-- Whether a number names a node that a physical tile hosts: a logical tile or a parity tile. -/
def isNode (v : Variant) (n : Nat) : Bool :=
  (decide (tileX n < meshW v) && decide (tileY n < 200)) || (decide (parityNode 0 ≤ n) && decide (n < parityNode (parityTiles v)))

/-- The record of a tile lost: its coordinate, unit 7, and whether the tile is retired (R152). -/
def State.recordLoss (s : State) (n flags : Nat) : State :=
  if n < selvage then s.writeError n 0x22 7 0xFF flags 0 0 0 else s.writeErrorAt (s.physOf n) 0x22 7 flags 0 0

/-- DARNING: a tile that is lost is darned onto a spare (R147). -/
def execDarning (t spare : Nat) (s : State) : Out :=
  event (if isNode s.variant t then (s.recordLoss t 0).loseTile t spare else s)

/-- A node's tile retired: its record says so; then as a tile lost (R152, R351). -/
def State.retireTile (s : State) (t spare : Nat) : State :=
  let s1 := s.recordLoss t 4
  let p := s1.physOf t
  ({ s1 with phys := Map.set s1.phys p { s1.physTile p with retired := true } } : State).loseTile t spare

/-- TILE_RETIREMENT: firmware retires the tile of a node. R350 names one reason and retires such a tile within its own step; what other
reason firmware has is left open, so that this step may come at any time (log entry 11). -/
def execTileRetirement (t spare : Nat) (s : State) : Out := event (if isNode s.variant t then s.retireTile t spare else s)

/-- A physical tile with too few regulator phases for its setting retired, with the node that it hosts (R350, R351). -/
def State.retireWeak (s : State) (p : Nat) : State :=
  if s.tooWeak p && !(s.physTile p).retired then
    match s.nodeAt p with
    | some n => s.retireTile n 0
    | none => { s with phys := Map.set s.phys p { s.physTile p with retired := true } }
  else s

/-- REGULATOR_PHASE_LOSS: a phase of a tile's regulator, or its keep-alive phase, is lost; the record names unit 7 and cause 0x22. The clock cap
changes timing alone; a tile whose cap falls below 0.45 GHz, or with one phase or none left, is retired; a lost keep-alive takes the router's
links down (R350, R351). -/
def execRegulatorPhaseLoss (phys : Nat) (keepAlive : Bool) (s : State) : Out :=
  event (
    if !inGrid s.variant phys then s
    else
      let h := s.physTile phys
      (({ s with phys := Map.set s.phys phys { h with
          phasesLost := if keepAlive then h.phasesLost else min 4 (h.phasesLost + 1)
          keepAliveLost := h.keepAliveLost || keepAlive } } : State).writeErrorAt phys 0x22 7 0 0 0).retireWeak phys)

end Sys2Proof.Machine
end

