-- ==== Sys2Proof/Machine/Image.lean ====
section
/-! DEFINITION. The save image of a swatch and its restoring (R355 to R357). -/

namespace Sys2Proof.Machine

/-! ### What an image lists -/

/-- The actors of an image as tile and slot: the occupied slots of each tile and its inbox actor slot (R356). -/
def State.savedActors (s : State) (sw : Nat) : List (Nat × Nat) :=
  (s.swatch sw).tiles.flatMap fun t =>
    (((s.tile t).loaded.filter fun k => decide (k < 16) && (s.slot t k).swatch == sw) ++ [16]).map fun k => (t, k)

/-- The edges of a swatch by name, in the order of its actors' ports. -/
def State.savedEdges (s : State) (sw : Nat) : List Nat :=
  ((s.actorsOf sw).flatMap fun a =>
    let sl := s.slot a.1 a.2
    sl.inPorts.map sl.inEdge ++ sl.outPorts.map sl.outEdge).eraseDups

/-- The streams granted to the actors of an image: index of the actor, its tile, program number and tile stream. -/
def State.savedStreams (s : State) (actors : List (Nat × Nat)) : List (Nat × Nat × Nat × Nat) :=
  actors.zipIdx.flatMap fun e =>
    (List.range ((s.tile e.1.1).strCount e.1.2)).map fun j => (e.2, e.1.1, j, (s.tile e.1.1).strBase e.1.2 + j)

/-- The watches of a swatch that have not replied: index of the actor and watch. -/
def State.savedWatches (s : State) (sw : Nat) (actors : List (Nat × Nat)) : List (Nat × Atomic) :=
  actors.zipIdx.flatMap fun e =>
    ((s.tile e.1.1).atomics.filter fun a => a.op == 9 && a.slot == e.1.2 && a.eng.swatch == sw).map fun a => (e.2, a)

/-! ### Bytes -/

def le4 (x : Nat) : List Byte := leBytes 4 x
def le8 (x : Nat) : List Byte := leBytes 8 x

/-- The bytes of a window as an image holds them: those of a word that cannot be read are free, as an image has no place for poison (R223; log
entry 13). -/
def Tile.windowImage (x : Tile) (tick w : Nat) : List Byte :=
  (((x.poisoned ++ x.uncorrectable).filter fun a => inWindow w (a / 1024)).foldl
    (fun (m : Memory) a => Memory.writeN m a (leBytes 4 (Config.openWord tick a).toNat)) x.sram).readN (winBase w * 1024) (winLen w * 1024)

/-- The windows of a swatch's actors read for an image: words with one bit in error corrected, words under parity rebuilt where the group can
(R223, R224). -/
def State.mendWindows (s : State) (sw : Nat) : State :=
  (s.savedActors sw).foldl (fun s a =>
    [(s.tile a.1).pwin a.2, (s.tile a.1).swin a.2].foldl (fun s w =>
      let bad := ((s.tile a.1).poisoned ++ (s.tile a.1).uncorrectable).filter fun v => inWindow w (v / 1024)
      (bad.foldl (fun s v => s.repairWord a.1 v) s).modTile a.1 fun x => x.correct (winBase w * 1024) (winLen w * 1024)) s) s

/-- The full entries of slot k, oldest first; of the inbox actor slot, those of one swatch. -/
def Tile.savedEntries (x : Tile) (sw k : Nat) : List InboxEntry :=
  (List.range x.stamp).flatMap fun n =>
    ((x.entries k .full).map x.entry).filter fun e => e.stamp == n && (!(k == 16) || e.swatch == sw)

/-- Addresses of the live barrier slots of slot k; of the inbox actor slot, those of one swatch. -/
def Tile.savedBarriers (x : Tile) (sw k : Nat) : List Nat :=
  (x.barriers.filter fun b => b.2 == k && (!(k == 16) || (Map.get emptyBarInfo x.barInfo b.1).swatch == sw)).map (·.1)

/-- The three data items of an actor: protected bytes, scratch bytes, extras (R356). -/
def Tile.actorData (x : Tile) (tick sw k : Nat) : List (List Byte) :=
  [x.windowImage tick (x.pwin k), x.windowImage tick (x.swin k),
    ((List.range (x.semCount k)).flatMap fun j => le4 (x.sem (x.semBase k + j))) ++ (x.savedBarriers sw k).flatMap le4 ++
      (x.savedEntries sw k).flatMap fun e => wordsBytes ((e.words ++ List.replicate 16 0).take 16 |>.map BitVec.toNat)]

/-- A token of an edge's data: a status word and its words (R356). -/
def tokenBytes (tok : Token) : List Byte :=
  le4 ((if tok.void then 1 else 0) + if tok.mark then 2 else 0) ++ wordsBytes (tok.words.map BitVec.toNat)

/-- A scale token of an edge's data, laid out as a one-word token (log entry 15). -/
def scaleBytes (sc : ScaleTok) : List Byte := le4 (if sc.void then 1 else 0) ++ le4 sc.word.toNat

/-- What an edge holds: flags word, slots, push count, POPPED, tokens and scales (R356). -/
structure EdgeView where
  flags : Nat
  slots : Nat
  pushed : Nat
  popped : Nat
  toks : List Token
  scales : List ScaleTok

/-- The code of a width in words. -/
def widthCode (w : Nat) : Nat := Nat.log2 w

/-- An edge of a swatch as an image shows it. -/
def State.edgeView (s : State) (sw e : Nat) : EdgeView :=
  let w := s.swatch sw
  let held := ((w.seeds ++ w.hostToks).filter fun x => x.1 == e).map (·.2)
  match s.consumer sw e, s.producer sw e with
  | some (t, k, p), prod =>
    let sl := s.slot t k
    let q := sl.inQueue p
    let stream := bitField ((s.tile t).edgeFlags k e) 0 1 == 1
    let host := prod.isNone && !stream
    let pushed := match prod with
      | some (t', k', p') => ((s.slot t' k').outQueue p').pushed
      | none => sl.popped p + q.toks.length
    { flags := e + 2 ^ 16 * widthCode (sl.inWidth p) + 2 ^ 19 * (if sl.inScaled p then 1 else 0) + 2 ^ 20 * (if host then 1 else 0) +
        2 ^ 22 * (if stream then 1 else 0)
      slots := sl.inSlots p, pushed := pushed, popped := sl.popped p, toks := q.toks ++ if host then held else [], scales := q.scales }
  | none, some (t, k, p) =>
    let sl := s.slot t k
    let q := sl.outQueue p
    { flags := e + 2 ^ 16 * widthCode (sl.outWidth p) + 2 ^ 19 * (if sl.outScaled p then 1 else 0) + 2 ^ 21 * (if sl.outHost p then 1 else 0) +
        2 ^ 22 * (s.tile t).edgeFlags k e
      slots := sl.free p + q.local_.length + q.retained.length, pushed := q.pushed, popped := sl.retBase p, toks := q.local_, scales := [] }
  | none, none => { flags := e, slots := 0, pushed := 0, popped := 0, toks := [], scales := [] }

/-- The data of an edge. -/
def EdgeView.data (v : EdgeView) : List Byte := v.toks.flatMap tokenBytes ++ v.scales.flatMap scaleBytes

/-- Where each of a list of data items begins, the first at a given offset. -/
def dataOffsets : Nat → List (List Byte) → List Nat
  | _, [] => []
  | o, b :: bs => o :: dataOffsets (o + b.length) bs

/-- The 320 bytes of an actor (R356). A slot of a swatch that is saved shows as waiting, unless it drains. -/
def State.actorBytes (s : State) (w : Swatch) (a : Nat × Nat) (sw : Nat) (at_ : List Nat) : List Byte :=
  let x := s.tile a.1
  let k := a.2
  let sl := x.slot k
  let code := if sl.stateCode = 5 ∨ sl.stateCode = 6 ∨ sl.stateCode = 0 then sl.stateCode else 1
  wordsBytes (Words.toList (sl.setState code).record 64) ++ le4 (tileX a.1 - w.x0 + 2 ^ 16 * (tileY a.1 - w.y0)) ++ le4 k ++ le8 sl.ordinal ++
    le4 (x.pwin k) ++ le4 (x.swin k) ++ le4 (x.cword (0x0A0 + k)) ++ le4 (x.cword (0x0C0 + k)) ++
    le8 (at_.getD 0 0) ++ le8 (at_.getD 1 0) ++ le8 (at_.getD 2 0) ++
    leBytes 1 (x.semCount k) ++ leBytes 1 (x.savedBarriers sw k).length ++ leBytes 1 (x.savedEntries sw k).length ++ leBytes 5 0

/-- The 32 bytes of an edge (R356). -/
def EdgeView.bytes (v : EdgeView) (at_ : Nat) : List Byte :=
  le4 v.flags ++ le4 v.slots ++ le4 v.pushed ++ le4 v.popped ++ le4 v.toks.length ++ le4 v.scales.length ++ le8 at_

/-- The 144 bytes of a stream (R356), its record as R278 keeps it. -/
def State.streamBytes (s : State) (e : Nat × Nat × Nat × Nat) : List Byte :=
  let x := s.tile e.2.1
  let y := if strBusy (x.stream e.2.2.2) then x.noteProgress e.2.2.2 else x
  le4 e.1 ++ le4 e.2.2.1 ++ le8 0 ++ wordsBytes (Words.toList (y.stream e.2.2.2) 32)

/-- The 256 scope entries and their logs (R194, R356). -/
def Swatch.scopeBytes (w : Swatch) : List Byte :=
  ((List.range 256).flatMap fun n => wordsBytes (Words.toList (w.scope n).words 4)) ++
    (List.range 256).flatMap fun n =>
      (((w.scope n).log.flatMap fun (e : Nat × Nat) => le4 (e.1 % 65536) ++ le4 e.2) ++ List.replicate 512 0).take 512

/-- func16 of a watch (R57). -/
def Atomic.func16 (a : Atomic) : Nat := 2 ^ 11 * a.cond + 2 ^ 7 * (if a.unsigned_ then 1 else 0) + 2 ^ 4 * a.size + 9

/-- The 32 bytes of a watch (R356). -/
def watchBytes (e : Nat × Atomic) : List Byte :=
  le4 e.1 ++ le4 e.2.tag ++ le8 e.2.addr ++ le8 e.2.d.toNat ++ le4 e.2.func16 ++ le4 0

/-- SM3 of bytes, 32 bytes. -/
def digest (b : List Byte) : List Byte := (Config.sm3 b ++ List.replicate 32 0).take 32

/-- The save image of a swatch with a reason (R355, R356). -/
def State.saveImage (s : State) (sw reason : Nat) : List Byte :=
  let w := s.swatch sw
  let actors := s.savedActors sw
  let edges := (s.savedEdges sw).map (s.edgeView sw)
  let streams := s.savedStreams actors
  let watches := s.savedWatches sw actors
  let actorData := actors.map fun a => (s.tile a.1).actorData s.tick sw a.2
  let blobs := actorData.flatten ++ edges.map EdgeView.data
  let oEdge := 128 + 320 * actors.length
  let oStream := oEdge + 32 * edges.length
  let oScope := oStream + 144 * streams.length
  let oWatch := oScope + 256 * 16 + 256 * 512
  let oData := oWatch + 32 * watches.length
  let at_ := dataOffsets oData blobs
  let body := (actors.zipIdx.flatMap fun e => s.actorBytes w e.1 sw (at_.drop (3 * e.2))) ++
    (edges.zipIdx.flatMap fun e => e.1.bytes (at_.getD (3 * actors.length + e.2) 0)) ++ streams.flatMap s.streamBytes ++ w.scopeBytes ++
    watches.flatMap watchBytes ++ blobs.flatten
  let head := le4 0x4B534156 ++
    le4 (reason + 2 ^ 8 * (if w.haltReq then 1 else 0) + 2 ^ 9 * (if w.orderDependent then 1 else 0) + 2 ^ 10 * (if w.afterStop then 1 else 0)) ++
    le4 (w.w + 2 ^ 16 * w.h) ++ le4 w.tag ++ le8 w.launchVa ++
    le4 actors.length ++ le4 edges.length ++ le4 streams.length ++ le4 watches.length ++
    le8 128 ++ le8 oEdge ++ le8 oStream ++ le8 oScope ++ le8 oData ++
    le8 (128 + body.length) ++ le8 (if watches.isEmpty then 0 else oWatch)
  head ++ digest body ++ body

/-! ### Restoring (R357) -/

/-- The number in n bytes of an image from an offset. -/
def imageNat (b : List Byte) (o n : Nat) : Nat := leNat ((b.drop o).take n)

/-- The tile and slot of actor i of an image for a swatch. -/
def imageActor (b : List Byte) (w : Swatch) (i : Nat) : Nat × Nat :=
  let o := imageNat b 0x28 8 + 320 * i
  (tileId (w.x0 + imageNat b (o + 0x100) 2) (w.y0 + imageNat b (o + 0x102) 2), bitField (imageNat b (o + 0x104) 4) 0 5)

/-- Everything written to DRAM so far: what a restored swatch did before its save comes before what it does now (R330). -/
def State.allDram (s : State) : View := s.actors.map fun a => (a, s.dramOrder.last)

/-- Actor i of an image put back, reserved fields zero (R5): record, ordinal, windows with their bytes, semaphores, live barrier slots and inbox
entries. What it did in DRAM before its save comes before what its tile does now (R330). Where another launch holds the tile's inbox actor slot
too, that slot keeps its record and takes the entries alone (log entry 31). -/
def State.restoreActor (s : State) (sw : Nat) (b : List Byte) (i : Nat) : State :=
  let o := imageNat b 0x28 8 + 320 * i
  let a := imageActor b (s.swatch sw) i
  let k := a.2
  let rec_ := maskedWords recordMask (bytesWords ((b.drop o).take 256))
  let word := fun n => imageNat b (o + 0x110 + 4 * n) 4 &&& (if k = 16 ∧ n = 2 then 0x1F else grantMask n)
  let at_ := fun n => imageNat b (o + 0x120 + 8 * n) 8
  let nsem := imageNat b (o + 0x138) 1
  let nbar := imageNat b (o + 0x139) 1
  let shared := k == 16 && s.swatches.any fun e => !(e.1 == sw) && e.2.tiles.contains a.1
  let sl : Slot := { emptySlot with
    record := rec_, swatch := sw, ordinal := imageNat b (o + 0x108) 8, lastUid := (s.tile a.1).nextUid }
  let sl1 := if sl.stateCode = 5 ∨ sl.stateCode = 0 then sl else sl.setState 1
  s.modConfig a.1 fun x =>
    let put := fun (x : Tile) (w o : Nat) =>
      (x.cleanWords (winBase w * 1024) (winLen w * 1024)).setBytes (winBase w * 1024) ((b.drop o).take (winLen w * 1024))
    let bars := (List.range nbar).map fun j => imageNat b (at_ 2 + 4 * (nsem + j)) 4
    let x1 : Tile := if shared then x else Tile.setSlot { put (put x (word 0) (at_ 0)) (word 1) (at_ 1) with
      view := View.join x.view s.allDram
      cwords := [0, 1, 2, 3].foldl (fun m n => Map.set m ([0x040, 0x060, 0x0A0, 0x0C0].getD n 0 + k) (BitVec.ofNat 32 (word n))) x.cwords
      sems := (List.range nsem).foldl (fun m j => Map.set m (bitField (word 3) 0 5 + j) (BitVec.ofNat 32 (imageNat b (at_ 2 + 4 * j) 4))) x.sems
      barriers := x.barriers ++ bars.map fun a => (a, k)
      barInfo := bars.foldl (fun m a => Map.set m a { emptyBarInfo with swatch := sw }) x.barInfo } k sl1
    (List.range (imageNat b (o + 0x13A) 1)).foldl (fun x j =>
      let ws := (bytesWords ((b.drop (at_ 2 + 4 * (nsem + nbar) + 64 * j)).take 64)).map (BitVec.ofNat 32)
      match x.freeEntryNo with
      | some e => x.fill e k 0 (if k = 16 then sw else 0) noReach ws
      | none => x) x1

/-- n tokens of w words from an offset. -/
def imageTokens (b : List Byte) (tag w : Nat) : Nat → Nat → List Token
  | _, 0 => []
  | o, n + 1 =>
    { words := (bytesWords ((b.drop (o + 4)).take (4 * w))).map (BitVec.ofNat 32), void := imageNat b o 4 % 2 == 1
      mark := bitField (imageNat b o 4) 1 1 == 1, tag := tag } :: imageTokens b tag w (o + 4 + 4 * w) n

/-- n scale tokens from an offset, bits [31:20] ignored (R77). -/
def imageScales (b : List Byte) : Nat → Nat → List ScaleTok
  | _, 0 => []
  | o, n + 1 => { word := BitVec.ofNat 32 (imageNat b (o + 4) 4 % 2 ^ 20), void := imageNat b o 4 % 2 == 1 } :: imageScales b (o + 8) n

/-- Scale tokens that go with the tokens of a queue whose first, or next, token has place p in its block (R123, R125). -/
def scalesFor (p : Nat) (toks : List Token) : Nat :=
  if toks.isEmpty then (if p = 0 then 0 else 1) else ((blockNumbers 0 p toks).getLast?).getD 0 + 1

/-- The block positions of the edges of a swatch that is saved: of the first token of a queue, or, where none is on the tile, of the next token
(R23, R123). -/
def State.edgePlaces (s : State) (sw : Nat) : Map Nat :=
  (s.savedEdges sw).foldl (fun m e => match s.consumer sw e, s.producer sw e with
    | some (t, k, p), _ => Map.set m e ((s.slot t k).inQueue p).pos
    | none, some (t, k, p) => Map.set m e ((s.slot t k).outQueue p).pos
    | none, none => m) (s.swatch sw).edgePos

/-- The block position of an edge that the part kept beside an image; an image that it did not write has none. -/
def State.savedPlace (s : State) (b : List Byte) (e : Nat) : Option Nat := (s.places.find? fun p => p.1 == b).bind fun p => Map.find p.2 e

/-- The place in its block of the first token of a restored edge: the one that it had, or, in an image of another part, one that agrees with the
scale tokens queued, as an image does not hold it (R23, R123, R356; log entry 31). -/
def State.restoredPlace (s : State) (b : List Byte) (e : Nat) (toks : List Token) (scales : Nat) : Nat :=
  let l := (List.range 32).filter fun p => scalesFor p toks == scales
  (s.savedPlace b e).getD ((l[Config.blockPlace s.tick e % l.length]?).getD 0)

/-- Edge i of an image put back: POPPED and push counts saved, FREE := SLOTS - queued, RETBASE := POPPED (R357). Tokens beyond the slots of a
host input edge are those that the selvage held. -/
def State.restoreEdge (s : State) (sw : Nat) (b : List Byte) (i : Nat) : State :=
  let o := imageNat b 0x30 8 + 32 * i
  let flags := imageNat b o 4
  let e := bitField flags 0 16
  let w := widthWords (bitField flags 16 3)
  let slots := imageNat b (o + 4) 4
  let pushed := imageNat b (o + 8) 4
  let popped := imageNat b (o + 12) 4
  let n := imageNat b (o + 16) 4
  let at_ := imageNat b (o + 24) 8
  let toks := imageTokens b (s.swatch sw).tag w at_ n
  let scales := imageScales b (at_ + n * (4 + 4 * w)) (imageNat b (o + 20) 4)
  let queued := min n slots
  let place := s.restoredPlace b e (toks.take slots) scales.length
  let outPlace := (s.savedPlace b e).getD (Config.blockPlace s.tick e % 32)
  let next := (toks.take slots).foldl nextPos place
  let setOut := fun (s : State) (a : Nat × Nat × Nat) (l : List Token) (free pos : Nat) =>
    s.modSlot a.1 a.2.1 fun sl => ((sl.setFree a.2.2 free).setRetBase a.2.2 popped).setOutQueue a.2.2
      { retained := [], pushed := pushed, pos := pos, local_ := l }
  match s.consumer sw e, s.producer sw e with
  | some (t, k, p), prod =>
    let s1 := s.modSlot t k fun sl => (sl.setPopped p popped).setInQueue p
      { toks := toks.take slots, views := [], scales := scales, pos := place, refilling := [] }
    match prod with
    | some a => setOut s1 a [] (slots - queued) next
    | none =>
      if bitField flags 20 1 = 1 then
        s1.modSwatch sw fun w => { w with
          hostFree := Map.set w.hostFree e (slots - queued), hostPushed := Map.set w.hostPushed e (popped + queued)
          hostToks := w.hostToks ++ (toks.drop slots).map fun tok => (e, tok) }
      else s1.modSwatch sw fun w => if w.paged then { w with edgePos := Map.set w.edgePos e next } else w
  | none, some a =>
    if bitField flags 21 1 = 1 then (setOut s a [] slots outPlace).modSwatch sw fun w => { w with hostPushed := Map.set w.hostPushed e pushed }
    else setOut s a toks (slots - queued) outPlace
  | none, none => s

/-- Stream i of an image put back at its saved indices, reserved fields zero (R5). One that was stopping goes on doing so, and completes with 0,
as an image does not hold the status that was due, the model's choice (R364; log entry 32). A running one goes on; a paused one sends its notice
again, with the cause that its page gives now (R357). -/
def State.restoreStream (s : State) (sw : Nat) (b : List Byte) (i : Nat) : State :=
  let o := imageNat b 0x38 8 + 144 * i
  let a := imageActor b (s.swatch sw) (imageNat b o 4)
  let r := maskedWords streamMask (bytesWords ((b.drop (o + 16)).take 128))
  let k := (s.tile a.1).strBase a.2 + imageNat b (o + 4) 4
  let s1 := s.modTile a.1 fun x => (x.setStream k (Words.setField r 0 16 5 a.2)).keepStream k
  if !strBusy r then s1
  else match (s.tile a.1).freeEntryNo with
    | none => s1
    | some i =>
      let n := strPerformed r
      let inW := (s.slot a.1 (paramSlot (strDstParam r))).inWidth (paramPort (strDstParam r))
      let outW := (s.slot a.1 (paramSlot (strSrcParam r))).outWidth (paramPort (strSrcParam r))
      let begun := if strDstKind r = 2 then min n (strTokens r * tokenElems inW (strElem r)) else n
      let drained := if strSrcKind r = 2 then n - strTokens r * tokenElems outW (strElem r) else 0
      let run : StreamRun := { emptyRun with
        begun := begun, drained := drained, kept := begun, keptSeq := Words.word r 26
        eng := { emptyEngine with
          entry := i, seq := Words.word r 26, swatch := sw, scope := (s.slot a.1 a.2).scopeNo, reach := { noReach with dram := s.allDram } } }
      let s2 := s1.modTile a.1 fun x => (x.reserve a.2 i sw).setRun k run
      if strState r = 3 then
        let s3 := s2.modTile a.1 fun x => x.setStream k (Words.setWord (setStrState (x.stream k) 2) 27 (strPauses r - 1))
        let write := strDstKind r == 1
        let va := if write then strDstAddr r begun else strSrcAddr r begun
        let cause := match s3.translate (s3.swatch sw).tag va (if write then 2 else 1) with
          | .error c => c
          | .ok _ => 0x10
        s3.pauseOp (s3.streamRef a.1 k) run.eng cause va
      else s2

/-- The holds of SBAR among the streams of a tile's slot k, which an image shows but whose sets it does not hold: a held stream waits for the
runs of the slot's streams that are not held (R290, R357; log entry 31). -/
def Tile.restoreHolds (x : Tile) (k : Nat) : Tile :=
  let mine := (List.range 16).filter fun j => strOwner (x.stream j) == k && !(Map.find x.streams j).isNone
  let held := mine.filter fun j => Words.field (x.stream j) 0 7 1 == 1
  let busy := (mine.filter fun j => strBusy (x.stream j) && !held.contains j).map fun j => (j, strStart (x.stream j))
  held.foldl (fun x j =>
    if busy.isEmpty then x.setStream j (Words.setField (x.stream j) 0 7 1 0)
    else if strBusy (x.stream j) then x.setRun j { x.run j with sbar := busy }
    else { x with barred := Map.set x.barred j busy }) x

/-- Watch i of an image registered again (R357). -/
def State.restoreWatch (s : State) (sw : Nat) (b : List Byte) (i : Nat) : State :=
  let o := imageNat b 0x58 8 + 32 * i
  let a := imageActor b (s.swatch sw) (imageNat b o 4)
  let func := imageNat b (o + 24) 4
  let x := s.tile a.1
  match x.freeEntryNo with
  | none => s
  | some e =>
    let wt : Atomic :=
      { id := x.nextOp, slot := a.2, op := 9, size := bitField func 4 3, unsigned_ := bitField func 7 1 == 1, cond := bitField func 11 5,
        addr := imageNat b (o + 8) 8, d := BitVec.ofNat 64 (imageNat b (o + 16) 8), b := 0, tag := imageNat b (o + 4) 4, deferred := false,
        paused := false,
        eng := { emptyEngine with
          entry := e, swatch := sw, scope := (s.slot a.1 a.2).scopeNo, reach := { noReach with dram := s.allDram } } }
    (s.modTile a.1 fun x => { (x.reserve a.2 e sw) with atomics := x.atomics ++ [wt], nextOp := x.nextOp + 1 }).probeAtomic a.1 wt

/-- The scope table of an image, reserved fields zero (R5). -/
def imageScopes (b : List Byte) : Map ScopeEntry :=
  let o := imageNat b 0x40 8
  ((List.range 256).filter fun n => imageNat b (o + 16 * n) 4 % 8 != 0).map fun n =>
    let ws := maskedWords scopeMask (bytesWords ((b.drop (o + 16 * n)).take 16))
    (n, { emptyScope with words := ws, log := (List.range (Words.field ws 2 0 7)).map fun j =>
      (imageNat b (o + 4096 + 512 * n + 8 * j) 2, imageNat b (o + 4096 + 512 * n + 8 * j + 4) 4) }.publish)

/-- Every segment of a swatch applied. -/
def State.applySegments (s : State) (sw : Nat) : List (Nat × Segment) → Except (Nat × Nat) State
  | [] => .ok s
  | (t, g) :: rest => match s.applySegment sw t g with
    | .ok s1 => s1.applySegments sw rest
    | .error c => .error (t, c)

/-- The slots that a cast-on configured cleared again, with their grants: the saved actors take their places. -/
def State.unloadActors (s : State) (sw : Nat) : State :=
  (s.actorsOf sw).foldl (fun s a => s.modConfig a.1 fun x => { (x.freeGrants a.2) with slots := Map.erase x.slots a.2 }) s

/-- Where the records of a paged launch that are resident come from, and the block positions of the edges of those that are not. -/
def State.restoreRecords (s : State) (sw : Nat) (b : List Byte) : State :=
  s.modSwatch sw fun w =>
    if w.paged then
      { w with
        recordTable := (s.actorsOf sw).filterMap fun a =>
          let sl := s.slot a.1 a.2
          (sl.inPorts.head?.bind fun p => s.pagedEntry w (sl.inEdge p)).map fun i => (a.1, a.2, i.1)
        edgePos := (((s.places.find? fun p => p.1 == b).map (·.2)).getD []).foldl (fun m e => Map.set m e.1 e.2) w.edgePos }
    else w

/-- The swatch of an image restored under a number at an origin, and parked where step 4 of the throttle is in force (R362); or the tile and
command of a configuration error (R357). -/
def State.restoreImage (s : State) (sw : Nat) (b : List Byte) (launch : Words) (img : Image) (x0 y0 : Nat) : Except (Nat × Nat) State := do
  let w0 := { newSwatch launch (imageNat b 0x10 8) img x0 y0 none with phase := .open_, segments := [] }
  let s1 ← (s.setSwatch sw w0).applySegments sw (placeSegments x0 y0 img.rows)
  let range := fun o => List.range (imageNat b o 4)
  let s2 := (range 0x18).foldl (fun s i => s.restoreActor sw b i) (s1.unloadActors sw)
  let s3 := (range 0x1C).foldl (fun s i => s.restoreEdge sw b i) s2
  let s4 := (range 0x20).foldl (fun s i => s.restoreStream sw b i) s3
  let s5 := (s4.actorsOf sw).foldl (fun s a => s.modTile a.1 fun x => x.restoreHolds a.2) s4
  let s6 := (range 0x24).foldl (fun s i => s.restoreWatch sw b i) s5
  let s7 := (s6.modSwatch sw fun w => { w with
    gates := !s.power.failing, scopes := imageScopes b, tableLoaded := true, orderDependent := bitField (imageNat b 4 4) 9 1 == 1 }).restoreRecords sw b
  .ok (if w0.deferrable && decide (4 ≤ s.power.step) then s7.parkSwatch sw true else s7)

/-- An image at an address read under a tag: its bytes, launch record and cast-on image; or the status of the refusal (R357). -/
def State.readSaved (s : State) (tag va : Nat) : Except Nat (List Byte × Words × Image) :=
  match s.readVirt tag va 128 with
  | .error c => .error c
  | .ok h =>
    match s.readVirt tag va (imageNat h 0x50 8) with
    | .error c => .error c
    | .ok b =>
      if imageNat b 0 4 ≠ 0x4B534156 ∨ (b.drop 0x60).take 32 ≠ digest (b.drop 128) then .error 0xE5
      else match s.readVirt tag (imageNat b 0x10 8) 128 with
        | .error _ => .error 0x12
        | .ok l =>
          let launch := Words.ofList (bytesWords l)
          if Words.field launch 1 0 1 = 1 ∧ s.variant = .w2q then .error 0x02
          else match s.readImage launch with
            | .error _ => .error 0x12
            | .ok img => .ok (b, launch, img)

end Sys2Proof.Machine
end

