-- ==== Sys2Proof/Machine/Knot.lean ====
section
/-! DEFINITION. Knots and starved cycles (R149 to R151). -/

namespace Sys2Proof.Machine

/-- The output ports of an actor on which it waits for slots: its inputs satisfy the fire rule, and FREE is below MAX there (R149). Parked
and stopped actors wait for nothing (R362). -/
def State.slotWaits (s : State) (a : Nat × Nat) : List Nat :=
  let sl := s.slot a.1 a.2
  if sl.stateCode == 1 && sl.inputsReady then sl.outPorts.filter fun p => decide (sl.free p < sl.outMax p) else []

/-- The input ports of an actor that lack tokens for the fire rule. -/
def State.shortInputs (s : State) (a : Nat × Nat) : List Nat :=
  let sl := s.slot a.1 a.2
  if sl.stateCode == 1 then sl.inPorts.filter fun p => decide (sl.presentCount p < (if sl.inBounded p then sl.inReq p else sl.inMax p)) else []

/-- Whether an actor holds partial input: tokens on some port while the fire rule fails on an input count (R151). -/
def State.holdsPartial (s : State) (a : Nat × Nat) : Bool :=
  !(s.shortInputs a).isEmpty && (s.slot a.1 a.2).inPorts.any fun p => !((s.slot a.1 a.2).inQueue p).toks.isEmpty

/-- The counts and queues of a member, which a confirmed probe finds unchanged (R149). -/
def State.memberView (s : State) (a : Nat × Nat) : List Nat :=
  let sl := s.slot a.1 a.2
  [sl.firedCount, sl.voidedCount, sl.ordinal] ++
    (sl.inPorts.flatMap fun p => [sl.popped p, (sl.inQueue p).toks.length, (sl.inQueue p).scales.length]) ++
    sl.outPorts.flatMap fun p => [sl.free p, (sl.outQueue p).pushed]

/-- The probes that an actor sends on: each of its slot-wait edges to the consumer, or each of its short input edges to the producer. -/
def State.probesFrom (s : State) (starved : Bool) (a origin : Nat × Nat) (members : List (Nat × Nat)) (edges : List Nat) (snap : List (List Nat)) :
    List Probe :=
  let sl := s.slot a.1 a.2
  let make := fun (edge : Nat) (next : Option (Nat × Nat × Nat)) => next.map fun n =>
    ({ starved := starved, origin := origin, node := (n.1, n.2.1), members := members ++ [a], edges := edges ++ [edge],
       snapshot := snap ++ [s.memberView a], confirm := none } : Probe)
  if 64 ≤ members.length then []
  else if starved then (s.shortInputs a).filterMap fun p => make (sl.inEdge p) (s.producer sl.swatch (sl.inEdge p))
  else (s.slotWaits a).filterMap fun p => make (sl.outEdge p) (s.consumer sl.swatch (sl.outEdge p))

/-- The actors of a tile. -/
def Tile.actors (x : Tile) (t : Nat) : List (Nat × Nat) := (x.loaded.filter fun k => decide (k < 16)).map fun k => (t, k)

/-- KNOT_INTERVAL_EXPIRY: on a tile with no ready actor, a knot probe from each actor that waits on slots, or, where none does,
a starved-cycle probe from each that holds partial input (R149, R151). The interval is time, which is open (log entry 2). -/
def execKnotIntervalExpiry (t : Nat) (s : State) : Out :=
  event (
    let as := (s.tile t).actors t
    if s.anyReady t then s
    else
      let knots := as.filter fun a => !(s.slotWaits a).isEmpty
      if !knots.isEmpty then { s with probes := s.probes ++ knots.flatMap fun a => s.probesFrom false a a [] [] [] }
      else
        { s with probes := s.probes ++ (as.filter fun a => s.holdsPartial a).flatMap fun a => s.probesFrom true a a [] [] [] })

/-- The tiles between which a probe travels: from the actor it has left to the one it comes to next, round the members again in the confirming
pass. -/
def Probe.way (p : Probe) : Option (List Nat) :=
  match p.confirm with
  | none => some [((p.members.getLast?).getD p.origin).1, p.node.1]
  | some 0 => none
  | some (j + 1) => some [(p.members.getD j p.origin).1, (p.members.getD (j + 1) p.origin).1]

/-- A probe that has come to its next actor: forwarded, dropped, turned into the confirming pass at its origin, or checked against one more
member, and at the last one reported (R149, R151). Those that travel between the same two tiles come in the order in which they were sent
(R31, R136). -/
def State.probeStep (s : State) (i : Nat) (p : Probe) : State :=
  let s1 := { s with probes := s.probes.eraseIdx i }
  let on := fun (ps : List Probe) => { s1 with probes := s1.probes ++ ps }
  if !isFirst Probe.way s.probes i then s
  else match p.confirm with
  | some j =>
    if p.members.length ≤ j then
      { s1 with reports := s1.reports ++
          [{ starved := p.starved, swatch := (s.slot p.origin.1 p.origin.2).swatch, edges := p.edges,
             members := if p.starved then p.members.filter fun a => s.holdsPartial a else p.members, counts := [], exhausted := false }] }
    else if some (s.memberView (p.members.getD j (0, 0))) = p.snapshot[j]? then on [{ p with confirm := some (j + 1) }]
    else s1
  | none =>
    if p.node = p.origin then on [{ p with confirm := some 0 }] else on (s.probesFrom p.starved p.node p.origin p.members p.edges p.snapshot)

/-- KNOT_PROBE (R149). -/
def execKnotProbe (i : Nat) (s : State) : Out :=
  event (match s.probes[i]? with
    | some p => if p.starved then s else s.probeStep i p
    | none => s)

/-- STARVED_CYCLE_PROBE (R151). -/
def execStarvedCycleProbe (i : Nat) (s : State) : Out :=
  event (match s.probes[i]? with
    | some p => if p.starved then s.probeStep i p else s
    | none => s)

/-- Whether two lists hold the same numbers. -/
def sameSet (a b : List Nat) : Bool := (a.all b.contains) && b.all a.contains

/-- Whether a report with the same edges has gone to the owner already and still stands (R149). -/
def State.standing (s : State) (r : Report) : Bool :=
  s.host.notices.any fun n => match n with
    | .report q => q.starved == r.starved && q.swatch == r.swatch && sameSet q.edges r.edges &&
        q.members.all fun a => if q.starved then s.holdsPartial a else !(s.slotWaits a).isEmpty
    | _ => false

/-- KNOT_LOOSEN: an edge grows by the least of its count, what the pool of its consumer's tile allows, and what keeps it at or below 65,535;
the growth shows in SLOTS and in FREE (R150). -/
def State.growEdge (s : State) (sw edge : Nat) : State × Nat × Nat :=
  match s.consumer sw edge with
  | none => (s, 0, 0)
  | some (t, k, p) =>
    let n := (s.slot t k).inSlots p
    let g := min n (min (Config.reservePool t - (s.tile t).poolUsed) (65535 - n))
    let s1 := s.modTile t fun x =>
      { x.modSlot k fun sl => sl.setRec (9 + 3 * p) 16 16 (n + g) with poolUsed := x.poolUsed + g }
    let s2 := match s.producer sw edge with
      | some (t', k', p') => s1.modSlot t' k' fun sl => sl.setFree p' (sl.free p' + g)
      | none => s1.modSwatch sw fun w => { w with hostFree := Map.set w.hostFree edge (Map.get 0 w.hostFree edge + g) }
    (s2, n + g, g)

/-- The edges of a knot grown in order: the new counts, and the growth in all. -/
def State.loosen (s : State) (sw : Nat) : List Nat → State × List Nat × Nat
  | [] => (s, [], 0)
  | e :: es =>
    let a := s.growEdge sw e
    let r := a.1.loosen sw es
    (r.1, a.2.1 :: r.2.1, a.2.2 + r.2.2)

/-- A notice to the owner. -/
def State.notify (s : State) (n : OwnerNotice) : State := { s with host := { s.host with notices := s.host.notices ++ [n] } }

/-- The tile from which a report comes: that of the actor where the probe started. -/
def Report.way (r : Report) : Option (List Nat) := some [(r.members.head?.map (·.1)).getD 0]

/-- KNOT_REPORT: a knot not yet reported goes to the owner, loosened first where the launch asks for it (R149, R150). Reports of one tile come in
the order in which they were sent (R136). -/
def execKnotReport (i : Nat) (s : State) : Out :=
  event (match s.reports[i]? with
    | none => s
    | some r =>
      let s1 := { s with reports := s.reports.eraseIdx i }
      if r.starved || !isFirst Report.way s.reports i then s
      else if s.standing r || !s.liveSwatch r.swatch then s1
      else if Words.field (s.swatch r.swatch).launch 1 2 1 = 1 then
        let a := s1.loosen r.swatch r.edges
        (a.1.inject r.swatch).notify (.report { r with counts := a.2.1, exhausted := a.2.2 == 0 })
      else s1.notify (.report r))

/-- Whether a stream or copy is outstanding in a scope of a swatch, in which it was issued (R28, R151). -/
def State.scopeEngines (s : State) (sw sc : Nat) : Bool :=
  let here := fun (g : Engine) => g.swatch == sw && g.scope == sc
  s.tiles.any fun e => ((List.range 16).any fun j => strBusy (e.2.stream j) && here (e.2.run j).eng) || e.2.copies.any fun c => here c.eng

/-- STARVED_CYCLE_REPORT: reported when no stream or copy is outstanding in the members' scopes and none of them is complete (R151). -/
def execStarvedCycleReport (i : Nat) (s : State) : Out :=
  event (match s.reports[i]? with
    | none => s
    | some r =>
      let s1 := { s with reports := s.reports.eraseIdx i }
      let scopes := r.members.map fun a => (s.slot a.1 a.2).scopeNo
      if !r.starved || !isFirst Report.way s.reports i then s
      else if s.standing r || !s.liveSwatch r.swatch then s1
      else if scopes.any fun sc => s.scopeEngines r.swatch sc || ((s.swatch r.swatch).scope sc).stateCode == 3 ||
          ((s.swatch r.swatch).scope sc).stateCode == 4 then s1
      else s1.notify (.report r))

end Sys2Proof.Machine
end

