-- ==== Sys2Proof/Machine/Rebind.lean ====
section
/-! DEFINITION. The rebalancer and the sequence by which an actor changes holder (R145, R146, R208). -/

namespace Sys2Proof.Machine

/-! ### When an actor moves (R208) -/

/-- Whether every input queue of a slot is at least three-quarters full. -/
def Slot.congested (sl : Slot) : Bool :=
  !sl.inPorts.isEmpty && sl.inPorts.all fun p => decide (3 * sl.inSlots p ≤ 4 * (sl.inQueue p).toks.length)

/-- Whether any port of slot k is on a stream edge or is a copy-request port (R281, R294). -/
def Tile.enginePorts (x : Tile) (k : Nat) : Bool :=
  ((x.slot k).inPorts.any fun p => !(x.edgeFlags k ((x.slot k).inEdge p) == 0)) ||
    (x.slot k).outPorts.any fun p => !(x.edgeFlags k ((x.slot k).outEdge p) == 0)

/-- Whether a swatch lets its actors move: open, not parked, not stopped, not being saved. A save asked for waits for the moves under way
(R353). -/
def Swatch.movable (w : Swatch) : Bool := w.phase == .open_ && !w.parked && w.stop.isNone && w.preempt.isNone

/-- Whether nothing binds an actor to its tile, and its swatch lets it move (R208). -/
def State.unbound (s : State) (t k : Nat) : Bool :=
  let x := s.tile t
  let sl := x.slot k
  decide (k < 16) && (s.swatch sl.swatch).movable && !s.scopeEnded sl && !Config.pinned t k &&
    x.strCount k == 0 && !x.enginePorts k && !(x.barriers.any fun b => b.2 == k)

/-- Whether a move of an actor may start: no save of its swatch has been asked for. -/
def State.mayMove (s : State) (t k : Nat) : Bool :=
  ((s.slot t k).stateCode == 1 || (s.slot t k).stateCode == 3) && s.unbound t k && (s.swatch (s.slot t k).swatch).preemptWait.isNone

/-- Whether a window of the given word is free on a tile and below its system region. -/
def Tile.windowFree (x : Tile) (t w : Nat) : Bool :=
  winLen w == 0 || (decide (winBase w + winLen w ≤ x.sysb t) &&
    x.windowWords.all fun m => !runsOverlap (winBase w) (winLen w) (winBase (x.cword m)) (winLen (x.cword m)))

/-- Whether slot k2 of tile t2 can take the actor in slot k of tile t: free, with the granules, semaphores and queue room it needs. -/
def State.canTake (s : State) (t k t2 k2 : Nat) : Bool :=
  let x := s.tile t
  let y := s.tile t2
  !(t == t2) && (s.swatch (x.slot k).swatch).tiles.contains t2 && decide (k2 < 16) && (y.slot k2).stateCode == 0 &&
    y.windowFree t2 (x.pwin k) && y.windowFree t2 (x.swin k) &&
    (y.residents.all fun j => !runsOverlap (x.semBase k) (x.semCount k) (y.semBase j) (y.semCount j)) &&
    Config.queueFits t2 ((y.loaded.flatMap fun j => (y.slot j).queueNeeds) ++ (x.slot k).queueNeeds)

/-- The senders of an actor: the tiles of its producers and of the consumers of its outputs, and the selvage for its host edges (R145). -/
def State.sendersOf (s : State) (t k : Nat) : List Nat :=
  let sl := s.slot t k
  ((sl.inPorts.map fun p => match s.producer sl.swatch (sl.inEdge p) with
      | some (t', _, _) => t'
      | none => selvage) ++
    sl.outPorts.map fun p => match s.consumer sl.swatch (sl.outEdge p) with
      | some (t', _, _) => t'
      | none => selvage).eraseDups

/-- The tiles that a move concerns. -/
def Rebind.tiles (r : Rebind) : List Nat := r.tile :: r.toTile :: r.senders.filter fun t => !(t == selvage)

/-- REBALANCER_MOVE: the rebalancer starts moving a congested actor whose tile has no other ready actor. Moves that concern a tile in common
do not run together (log entry 13). -/
def execRebalancerMove (t k t2 k2 : Nat) (s : State) : Out :=
  event (
    let r : Rebind :=
      { id := s.nextMove, tile := t, slot := k, toTile := t2, toSlot := k2, senders := s.sendersOf t k, held := [], acked := [] }
    if s.mayMove t k && (s.slot t k).congested && !((List.range 17).any fun j => !(j == k) && s.isReady t j) && s.canTake t k t2 k2 &&
        s.rebinds.all (fun q => q.tiles.all fun a => !r.tiles.contains a) then
      let s1 := { s with rebinds := s.rebinds ++ [r], nextMove := s.nextMove + 1 }
      if (s.slot t k).stateCode = 3 then s1 else (s1.modSlot t k fun sl => sl.setState 4).dropUnready t
    else s)

/-! ### Steps 1 to 3 -/

/-- The classes in which a sender has traffic toward a holder. -/
def rebindClasses : List TrafficClass := [.token, .paged, .slotReturn]

/-- Whether the next thing to land of a class between two nodes is the acknowledgement of a move. -/
def State.ackFirst (s : State) (src dst m : Nat) (cls : TrafficClass) : Bool :=
  match takePacket src dst cls s.net with
  | some (p, _) => match p.body with
    | .holdAck m' => m' == m
    | _ => false
  | none => false

/-- Whether the hold of an earlier move is still on its way to a sender: the selvage's holds come to a tile in the order of the moves (R136). -/
def State.holdBehind (s : State) (m sender : Nat) : Bool :=
  (s.rebinds.takeWhile fun r => !(r.id == m)).any fun r => r.senders.contains sender && !r.held.contains sender

/-- REBIND_HOLD: a sender takes the hold and puts its acknowledgement behind its last flit in every class (R145 steps 1 and 3). -/
def execRebindHold (m sender : Nat) (s : State) : Out :=
  event (match s.rebinds.find? fun r => r.id == m with
    | some r =>
      if r.senders.contains sender ∧ !r.held.contains sender ∧ !s.holdBehind m sender then
        rebindClasses.foldl (fun s c => s.send { src := sender, dst := r.tile, cls := c, body := .holdAck m })
          { s with rebinds := s.rebinds.map fun q => if q.id = m then { q with held := sender :: q.held } else q }
      else s
    | none => s)

/-! ### Steps 4 to 6 -/

/-- Bytes of a window that are not 0. -/
def Tile.windowBytes (x : Tile) (w : Nat) : List (Nat × Byte) := x.sram.filter fun e => inWindow w (e.1 / 1024)

/-- Words of a window among a list of word addresses. -/
def wordsIn (w : Nat) (l : List Nat) : List Nat := l.filter fun a => inWindow w (a / 1024)

/-- The tile with slot k2 holding what slot k of another tile held: record, queues, windows, semaphores and full inbox entries, the windows
and semaphores at the same places, its age 0 as that of a slot newly loaded (R145 step 4, R163). What its accesses came after on the old
tile they come after here (R330). Words of the scratch window that cannot be read stay so. -/
def Tile.receive (y x : Tile) (k k2 : Nat) (sl : Slot) : Tile :=
  let mine := x.entries k .full
  let order := ((List.range x.stamp).flatMap fun n => mine.filter fun i => (x.entry i).stamp == n)
  let words := [0x040, 0x060, 0x0A0, 0x0C0].foldl (fun m n => Map.set m (n + k2) (Map.get 0 x.cwords (n + k))) y.cwords
  let clear := fun (m : Memory) (w : Nat) => m.filter fun e => !inWindow w (e.1 / 1024)
  let sram := (x.windowBytes (x.pwin k) ++ x.windowBytes (x.swin k)).foldl (fun m e => Memory.write m e.1 e.2)
    (clear (clear y.sram (x.pwin k)) (x.swin k))
  let shown := fun (o : Order) (w : Nat) => o.overlay 0 (winBase w * 1024) (Memory.readN sram (winBase w * 1024) (winLen w * 1024))
  let keep := fun (l : List Nat) => l.filter fun a => !inWindow (x.pwin k) (a / 1024) && !inWindow (x.swin k) (a / 1024)
  let y1 : Tile := { y with
    cwords := words, sram := sram, order := shown (shown y.order (x.pwin k)) (x.swin k), view := View.join y.view x.view
    poisoned := keep y.poisoned ++ wordsIn (x.swin k) (x.poisoned ++ x.uncorrectable)
    uncorrectable := keep y.uncorrectable
    singleError := keep y.singleError
    sems := (List.range (x.semCount k)).foldl (fun m j => Map.set m (x.semBase k + j) (Map.get 0 x.sems (x.semBase k + j))) y.sems }
  let y2 := y1.setSlot k2 { sl with record := Words.setField sl.record 2 16 4 k2, age := 0, lastUid := y.nextUid }
  order.foldl (fun y i => match y.freeEntryNo with
    | some j => y.fill j k2 0 (x.entry i).swatch { (x.entry i).reach with sram := Stamp.zero } (x.entry i).words
    | none => y) y2

/-- The free entries of an inbox. -/
def Tile.freeEntries (x : Tile) : Nat := ((List.range 64).filter fun i => (x.entry i).state == .free).length

/-- Whether the old holder has done: every sender has acknowledged, the firing is over, its own sends have landed, its copies and atomics are
over, and the new holder has room for its inbox entries (R145 steps 2 to 4). -/
def State.moveReady (s : State) (r : Rebind) : Bool :=
  let x := s.tile r.tile
  (r.senders.all r.acked.contains) && !(x.firing.any fun f => f.slot == r.slot) && !(s.net.any fun p => p.src == r.tile && !s.heldBack p) &&
    !(x.copies.any fun c => c.slot == r.slot) && !(x.atomics.any fun a => a.slot == r.slot) &&
    decide ((x.entries r.slot .full).length ≤ (s.tile r.toTile).freeEntries)

/-- The relative name of tile b from tile a. -/
def relName (a b : Nat) : Nat := packRel ((tileX b : Int) - tileX a) ((tileY b : Int) - tileY a)

/-- A port descriptor that names the new holder of its consumer. -/
def Slot.retarget (sl : Slot) (p a t k : Nat) : Slot :=
  { sl with record := Words.setField (Words.setWord sl.record (32 + 4 * p) (relName a t)) (33 + 4 * p) 0 4 k }

/-- The actor's own output ports as its new tile names their consumers. -/
def Slot.moveOutputs (sl : Slot) (w : Swatch) (t t2 : Nat) : Slot :=
  sl.outPorts.foldl (fun q p => match w.rel t (q.dest p) with
    | some a => if q.outHost p then q else { q with record := Words.setWord q.record (32 + 4 * p) (relName t2 a) }
    | none => q) sl

/-- The output ports of the records of a paged launch that produce an edge: record and port. -/
def State.tableProducers (s : State) (w : Swatch) (edge : Nat) : List (Nat × Words × Nat) :=
  if w.paged then (List.range (Words.word w.launch 15)).flatMap fun i => match s.pagedRecord w i with
    | some r => ((slotOf r).outPorts.filter fun p => (slotOf r).outEdge p == edge).map fun p => (i, r, p)
    | none => []
  else []

/-- The descriptors of an edge in the record table rewritten for a consumer that moves from tile t to slot k2 of tile t2, each by the way it
moves: a producer that is not resident has its descriptor there (R145 step 5, R206). -/
def State.rewriteTable (s : State) (sw edge t t2 k2 : Nat) : State :=
  let w := s.swatch sw
  (s.tableProducers w edge).foldl (fun s e =>
    let d := Words.word e.2.1 (32 + 4 * e.2.2)
    let dest := packRel (relDx d + ((tileX t2 : Int) - tileX t)) (relDy d + ((tileY t2 : Int) - tileY t))
    let flags := setBitField (Words.word e.2.1 (33 + 4 * e.2.2)) 0 4 k2
    match s.writeVirt w.tag (Words.dword w.launch 16 + 256 * e.1 + 128 + 16 * e.2.2) (wordsBytes [dest, flags]) with
    | .ok s1 => s1
    | .error _ => s) s

/-- The port descriptors of the producers of an actor that has moved from tile t rewritten to name the new holder, in slots and in a record table,
and the end of an edge that no slot produces noted with the launch (R145 step 5, R208). -/
def State.rewriteSenders (s : State) (sw t t2 k2 : Nat) : State :=
  let sl := s.slot t2 k2
  sl.inPorts.foldl (fun s p =>
    let s1 := s.rewriteTable sw (sl.inEdge p) t t2 k2
    match s1.producer sw (sl.inEdge p) with
    | some (t', k', p') => s1.modSlot t' k' fun q => q.retarget p' t' t2 k2
    | none => s1.modSwatch sw fun w => { w with edgeTile := Map.set w.edgeTile (sl.inEdge p) t2 }) s

/-- A packet body addressed to another slot of its new tile. -/
def PacketBody.readdress (k2 : Nat) : PacketBody → PacketBody
  | .token _ p tok => .token k2 p tok
  | .scale _ p sc => .scale k2 p sc
  | .slotReturn _ p n => .slotReturn k2 p n
  | .permit _ => .permit k2
  | .close _ t k => .close k2 t k
  | .closeReply _ c => .closeReply k2 c
  | b => b

/-- Whether a packet for slot k of tile t comes from that slot itself. -/
def State.selfSent (s : State) (t k : Nat) (b : PacketBody) : Bool :=
  let sl := s.slot t k
  let from_ := fun e => match s.producer sl.swatch e with
    | some a => a.1 == t && a.2.1 == k
    | none => false
  match b with
  | .token _ p _ => from_ (sl.inEdge p)
  | .scale _ p _ => from_ (sl.inEdge p)
  | .paged e _ _ => from_ e
  | .slotReturn _ p _ => match s.consumer sl.swatch (sl.outEdge p) with
    | some a => a.1 == t && a.2.1 == k
    | none => false
  | _ => false

/-- Traffic that waited at the senders goes to the new holder (R145 step 6). -/
def State.redirect (s : State) (r : Rebind) (p : Packet) : Packet :=
  if p.dst = r.tile ∧ s.bodyFor r.tile r.slot p.body then
    { p with
      src := if p.src = r.tile ∧ s.selfSent r.tile r.slot p.body then r.toTile else p.src
      dst := r.toTile, body := p.body.readdress r.toSlot }
  else p

/-- REBIND_STATE_COPY: steps 4 to 6. -/
def State.finishMove (s : State) (r : Rebind) : State :=
  let x := s.tile r.tile
  let sl := x.slot r.slot
  let w := s.swatch sl.swatch
  let s1 : State := { s with net := s.net.map (s.redirect r), rebinds := s.rebinds.filter fun q => !(q.id == r.id) }
  let s2 := (s1.modConfig r.toTile fun y => y.receive x r.slot r.toSlot (sl.moveOutputs w r.tile r.toTile)).modConfig r.tile fun x =>
    (x.clearSlot r.slot).freeGrants r.slot
  let s3 := (s2.rewriteSenders sl.swatch r.tile r.toTile r.toSlot).modSwatch sl.swatch fun w =>
    { w with recordTable := w.recordTable.map fun e => if e.1 = r.tile ∧ e.2.1 = r.slot then (r.toTile, r.toSlot, e.2.2) else e }
  s3.modSlot r.toTile r.toSlot fun sl => sl.setState (s3.restingCode r.toTile r.toSlot)

/-- A move given up when its last steps can no longer be taken: the holds are released, and the actor goes on where it is (R208; log entry 13).
-/
def State.giveUpMove (s : State) (r : Rebind) : State :=
  let s1 : State := { s with rebinds := s.rebinds.filter fun q => !(q.id == r.id) }
  if (s1.slot r.tile r.slot).stateCode = 4 then s1.modSlot r.tile r.slot fun sl => sl.setState (s1.restingCode r.tile r.slot) else s1

/-- The end of a move whose old holder has done: what allowed it is looked at once more, as launches, fetched records and the actor itself
went on meanwhile; a save of the swatch that waited for it begins then (R353 step 1). -/
def State.endMove (s : State) (r : Rebind) : State :=
  let sw := (s.slot r.tile r.slot).swatch
  let s1 := if s.unbound r.tile r.slot && s.canTake r.tile r.slot r.toTile r.toSlot then s.finishMove r else s.giveUpMove r
  match (s1.swatch sw).preemptWait with
  | some p => s1.beginPreempt sw p.1 p.2
  | none => s1

/-- A sender's acknowledgements of a move taken from the network. -/
def State.takeAcks (s : State) (r : Rebind) (sender : Nat) : State :=
  { s with
    net := s.net.filter fun p => !(p.src == sender && p.dst == r.tile && p.body == .holdAck r.id)
    rebinds := s.rebinds.map fun q => if q.id = r.id then { q with acked := sender :: q.acked } else q }

/-- HOLD_ACKNOWLEDGEMENT: a sender's acknowledgements reach the old holder, behind its last flits; once all have arrived and the holder has
done, the move goes through its last steps (R145). -/
def execHoldAcknowledgement (m sender : Nat) (s : State) : Out :=
  event (match s.rebinds.find? fun r => r.id == m with
    | none => s
    | some r =>
      let s1 := if r.held.contains sender ∧ !r.acked.contains sender ∧ rebindClasses.all (s.ackFirst sender r.tile m) then s.takeAcks r sender
        else s
      match s1.rebinds.find? fun r => r.id == m with
      | some r1 => if s1.moveReady r1 then s1.endMove r1 else s1
      | none => s1)

end Sys2Proof.Machine
end

