-- ==== Sys2Proof/Machine/Stop.lean ====
section
/-! DEFINITION. Stopped swatches, pre-emption and bind-off (R192, R305, R352 to R354, R358). -/

namespace Sys2Proof.Machine

/-! ### When a swatch is quiet -/

/-- Whether a packet on its way belongs to a swatch; a message or an arrival belongs to that of the firing that sent it. -/
def State.packetOf (s : State) (sw : Nat) (p : Packet) : Bool :=
  let there := fun k => (s.slot p.dst k).swatch == sw
  match p.body with
  | .token k _ _ => if p.dst = selvage then (s.slot p.src k).swatch == sw else there k
  | .scale k _ _ => there k
  | .paged _ sw' _ => sw' == sw
  | .pagedScale _ sw' _ => sw' == sw
  | .pagedPermit _ sw' => sw' == sw
  | .pagedClose _ sw' _ _ => sw' == sw
  | .message sw' _ => sw' == sw
  | .arrival .. => p.sender.1 == sw
  | .slotReturn k _ _ => if p.dst = selvage then k == sw else there k
  | .permit k => there k
  | .close k _ _ => there k
  | .closeReply k _ => there k
  | .holdAck _ => false

/-- Whether nothing of a swatch is on its way and none of its actors is moving. -/
def State.quiet (s : State) (sw : Nat) : Bool :=
  !(s.net.any (s.packetOf sw)) && !s.moving sw

/-- Whether a stream is held or paused at an outer-loop boundary with nothing outstanding (R279, R305, R352, R353). -/
def State.streamAtRest (s : State) (t k : Nat) : Bool :=
  let x := s.tile t
  let run := x.run k
  !strBusy (x.stream k) ||
    ((strState (x.stream k) == 2 || strState (x.stream k) == 3) && run.eng.outstanding.isEmpty && !run.voiding && !run.marked &&
      atOuter (x.stream k) run.begun && (s.streamEnd t k).isNone)

/-- Whether every operation of a swatch rests on a tile: its streams held, no copy left or asked for, no atomic but watches (R352, R353). -/
def State.enginesAtRest (s : State) (sw t : Nat) : Bool :=
  let x := s.tile t
  ((List.range 16).all fun j => !(strBusy (x.stream j) && (x.run j).eng.swatch == sw) || s.streamAtRest t j) &&
    !(x.copies.any fun c => c.eng.swatch == sw) && !(x.atomics.any fun q => q.eng.swatch == sw && !(q.op == 9)) &&
    x.loaded.all fun k => !((x.slot k).swatch == sw) || (x.slot k).outPorts.all fun p =>
      bitField (x.edgeFlags k ((x.slot k).outEdge p)) 1 1 == 0 || ((x.slot k).outQueue p).local_.isEmpty

/-- Whether a firing no longer runs for a swatch that stops: it is halted, or abandoned for a save that is asked for, with none of its
operations left (R352, R353). -/
def State.firingAtRest (s : State) (t : Nat) (f : Firing) : Bool :=
  match f.phase with
  | .halted _ => true
  | .abandoned => (s.swatch (s.slot t f.slot).swatch).preempt.isSome && !(s.tile t).attemptBusy f.uid
  | _ => false

/-- Every slot of a swatch stopped (R352). -/
def State.stopSlots (s : State) (sw : Nat) : State := (s.actorsOf sw).foldl (fun s a => s.modSlot a.1 a.2 fun sl => sl.setState 6) s

/-- SWATCH_STOPPED: the other firings over, halted or abandoned for a save, tokens landed, streams held, copies and atomics over; every slot is
stopped and the owner is told the cause and the faulting slot (R192, R352). -/
def execSwatchStopped (sw : Nat) (s : State) : Out :=
  event (
    let w := s.swatch sw
    match w.stop with
    | some i =>
      if s.liveSwatch sw && w.phase == .stopping && (w.tiles.all fun t => (s.firingIn sw t).all (s.firingAtRest t)) && s.quiet sw &&
          w.tiles.all (s.enginesAtRest sw) then
        ((s.stopSlots sw).modSwatch sw fun w => { w with phase := .stopped, stop := some { i with notified := true } }).notify
          (.stopped sw i.cause i.tile i.slot)
      else s
    | none => s)

/-! ### The owner's answers (R352) -/

/-- The state of an actor's slot as its swatch opens again: of one with a firing that of the firing, else the one it rests in. -/
def State.openCode (s : State) (sw t k : Nat) : Nat :=
  match (s.firingIn sw t).filter fun f => f.slot == k with
  | some f => match f.phase with
    | .halted _ => 6
    | _ => 3
  | none => s.restingCode t k

/-- A stopped swatch open again: its slots take the states they rest in, gates reopen unless a save is asked for, held tokens enter; a request
of HALTQ that waited for this is made (R346, R352). -/
def State.reopen (s : State) (sw : Nat) : State :=
  let s1 := s.modSwatch sw fun w => { w with
    phase := .open_, stop := none, afterStop := false, gates := w.preempt.isNone && !s.power.failing
    haltReq := w.haltReq && w.preempt.isSome, haltPending := false }
  let s2 := (s1.actorsOf sw).foldl (fun s a => s.modSlot a.1 a.2 fun sl => sl.setState (s1.openCode sw a.1 a.2)) s1
  let s3 := (s.swatch sw).tiles.foldl (fun s t => if (s.slot t 16).stateCode = 6 ∧ (s.tile t).firing.all (fun f => !(f.slot == 16)) then
    s.modSlot t 16 fun sl => sl.setState 1 else s) s2
  if (s.swatch sw).haltPending then (s3.inject sw).requestSave sw else s3.inject sw

/-- A firing of slot k, of the inbox actor on a message, that commits as void at once, whatever else runs on the tile (R186, R201, R352). -/
def State.voidFiring (s : State) (t k : Nat) (msg : Option Nat) : State :=
  let f := (s.tile t).firing
  let s1 := s.modTile t fun x => { x with firing := none }
  ((s1.startFiring t k msg).voidCommit t none).modTile t fun x => { x with firing := f }

/-- The answer void: the faulting firing, if the swatch has one, commits as void; then as resume. -/
def State.answerVoid (s : State) (sw : Nat) : State :=
  match (s.swatch sw).stop with
  | some i => if i.firing then (s.voidFiring i.tile i.slot i.message).reopen sw else s.reopen sw
  | none => s

/-! ### Pre-emption (R353, R354) -/

/-- Whether a swatch may be saved now (R353 steps 2 to 4). -/
def State.saveReady (s : State) (sw : Nat) : Bool :=
  let w := s.swatch sw
  let ended := w.tiles.all fun t => (s.firingIn sw t).all fun f => f.phase == .abandoned && !(s.tile t).attemptBusy f.uid
  w.preempt.isSome && !s.power.failing && (w.phase == .open_ || w.phase == .stopped) && (w.stop.isNone || w.afterStop) && ended && s.quiet sw &&
    w.tiles.all (s.enginesAtRest sw)

/-- The firings of a swatch that were abandoned are over with it; none of them ages a slot (R163). -/
def State.endAbandoned (s : State) (sw : Nat) : State :=
  (s.swatch sw).tiles.foldl (fun s t => match s.firingIn sw t with
    | some f => s.closeFiring t (s.restingCode t f.slot)
    | none => s) s

/-- A save that could not be written: the swatch stays held as a stopped one, and the owner learns the length needed (R354). -/
def State.saveFails (s : State) (sw len : Nat) : State :=
  ((s.stopSlots sw).modSwatch sw fun w => { w with
    preempt := none, gates := false, phase := .stopped, afterStop := false
    stop := match w.stop with
      | some i => some i
      | none => some { cause := 0x31, tile := 0, slot := 0xFF, firing := false, message := none, notified := true } }).notify (.saveFailed sw len)

/-- The standing fault notices of a swatch withdrawn: what paused has gone with it, and sends its notice again when it is restored (R302, R357).
-/
def State.withdrawAll (s : State) (sw : Nat) : State :=
  (s.swatch sw).tiles.foldl (fun s t =>
    let x := s.tile t
    let engines := (x.runs.map fun e => e.2.eng) ++ (x.copies.map fun c => c.eng) ++ x.atomics.map fun a => a.eng
    (engines.filter fun g => g.swatch == sw).foldl (fun s g => s.withdraw g.notice) s) s

/-- A quiet swatch written to its address, its notices withdrawn, cleared and released, and the owner told; or held, where the save area is too
small or a write faults (R302, R353 steps 5 and 6, R354). Its windows are read as any SRAM is (R223, R224), and the part keeps the block
positions of its edges beside the image (R23; log entry 31). -/
def State.save (s0 : State) (sw va : Nat) : State :=
  let s := s0.mendWindows sw
  let w := s.swatch sw
  let image := s.saveImage sw 0x31
  let at_ := if va = 0 then Words.dword w.launch 18 else va
  if at_ % 64 == 0 && (!(va == 0) || decide (image.length ≤ Words.dword w.launch 20)) then
    match s.writeVirt w.tag at_ image with
    | .ok s1 =>
      ({ s1.withdrawAll sw with places := s1.places ++ [(image, s.edgePlaces sw)] }.releaseSwatch sw).notify (.saved sw at_ image.length)
    | .error _ => s.saveFails sw image.length
  else s.saveFails sw image.length

/-- PREEMPT_SAVE: a quiet swatch saved (R353). One pre-empted before step 4 of its launch takes its scope table and its seeds first, the seeds
as tokens that the selvage holds, and its launch completes (R26; log entry 31). -/
def execPreemptSave (sw : Nat) (s : State) : Out :=
  event (
    let w := s.swatch sw
    match w.preempt with
    | some (va, _) =>
      if s.liveSwatch sw && s.saveReady sw then
        let s1 := s.endAbandoned sw
        if w.tableLoaded then s1.save sw va
        else match s1.loadTable sw with
          | .error c => s1.launchEnds sw c
          | .ok s2 => (s2.launchDone sw).save sw va
      else s
    | none => s)

/-! ### Bind-off (R358) -/

/-- A running firing ended at once by bind-off, which ages no slot; one past its commit point commits (R163, R176, R358). -/
def State.bindOffFiring (s : State) (sw t : Nat) : State :=
  match s.firingIn sw t with
  | some f => match f.phase with
    | .committing true => s.commit t f
    | .released => s.completeCommit t f
    | _ => (s.abandon t).closeFiring t (if f.slot = 16 then 1 else 5)
  | none => s

/-- Bind-off begun: gates close, firings end, every actor drains as under R191, tokens bound for the host are discarded (R358). -/
def State.bindOff (s : State) (sw : Nat) : State :=
  let s1 := s.modSwatch sw fun w => { w with
    gates := false, phase := .bindingOff, stop := none, preempt := none, preemptWait := none, segments := [], seeds := [], hostToks := [] }
  let s2 := (s1.swatch sw).tiles.foldl (fun s t => s.bindOffFiring sw t) s1
  let s3 := (s2.actorsOf sw).foldl (fun s a => (s.modSlot a.1 a.2 fun sl => if sl.stateCode = 6 ∨ sl.stateCode = 7 then sl.setState 1 else sl).drainActor
    a.1 a.2) s2
  let s4 := (s3.swatch sw).tiles.foldl (fun s t => s.cancelWatches t (fun a => a.slot == 16 && a.eng.swatch == sw) 0x81) s3
  { s4 with net := s4.net.filter fun p => !(p.dst == selvage && s4.packetOf sw p && (match p.body with | .token .. => true | _ => false)) }

/-- BIND_OFF_RELEASE: the swatch is empty; it is cleared and released, and the owner is told (R358). -/
def execBindOffRelease (sw : Nat) (s : State) : Out :=
  event (
    let w := s.swatch sw
    if s.liveSwatch sw && w.phase == .bindingOff && s.quiet sw && (w.tiles.all fun t => (s.firingIn sw t).isNone) &&
        !((s.actorsOf sw).any fun a => (s.tile a.1).slotBusy a.2) && !(w.tiles.any fun t => (s.tile t).opsIn fun g => g.swatch == sw) then
      ((s.releaseSwatch sw).completeOpt w.launchHdr 0xE7).notify (.released sw)
    else s)

end Sys2Proof.Machine
end

