-- ==== Sys2Proof/Machine/Power.lean ====
section
/-! DEFINITION. Power delivery, power failure, starts, ownership and peers (R339, R362 to R364, R393 to R397). -/

namespace Sys2Proof.Machine

/-! ### The power-step throttle (R339, R362, R396) -/

/-- Event 7 of every running firing where CW.PWRCAP has changed (R344). -/
def State.signalCap (s : State) (old : Nat) : State :=
  if s.pwrcap = old then s
  else { s with tiles := s.tiles.map fun e =>
    (e.1, { e.2 with firing := e.2.firing.map fun f => { f with evpend := f.evpend ||| 128 } }) }

/-- The power state changed. -/
def State.modPower (s : State) (f : Power → Power) : State := { s with power := f s.power }.signalCap s.pwrcap

/-- GRID_SIGNAL: the grid-signal input sets a cap; the part obeys the larger of the two (R396). -/
def execGridSignal (k : Nat) (s : State) : Out := event (s.modPower fun p => { p with capGrid := min k 15 })

/-- Steps of 5 % by which tile clocks can be lowered before they stand at 0.45 GHz. -/
def clockSteps : Nat := 12

/-- Deferrable launches parked or freed. -/
def State.parkAll (s : State) (on : Bool) : State :=
  ((Map.keys s.swatches).filter fun n => (s.swatch n).deferrable).foldl (fun s n => s.parkSwatch n on) s

/-- One step taken: half the matrix rate, lower clocks step by step, no seeds, deferrable scopes parked, then the shortfall reported (R396). -/
def State.throttle (s : State) : State :=
  if s.power.step = 2 ∧ s.power.clockDown < clockSteps then s.modPower fun p => { p with clockDown := p.clockDown + 1 }
  else if s.power.step < 3 then s.modPower fun p => { p with step := p.step + 1 }
  else if s.power.step = 3 then (s.modPower fun p => { p with step := 4 }).parkAll true
  else if s.power.shortfall then s
  else (s.modPower fun p => { p with shortfall := true }).notify .shortfall

/-- One step released, in reverse order: held seeds enter again with step 3 (R26, R396). -/
def State.unthrottle (s : State) : State :=
  if s.power.shortfall then s.modPower fun p => { p with shortfall := false }
  else if s.power.step = 4 then (s.modPower fun p => { p with step := 3 }).parkAll false
  else if s.power.step = 3 then (s.modPower fun p => { p with step := 2 }).injectAll
  else if s.power.step = 2 ∧ 0 < s.power.clockDown then s.modPower fun p => { p with clockDown := p.clockDown - 1 }
  else s.modPower fun p => { p with step := p.step - 1 }

/-- POWER_WINDOW: a window of 100 µs measured above the cap or within it (R396). -/
def execPowerWindow (exceeds : Bool) (s : State) : Out := event (if exceeds then s.throttle else s.unthrottle)

/-! ### Power failure (R363, R397) -/

/-- POWER_FAIL_TRAP: gates close, no seed enters, no firing is selected, streams and copies stand (R363). -/
def execPowerFailTrap (s : State) : Out :=
  event (
    let s1 : State := { s with
      power := { s.power with failing := true }, swatches := s.swatches.map fun e => (e.1, { e.2 with gates := false }) }
    (Map.keys s1.tiles).foldl State.dropUnready s1)

/-- A direct firing that the power failure abandons: what it staged is discarded and the entries that it took are full again, and the operations
that it issued at once stay its own (R310, R363). -/
def State.failDirect (s : State) (t : Nat) (f : Firing) : State :=
  let s1 := ((s.settleDelta t).discardStaged t).modTile t fun x =>
    { (x.unhalt.keepTaken f.slot) with firing := some { f with phase := .abandoned, deferred := [], delta := [] }, matOps := [] }
  { s1 with power := { s1.power with aborted := s1.power.aborted ++ [(t, f.slot)] } }

/-- A firing that still runs at the deadline: past its commit point it commits, else it is abandoned, a direct one marked for cause 0x30 at
the warm start (R363). -/
def State.failFiring (s : State) (t : Nat) : State :=
  match (s.tile t).firing with
  | none => s
  | some f =>
    match f.phase with
    | .committing true => s.commit t f
    | .released => s.completeCommit t f
    | .abandoned => s
    | _ => if (s.slot t f.slot).cls = 2 then s.failDirect t f else s.abandon t

/-- POWER_FAIL_DEADLINE: 50 µs after the trap every firing has stopped (R363). -/
def execPowerFailDeadline (s : State) : Out :=
  event (if s.power.failing then (Map.keys s.tiles).foldl State.failFiring s else s)

/-- Whether an address lies in a persistent range. -/
def State.persists (s : State) (a : Nat) : Bool := s.persist.any fun r => decide (r.1 ≤ a) && decide (a < r.1 + r.2)

/-- Numbers as bytes, eight each. -/
def numberBytes (l : List Nat) : List Byte := l.flatMap (leBytes 8)

/-- The bytes of what a drain writes ahead of its record, in the order of R397: images with their scope tables; error logs, guilt counts with
limits and bars, owner, remap and its seal; persistent pages. The layout of what no rule lays out is the model's (log entry 11). -/
def Flash.bytes (f : Flash) : List Byte :=
  (f.images.flatMap fun e => numberBytes [e.1] ++ e.2.2) ++ numberBytes f.casting ++
    (f.errors.flatMap fun e => numberBytes [e.1, e.2.errorCount] ++ e.2.errors.flatten) ++
    numberBytes (f.guilt.flatMap fun e => [e.1, e.2]) ++ numberBytes (f.limits.flatMap fun e => [e.1, e.2]) ++ numberBytes f.barred ++
    numberBytes [f.owner.getD (2 ^ 64 - 1)] ++ numberBytes (f.binding.flatMap fun e => [e.1, e.2]) ++
    (f.hops.flatMap fun e => numberBytes (e.1 :: (e.2.1 ++ e.2.2).flatMap fun h => [h.1, h.2.toNat])) ++ f.remap.1 ++ f.remap.2 ++
    numberBytes (f.persist.flatMap fun e => [e.1, e.2]) ++ f.pages.map (·.2)

/-- The digest and the signature of the stored remap (R395 step 3). -/
def remapSeal (layout : Nat) (binding : Map Nat) : List Byte × List Byte :=
  (Config.remapDigest layout binding, Config.sm2Sign (Config.remapDigest layout binding))

/-- The digest and the signature that a valid drain record carries (R397). -/
def Flash.seal (f : Flash) : List Byte × List Byte := (digest f.bytes, Config.sm2Sign (digest f.bytes))

/-- Whether flash holds a valid drain record. -/
def Flash.valid (f : Flash) : Bool := f.record == some f.seal

/-- Whether the stored remap passes the check of its digest and its signature (R395 step 3). -/
def State.remapOk (s : State) (f : Flash) : Bool := f.remap == remapSeal s.layout f.binding

/-- What a drain writes (R397). -/
def State.drainRecord (s : State) : Flash :=
  let f : Flash :=
    { images := (s.swatches.filter fun e => !(e.2.phase == .casting)).map fun e => (e.1, e.2, (s.mendWindows e.1).saveImage e.1 0x30)
      casting := (s.swatches.filter fun e => e.2.phase == .casting).map (·.1)
      guilt := s.host.guilt, limits := s.host.limits, barred := s.host.barred, owner := s.host.owner, errors := s.phys, binding := s.binding
      hops := s.tiles.map fun e => (e.1, e.2.gauge, e.2.nptr)
      copies := s.tiles.flatMap fun e => (e.2.copies.filter fun c => !c.deferred && !c.eng.orphan).map fun c => (e.1, c)
      atomics := s.tiles.flatMap fun e => (e.2.atomics.filter fun a => !a.deferred && !a.eng.orphan && !(a.op == 9)).map fun a => (e.1, a)
      aborted := s.power.aborted, persist := s.persist, pages := s.dram.filter fun e => s.persists e.1
      places := s.swatches.map fun e => ((s.mendWindows e.1).saveImage e.1 0x30, s.edgePlaces e.1)
      remap := remapSeal s.layout s.binding, record := none }
  if Config.drainLasts s.tick then { f with record := some f.seal } else f

/-- FLASH_DRAIN: every firing has stopped and everything on its way has landed; the images, the selvage state, persistent pages and the drain
record go to flash, as far as the charge lasts (R363, R397). An atomic that has been sent has been answered by then; one that has not goes
out at the warm start (R325, R363). -/
def execFlashDrain (s : State) : Out :=
  event (
    let still := s.tiles.all fun e => e.2.firing.all fun f => f.phase == .abandoned
    let answered := s.tiles.all fun e => e.2.atomics.all fun a => a.op == 9 || a.eng.outstanding.isEmpty
    if s.power.failing && still && s.net.isEmpty && s.rebinds.isEmpty && s.memReqs.isEmpty && s.memReplies.isEmpty && answered then
      { s with flash := some s.drainRecord }
    else s)

/-! ### Ownership (R393) -/

/-- The lowest-numbered adapter that presents a valid owner certificate, those that have gone silent apart. -/
def electOwner (root : Option Nat) (silent : List Nat) : Option Nat :=
  (List.range Config.adapters).find? fun a => !silent.contains a && Config.certOk a root

/-- The adapter whose certificate is the first presented, while no root key is held (R393; log entry 7). -/
def firstPresenter (tick : Nat) (silent : List Nat) : Option Nat :=
  let l := (List.range Config.adapters).filter fun a => !silent.contains a && Config.certOk a none
  l[Config.firstCert tick % l.length]?

/-- An election: with no root key held, the first certificate presented enrols its issuer's key (R393). -/
def HostSide.elect (h : HostSide) (tick : Nat) : HostSide :=
  let root := match h.rootKey with
    | some k => some k
    | none => (firstPresenter tick h.silent).map Config.certIssuer
  { h with owner := root.bind fun k => electOwner (some k) h.silent, rootKey := root }

/-- OWNER_SILENCE: the owner's link silent for 500 ms; the election runs among the adapters that remain (R393). -/
def execOwnerSilence (s : State) : Out :=
  event (match s.host.owner with
    | some o => { s with host := { s.host with silent := o :: s.host.silent }.elect s.tick }
    | none => s)

/-- PEER_LINK_DOWN: a peer link down for 500 ms stops the swatch on this module with 0x21; the other is the peer module's (R394). -/
def execPeerLinkDown (i : Nat) (s : State) : Out :=
  event (match s.host.peers[i]? with
    | some p => { s with host := { s.host with peers := s.host.peers.modify i fun q => { q with down := true } } }.stopSwatch p.swatch 0x21 0 0xFF
    | none => s)

/-! ### Starts (R364, R395, R397) -/

/-- What a notice of a lost swatch is. -/
def OwnerNotice.isLost : OwnerNotice → Bool
  | .lost _ => true
  | _ => false

/-- The notices after a start that restores no swatch: every swatch is reported lost, and those reported by a start that failed stay (R364). -/
def State.lostNotices (s : State) : List OwnerNotice := s.host.notices.filter OwnerNotice.isLost ++ (Map.keys s.swatches).map OwnerNotice.lost

/-- A start that has failed: in recovery where its firmware check did. Everything that it did not reach keeps its contents, no swatch lives on,
and the next start is cold (R364, R395; log entry 11). -/
def State.startEnds (s : State) (cold recovery : Bool) : State :=
  { State.reset with
    variant := s.variant, tick := s.tick, agenda := s.agenda, focus := s.focus
    tiles := s.tiles.map fun e => (e.1, { emptyTile with
      sram := e.2.sram, gauge := e.2.gauge, nptr := e.2.nptr, poisoned := e.2.poisoned, uncorrectable := e.2.uncorrectable, singleError := e.2.singleError })
    scan := s.scan, binding := s.binding, phys := s.phys, links := s.links, parity := s.parity, dram := s.dram, persist := s.persist, flash := s.flash
    stations := s.stations, actors := s.actors, startCount := s.startCount + 1, lastCold := cold, recovery := recovery, coldNext := true
    layout := s.layout, firmware := s.firmware, power := { Power.reset with failing := s.power.failing }
    host := { HostSide.reset with rootKey := s.host.rootKey, notices := s.lostNotices } }

/-- The persistent ranges and what they hold, as a cold start finds them: as they stand, or, where power was lost, as a valid drain has them (R395
step 6, R397). -/
def State.persistent (s : State) : List (Nat × Nat) × Memory :=
  if s.power.failing then
    match s.flash.filter Flash.valid with
    | some f => (f.persist, f.pages)
    | none => ([], [])
  else (s.persist, s.dram.filter fun e => s.persists e.1)

/-- A cold start: every step of R395; it fails where no binding is one that R13 and R133 allow. -/
def State.coldStart (s : State) : State :=
  let phys := s.phys.map fun e => (e.1, { e.2 with errors := [], errorCount := 0, former := none, setting := none })
  let links := s.links.map fun e => (e.1, { e.2 with failing := 0, diagnosing := false })
  let scanned : State := { s with binding := [], phys := phys, links := links, layout := s.layout + 1 }
  if !Config.imageOk s.firmware then s.startEnds true true
  else if Config.startFails s.tick || scanned.builtBinding.isNone then s.startEnds true false
  else
    { State.reset with
      variant := s.variant, tick := s.tick, agenda := s.agenda, focus := s.focus
      scan := { phys := phys, links := links }, phys := phys, links := links
      dram := s.persistent.2, persist := s.persistent.1
      stations := List.range (memActors s.variant), actors := List.range (memActors s.variant)
      startCount := s.startCount + 1, lastCold := true, layout := s.layout + 1, firmware := s.firmware
      host := { HostSide.reset with rootKey := s.host.rootKey, notices := s.lostNotices }.elect s.tick }

/-- COLD_START (R395). -/
def execColdStart (s : State) : Out := event s.coldStart

/-- The machine of a warm start before its swatches are restored: the stored remap, the selvage state and persistent pages, and everything
else as a start leaves it; the swatches that were being cast on are reported lost (R364, R395, R397). -/
def State.warmBase (s : State) (f : Flash) : State :=
  { State.reset with
    variant := s.variant, tick := s.tick, agenda := s.agenda, focus := s.focus
    tiles := f.hops.map fun e => (e.1, { emptyTile with gauge := e.2.1, nptr := e.2.2 })
    scan := s.scan, binding := f.binding, phys := f.errors, links := s.links, dram := f.pages, places := f.places, context := s.context
    stations := s.stations, actors := s.actors, nextSwatch := s.nextSwatch, nextNotice := s.nextNotice, gaugeGen := s.gaugeGen
    persist := f.persist, startCount := s.startCount + 1, lastCold := false, layout := s.layout, firmware := s.firmware
    host := { HostSide.reset with
      guilt := f.guilt, limits := f.limits, barred := f.barred, owner := f.owner, rootKey := s.host.rootKey
      notices := f.casting.map OwnerNotice.lost } }

/-- A swatch restored on its former tiles under its number, in the phase in which it was; or reported lost, where its launch record or image
does not read (R364, R397). -/
def State.warmSwatch (s : State) (e : Nat × Swatch × List Byte) : State :=
  let w := e.2.1
  let lost := s.notify (.lost e.1)
  match s.readVirt w.tag w.launchVa 128 with
  | .error _ => lost
  | .ok l =>
    let launch := Words.ofList (bytesWords l)
    match s.readImage launch with
    | .error _ => lost
    | .ok img =>
      match s.restoreImage e.1 e.2.2 launch img w.x0 w.y0 with
      | .error _ => lost
      | .ok s1 =>
        let s2 := s1.modSwatch e.1 fun v => { v with
          phase := w.phase, gates := w.phase == .open_ && w.preempt.isNone, stop := w.stop, preempt := w.preempt, haltReq := w.haltReq
          haltPending := w.haltPending
          afterStop := w.afterStop }
        if w.phase = .stopped then s2.stopSlots e.1 else s2

/-- The engine state of an operation that goes on after a warm start: what it did before comes before what it does now. -/
def State.warmEngine (s : State) (g : Engine) (entry : Nat) : Engine :=
  { emptyEngine with entry := entry, swatch := g.swatch, scope := g.scope, reach := { noReach with dram := s.allDram } }

/-- A copy that goes on after a warm start, from its first word (R363). -/
def State.warmCopy (s : State) (e : Nat × Copy) : State :=
  let x := s.tile e.1
  match x.freeEntryNo with
  | some i =>
    if (x.slot e.2.slot).stateCode = 0 then s
    else s.modTile e.1 fun x => { (x.reserve e.2.slot i e.2.eng.swatch) with
      copies := x.copies ++ [{ e.2 with id := x.nextOp, begun := 0, done := 0, paused := false, eng := s.warmEngine e.2.eng i }]
      nextOp := x.nextOp + 1 }
  | none => s

/-- An atomic sent again after a warm start (R363). -/
def State.warmAtomic (s : State) (e : Nat × Atomic) : State :=
  let x := s.tile e.1
  match x.freeEntryNo with
  | some i =>
    if (x.slot e.2.slot).stateCode = 0 then s
    else
      let a : Atomic := { e.2 with id := x.nextOp, paused := false, eng := s.warmEngine e.2.eng i }
      (s.modTile e.1 fun x => { (x.reserve e.2.slot i e.2.eng.swatch) with atomics := x.atomics ++ [a], nextOp := x.nextOp + 1 }).probeAtomic e.1 a
  | none => s

/-- A direct firing that the power failure abandoned takes cause 0x30 (R363, R185). -/
def State.warmAbort (s : State) (a : Nat × Nat) : State :=
  if (s.slot a.1 a.2).stateCode = 0 then s else (s.startFiring a.1 a.2 (if a.2 = 16 then s.handlerMessage a.1 else none)).dispose a.1 0x30 0 0 0

/-- WARM_START: with a valid drain record and a stored remap that passes its check, the restore of R364; without one, or where another step
fails, the start ends, every swatch is reported lost, and the next start is cold (R395, R397). -/
def execWarmStart (s : State) : Out :=
  event (
    if s.coldNext then s
    else if !Config.imageOk s.firmware then s.startEnds false true
    else match s.flash.filter fun f => f.valid && s.remapOk f && !Config.startFails s.tick with
      | some f =>
        let s1 := f.images.foldl State.warmSwatch (s.warmBase f)
        let s2 := f.atomics.foldl State.warmAtomic (f.copies.foldl State.warmCopy s1)
        (f.aborted.foldl State.warmAbort s2).injectAll
      | none => s.startEnds false false)

/-- FIRMWARE_IMAGE: in recovery, an image is checked against the key in ROM and taken where it passes; a start follows (R395, R398). -/
def execFirmwareImage (img : Nat) (s : State) : Out :=
  event (if s.recovery && Config.imageOk img then { s with firmware := img, recovery := false } else s)

end Sys2Proof.Machine
end

