-- ==== Sys2Proof/Machine/Host.lean ====
section
/-! DEFINITION. Host packets: queues, classes, guilt, and the commands (R389 to R399). DRAM addresses of commands are virtual, under the
packet's tag (log entry 16). -/

namespace Sys2Proof.Machine

/-! ### Taking a packet (R389, R391, R392) -/

/-- The class of a command (R390, R391); GUILT is an owner command that a bar does not stop, and two commands of class read are taken in
recovery too. -/
inductive CmdClass where
  | owner | unbar | tag (sw : Nat) | read | start
  deriving DecidableEq, Repr

/-- What the selvage knows of a command before it carries it out: its code and class (R390), and the tag of the context that it concerns, none
where it concerns no one context, as with a command whose addresses lie under the packet's own tag (R389; log entry 16). -/
structure Cmd where
  code : Nat
  cls : CmdClass
  about : Option Nat
  deriving DecidableEq, Repr

/-- The admin queue of an adapter, from which no packet has been taken; it is bound to tag 0 (R391). -/
def adminQueue (adapter : Nat) : HostQueue :=
  let r := Config.adminRings adapter
  { tag := 0, sub := r.1, comp := r.2.1, size := r.2.2, lastSeq := none, deleting := [] }

/-- The queue of an adapter by number, 0 to 255: queue 0 exists from start, and no queue but on an adapter of the module (R391). -/
def State.queueAt (s : State) (adapter q : Nat) : Option HostQueue :=
  if Config.adapters ≤ adapter ∨ 255 < q then none
  else match Map.find s.host.queues (queueKey adapter q) with
    | some x => some x
    | none => if q = 0 then some (adminQueue adapter) else none

/-- The queue by which a packet came. -/
def State.queueOf (s : State) (h : Hdr) : Option HostQueue := s.queueAt h.adapter h.queue

/-- Whether a packet stands on the owner's admin queue. -/
def State.fromOwner (s : State) (h : Hdr) : Bool := h.queue == 0 && s.host.owner == some h.adapter

/-- Whether a packet's class lets it be carried out where it arrived (R391); one that names a swatch that is not live goes on to its 0xE7
(R390). -/
def State.classOk (s : State) (h : Hdr) (q : HostQueue) : CmdClass → Bool
  | .owner => s.fromOwner h
  | .unbar => s.fromOwner h
  | .tag sw => s.fromOwner h || (!(h.queue == 0) && (!s.liveSwatch sw || q.tag == (s.swatch sw).tag))
  | .read => true
  | .start => true

/-- A malformed packet or a queue error (R389, R392). -/
def State.malformed (s : State) (h : Hdr) : State := (s.blameHdr h).completeStatus h 0xE1

/-- Whether a header is one that R389 allows for a command that came by a queue: its code, its length, reserved fields of 0, and the queue's
tag, or on an admin queue tag 0 or that of the context concerned. -/
def headerOk (h : Hdr) (q : HostQueue) (c : Cmd) : Bool :=
  h.opc == c.code && decide (h.len ≤ 2047) && h.reserved == 0 && decide (h.tag < 8192) &&
    (if h.queue = 0 then h.tag == 0 || c.about.all (· == h.tag) else h.tag == q.tag)

/-- Whether the module takes a command now: it has started; in recovery it takes two (R395). -/
def State.takes (s : State) (c : CmdClass) : Bool := !s.coldNext || (s.recovery && c == .start)

/-- A packet taken from its queue, refused where it must be, and else carried out (R389 to R392). A queue that does not exist, or that is
being deleted, gives no packet. -/
def State.accept (s : State) (h : Hdr) (c : Cmd) (go : State → State) : State :=
  match s.queueOf h with
  | none => s
  | some q =>
    if !q.deleting.isEmpty || !s.takes c.cls then s
    else
      let s1 := { s with host := { s.host with queues := Map.set s.host.queues (queueKey h.adapter h.queue) { q with lastSeq := some h.seq } } }
      let inOrder := q.lastSeq.all fun n => h.seq == (n + 1) % 2 ^ 64
      if s.host.barred.contains h.tag ∧ c.cls ≠ .unbar then s1.completeStatus h 0xE2
      else if !inOrder || !headerOk h q c then s1.malformed h
      else if !s.classOk h q c.cls then s1.completeStatus h 0xE3
      else go s1

/-- A ring overrun: a queue error of the tag to which the queue is bound, which completes no packet (R392). -/
def State.ringOverrun (s : State) (adapter q : Nat) : State :=
  match s.queueAt adapter q with
  | some x => { s with host := s.host.blame x.tag }
  | none => s

/-- The tag of a live swatch, which a command concerns that names it. -/
def State.tagOf (s : State) (sw : Nat) : Option Nat := if s.liveSwatch sw then some (s.swatch sw).tag else none

/-- A command on a live swatch; 0xE7 where there is none (R390). -/
def State.onSwatch (s : State) (h : Hdr) (sw : Nat) (go : State → Swatch → State) : State :=
  if s.liveSwatch sw then go s (s.swatch sw) else s.completeStatus h 0xE7

/-- Bytes written for a packet, and its status. -/
def State.answerBytes (s : State) (h : Hdr) (va : Nat) (bs : List Byte) : State :=
  match s.writeVirt h.tag va bs with
  | .ok s1 => s1.completeStatus h 0
  | .error c => s.completeStatus h c

/-- MALFORMED_PACKET: a code that R390 does not list, whatever else its header holds. -/
def execMalformedPacket (h : Hdr) (s : State) : Out := event (s.accept h ⟨h.opc, .read, none⟩ fun s => s.malformed h)

/-! ### Launches and scopes (R26, R195) -/

/-- LAUNCH (R26). -/
def execLaunch (h : Hdr) (va : Nat) (s : State) : Out := event (s.accept h ⟨0x01, .owner, none⟩ fun s => s.launch h va)

/-- A scope command: held until the launch has loaded its table (R26, R195, R390). -/
def State.scopePacket (s : State) (h : Hdr) (sw sc : Nat) (c : ScopeCmd) : State :=
  s.onSwatch h sw fun s w =>
    if w.tableLoaded then s.scopeCommand sw h c sc else s.modSwatch sw fun w => { w with heldCmds := w.heldCmds ++ [(h, c, sc)] }

/-- SEAL scope (R195). -/
def execSealScope (h : Hdr) (sw sc : Nat) (s : State) : Out := event (s.accept h ⟨0x02, .owner, s.tagOf sw⟩ fun s => s.scopePacket h sw sc .seal)

/-- ABORT scope (R191, R195). -/
def execAbortScope (h : Hdr) (sw sc : Nat) (s : State) : Out := event (s.accept h ⟨0x03, .owner, s.tagOf sw⟩ fun s => s.scopePacket h sw sc .abort)

/-- RELEASE scope (R195). -/
def execReleaseScope (h : Hdr) (sw sc : Nat) (s : State) : Out := event (s.accept h ⟨0x04, .owner, s.tagOf sw⟩ fun s => s.scopePacket h sw sc .release)

/-- WAITSCOPE: completes when the scope is terminal, its STATE the result (R390). -/
def execWaitscope (h : Hdr) (sw sc : Nat) (s : State) : Out :=
  event (s.accept h ⟨0x05, .read, s.tagOf sw⟩ fun s => s.onSwatch h sw fun s w =>
    let code := (w.scope sc).stateCode
    if w.tableLoaded && code == 0 then s.completeStatus h 0xE7
    else if w.tableLoaded && terminalCode code then s.completeWith h 0 0 0 code
    else { s with host := { s.host with pending := s.host.pending ++ [(h, sw, sc)] } })

/-! ### Pre-emption, stops, bind-off and reknit (R352 to R358) -/

/-- PREEMPT: taken up at once; its notice tells the end (R353, R354; log entry 17). A swatch that stops, is saved or is bound off already is
not there to be pre-empted. -/
def execPreempt (h : Hdr) (sw va : Nat) (urgent : Bool) (s : State) : Out :=
  event (s.accept h ⟨0x06, .owner, s.tagOf sw⟩ fun s => s.onSwatch h sw fun s w =>
    if va % 64 ≠ 0 ∨ va = 0 then s.malformed h
    else if w.preempt.isSome || w.preemptWait.isSome || w.stop.isSome || w.phase == .bindingOff then s.completeStatus h 0xE7
    else (s.beginPreempt sw va urgent).completeStatus h 0)

/-- STOPANSWER: resume, void, save or bind-off of a stopped swatch (R352). Where a pre-emption was asked for before the stop, it goes on after
resume and void, and a save takes its place. -/
def execStopanswer (h : Hdr) (sw : Nat) (ans : StopAns) (s : State) : Out :=
  event (s.accept h ⟨0x07, .owner, s.tagOf sw⟩ fun s => s.onSwatch h sw fun s w =>
    if !(w.phase == .stopped) || w.afterStop then s.completeStatus h 0xE7
    else match ans with
      | .resume => (s.reopen sw).completeStatus h 0
      | .void => (s.answerVoid sw).completeStatus h 0
      | .save va =>
        if va % 64 ≠ 0 then s.malformed h
        else
          ((s.modSwatch sw fun w => { w with
            preempt := some (va, false), preemptWait := none, afterStop := true, haltReq := w.haltReq || w.haltPending
            haltPending := false }).abandonFor sw false).completeStatus h 0
      | .bindOff => (s.bindOff sw).completeStatus h 0)

/-- BINDOFF (R358). -/
def execBindoff (h : Hdr) (sw : Nat) (s : State) : Out :=
  event (s.accept h ⟨0x08, .owner, s.tagOf sw⟩ fun s => s.onSwatch h sw fun s w =>
    if w.phase = .bindingOff then s.completeStatus h 0 else (s.bindOff sw).completeStatus h 0)

/-- REKNIT: a save image restored on a free swatch, whose number is the result (R357); a packet's tag other than 0 is that of the context that the
image names (R389). A configuration error in its cast-on gives 0xE6 with no
more, as bytes 9 and 10 and the result are a LAUNCH completion's (R389; log entry 17). -/
def execReknit (h : Hdr) (va : Nat) (s : State) : Out :=
  event (s.accept h ⟨0x09, .owner, none⟩ fun s =>
    match s.readSaved h.tag va with
    | .error c => s.completeStatus h c
    | .ok (b, launch, img) =>
      if h.tag ≠ 0 ∧ h.tag ≠ imageNat b 12 4 then s.malformed h
      else match s.chooseOrigin launch img with
      | none => s.completeStatus h 0xE4
      | some o =>
        match s.restoreImage s.nextSwatch b launch img o.1 o.2 with
        | .error _ => s.completeStatus h 0xE6
        | .ok s1 => ({ s1 with nextSwatch := s.nextSwatch + 1 }.inject s.nextSwatch).completeWith h 0 0 0 s.nextSwatch)

/-! ### Fault notices, translation and the context table (R299, R301 to R303) -/

/-- An operation that the owner lets go on: the stream runs from its held indices, with event 5, and the page is probed again (R302, R344). -/
def State.resumeOp (s : State) (o : OpRef) : State :=
  match s.opEngine o with
  | none => s
  | some g =>
    let s1 := s.setOpEngine o { g with notice := none }
    let again := fun (s : State) (id : Nat) =>
      (((s.tile o.tile).atomics.filter fun a => a.id == id).foldl (fun s a => s.probeAtomic o.tile a) s).modTile o.tile fun x =>
        { x with atomics := x.atomics.map fun a => if a.id = id then { a with paused := false } else a }
    match o.key with
    | .stream k => s1.modTile o.tile fun x =>
      if strState (x.stream k) = 3 then (x.setStream k (setStrState (x.stream k) 2)).event (strOwner (x.stream k)) 5 else x
    | .copy id => s1.modCopy o.tile id fun c => { c with paused := false }
    | .atomic id => again s1 id
    | .watch id => again s1 id

/-- FAULTANSWER: resume or fatal; 0xE7 for a notice unknown, withdrawn or answered (R302, R303). -/
def execFaultanswer (h : Hdr) (id : Nat) (resume : Bool) (s : State) : Out :=
  event (s.accept h ⟨0x0A, .owner, (s.notices.find? fun n => n.id == id).map (·.tag)⟩ fun s =>
    match s.notices.find? fun n => n.id == id && n.stage == 1 with
    | none => s.completeStatus h 0xE7
    | some n =>
      let s1 := { s with notices := s.notices.map fun (m : Notice) => if m.id = id then { m with stage := 2 } else m }
      (if resume then s1.resumeOp n.op else s1.endFatal n.op n.cause n.va).completeStatus h 0)

/-- What an engine knows of pages of a range forgotten. -/
def Engine.dropPages (g : Engine) (lo hi : Nat) : Engine := { g with pages := g.pages.filter fun p => !(decide (lo < p.vpage * 4096 + 4096) && decide (p.vpage * 4096 ≤ hi)) }

/-- The engines of a tile without what they know of pages of a range, those whose swatch has the tag. -/
def Tile.dropPages (x : Tile) (has : Nat → Bool) (lo hi : Nat) : Tile :=
  { x with
    runs := x.runs.map fun e => if has e.2.eng.swatch then (e.1, { e.2 with eng := e.2.eng.dropPages lo hi }) else e
    copies := x.copies.map fun c => if has c.eng.swatch then { c with eng := c.eng.dropPages lo hi } else c }

/-- A probe answered before an invalidation and not yet taken up, sent again. -/
def ProbeReply.probeAgain (p : ProbeReply) (tag : Nat) : XlateProbe :=
  { op := p.op, tag := tag, vpage := p.vpage, write := p.write
    atomic := match p.op.key with
      | .atomic _ => true
      | _ => false
    watch := match p.op.key with
      | .watch _ => true
      | _ => false
    walking := false }

/-- XLATEINV: every station drops its entries of the tag in the range, or all of them, and nothing goes on using one (R301). -/
def execXlateinv (h : Hdr) (tag : Nat) (all : Bool) (lo hi : Nat) (s : State) : Out :=
  event (s.accept h ⟨0x0E, .owner, some tag⟩ fun s =>
    let lo' := if all then 0 else lo
    let hi' := if all then 2 ^ 57 else hi
    let hit := fun (p : ProbeReply) => s.opTag p.op == tag && p.page.isSome && decide (lo' < p.vpage * 4096 + 4096) && decide (p.vpage * 4096 ≤ hi')
    let s1 : State := { s with
      xlations := s.xlations.map fun e => (e.1, e.2.filter fun x => !(x.tag == tag && decide (lo' < x.base + x.size) && decide (x.base ≤ hi')))
      tiles := s.tiles.map fun e => (e.1, e.2.dropPages (fun n => (s.swatch n).tag == tag) lo' hi')
      xprobes := s.xprobes ++ (s.probeReplies.filter hit).map fun p => p.probeAgain tag
      probeReplies := s.probeReplies.filter fun p => !hit p }
    s1.completeStatus h 0)

/-- SETCTX: the physical address of the context table (R299). -/
def execSetctx (h : Hdr) (pa : Nat) (s : State) : Out := event (s.accept h ⟨0x0F, .owner, some 0⟩ fun s => { s with context := pa }.completeStatus h 0)

/-! ### Reading and posting (R152 to R154, R313, R339, R361, R399) -/

/-- The tile at an offset of a swatch, where it lies inside. -/
def Swatch.at? (w : Swatch) (dx dy : Nat) : Option Nat := if dx < w.w ∧ dy < w.h then some (tileId (w.x0 + dx) (w.y0 + dy)) else none

/-- Whether a slot of a tile is one that a command for a swatch may name: occupied, and the swatch's own or the inbox actor slot (R390). -/
def State.names (s : State) (sw t slot : Nat) : Bool :=
  decide (slot < 17) && !((s.slot t slot).stateCode == 0) && (slot == 16 || (s.slot t slot).swatch == sw)

/-- The record of a slot as system software reads it: a waiting slot that is ready shows state 2 (R158). -/
def State.shownRecord (s : State) (t k : Nat) : Words :=
  if (s.slot t k).stateCode = 1 ∧ s.isReady t k then ((s.slot t k).setState 2).record else (s.slot t k).record

/-- READNODES: a node record of 256 bytes (R154, R390). -/
def execReadnodes (h : Hdr) (sw dx dy slot va : Nat) (s : State) : Out :=
  event (s.accept h ⟨0x0B, .read, s.tagOf sw⟩ fun s => s.onSwatch h sw fun s w =>
    match w.at? dx dy with
    | some t =>
      if s.names sw t slot then s.answerBytes h va (wordsBytes (Words.toList (s.shownRecord t slot) 64))
      else s.completeStatus h 0xE7
    | none => s.completeStatus h 0xE7)

/-- The error log of a physical tile: sixteen records, the latest first, the former-holder pointer, the overflow count (R152, R153; log entry
16). -/
def PhysTile.logBytes (p : PhysTile) : List Byte :=
  ((p.errors.flatMap id) ++ List.replicate 512 0).take 512 ++ le4 (p.former.getD 0xFFFF) ++ le4 (p.errorCount - 16)

/-- READLOG: by logical coordinate, the log of the tile bound there now; by physical coordinate, that tile's (R153). -/
def execReadlog (h : Hdr) (logical : Bool) (x y va : Nat) (s : State) : Out :=
  event (s.accept h ⟨0x0C, .read, none⟩ fun s =>
    if logical then
      if x < meshW s.variant ∧ y < 200 then s.answerBytes h va (s.physTile (s.physOf (tileId x y))).logBytes else s.completeStatus h 0xE7
    else if x < 24 * fieldCols s.variant ∧ y < 210 then s.answerBytes h va (s.physTile (256 * y + x)).logBytes
    else s.completeStatus h 0xE7)

/-- SEMPOST: a value added to a granted semaphore, saturating; event 3 of its slot (R313, R344, R390). -/
def execSempost (h : Hdr) (sw dx dy slot k value : Nat) (s : State) : Out :=
  event (s.accept h ⟨0x0D, .owner, s.tagOf sw⟩ fun s => s.onSwatch h sw fun s w =>
    match w.at? dx dy with
    | some t =>
      let x := s.tile t
      if s.names sw t slot ∧ k < x.semCount slot then
        let n := x.semBase slot + k
        (s.modTile t fun x => (x.setSem n (min (x.sem n + value % 2 ^ 32) 0xFFFFFFFF)).event slot 3).completeStatus h 0
      else s.completeStatus h 0xE7
    | none => s.completeStatus h 0xE7)

/-- The 64 bytes of a field's offset records (R141). -/
def State.fieldBytes (s : State) (f : Nat) : List Byte :=
  [0, 1, 2, 3].flatMap fun d =>
    let r := s.offsetOf f d
    le8 (wrapInt 64 r.1) ++ le4 r.2.1 ++ le4 (wrapInt 32 r.2.2)

/-- The bands of the peer links that the module section of the gauge data gives, by peer module; a band is free (R141, R390; log entry 16). -/
def State.peerBands (s : State) : List Byte :=
  (s.host.peers.map (·.peer)).eraseDups.flatMap fun p => le4 p ++ le4 ((Config.openWord s.tick (p + 1)).toNat % 16)

/-- STATUS: CW.CAP, the module section of the gauge data, the power state and the owner (R390, R396; log entry 16). -/
def execStatus (h : Hdr) (va : Nat) (s : State) : Out :=
  event (s.accept h ⟨0x17, .start, none⟩ fun s =>
    s.answerBytes h va (le4 (variantCap s.variant) ++ le4 s.pwrcap ++ le4 (if s.power.shortfall then 1 else 0) ++
      le4 (s.host.owner.getD 0xFFFFFFFF) ++ le4 (Config.openWord 0 s.tick).toNat ++
      (List.range (7 * fieldCols s.variant)).flatMap s.fieldBytes ++ s.peerBands))

/-- The signed bytes of an attestation report (R399). -/
def State.reportBytes (s : State) (nonce : Nat) : List Byte :=
  let part := fun (d : List Byte) => (d ++ List.replicate 32 0).take 32
  leBytes 32 nonce ++ part (Config.firmwareDigest s.firmware 0) ++ part (Config.firmwareDigest s.firmware 1) ++
    part (Config.remapDigest s.layout s.binding) ++ le4 (variantCap s.variant) ++
    le4 (s.startCount % 2 ^ 31 + if s.lastCold then 2 ^ 31 else 0) ++ le8 0

/-- ATTEST: a report of 208 bytes (R399). -/
def execAttest (h : Hdr) (nonce va : Nat) (s : State) : Out :=
  event (s.accept h ⟨0x12, .start, none⟩ fun s =>
    let b := s.reportBytes nonce
    s.answerBytes h va (b ++ ((Config.sm2Sign (digest b)) ++ List.replicate 64 0).take 64))

/-! ### Debug (R359 to R361) -/

/-- A word of a halted tile's state: s registers by halves, v registers by lanes, m registers' storage by words, accumulator elements by
words, control words, node records, SRAM words, debug-log words; then shapes, which of a shape and an index an m register has, scale entries,
index side-files by words, anchors with flags as MFLAGS has them, semaphores, stream records (R361; log entry 16). -/
def Tile.debugWord (x : Tile) (f : Firing) (cw : Nat → Nat) (sel idx : Nat) : Nat :=
  if sel = 0 then (Map.get 0 f.sregs (idx / 2)).toNat / 2 ^ (32 * (idx % 2)) % 2 ^ 32
  else if sel = 1 then ((Map.get [] f.vregs (idx / 16)).getD (idx % 16) 0).toNat
  else if sel = 2 then
    leNat ((List.range 4).map fun i => Map.get 0 (Map.get emptyMatReg f.mregs (idx / 2048)).storage (idx % 2048 * 4 + i))
  else if sel = 3 then
    (Map.get 0 (Map.get emptyAcc f.accs (idx / 4096)).elems (idx % 4096 / 4)).toNat / 2 ^ (32 * (idx % 4)) % 2 ^ 32
  else if sel = 4 then cw idx
  else if sel = 5 then Words.word (x.slot (idx / 64)).record (idx % 64)
  else if sel = 6 then leNat (Memory.readN x.sram (4 * idx) 4)
  else if sel = 7 then ((x.debugLog.getD (idx / 8) []).getD (idx % 8) 0).toNat
  else if sel = 8 then (Map.get emptyMatReg f.mregs idx).shape.getD 0
  else if sel = 9 then
    let m := Map.get emptyMatReg f.mregs idx
    (if m.shape.isSome then 1 else 0) + if m.valid then 2 else 0
  else if sel = 10 then Map.get 0 (Map.get emptyMatReg f.mregs (idx / 512)).scales (idx % 512)
  else if sel = 11 then
    leNat ((List.range 4).map fun i => Map.get 0 (Map.get emptyMatReg f.mregs (idx / 2048)).index (idx % 2048 * 4 + i))
  else if sel = 12 then (Map.get emptyAcc f.accs idx).mflags
  else if sel = 13 then x.sem idx
  else if sel = 14 then Words.word (x.stream (idx / 32)) (idx % 32)
  else 0

/-- Control word n as the firing of a tile reads it. -/
def State.debugCw (s : State) (t : Nat) (f : Firing) (n : Nat) : Nat :=
  ({ st := s, t := t, x := s.tile t, f := f } : Ctx).cwRead n

/-- Resume of a halted core: it goes on as though no halt had taken place; the breakpoint at which it halted does not stop it again (R360). -/
def State.debugResume (s : State) (t : Nat) (f : Firing) (resumeAt : Nat) : State :=
  s.modTile t fun x =>
    { (x.unhalt.modSlot f.slot fun sl => sl.setState 3) with
      firing := some { f with phase := .running, pc := resumeAt, bpPassed := bitField (x.cword 0x405) 6 2 == 1 } }

/-- DEBUG: the debug words of a tile written, a word of its halted state read, or its core resumed (R359 to R361); it concerns no context. A read
or a resume where the core is not halted completes with 0xE7, the model's choice, as no rule gives its status (R390; log entry 32). -/
def execDebugCmd (h : Hdr) (t : Nat) (op : DebugOp) (s : State) : Out :=
  event (s.accept h ⟨0x11, .owner, some 0⟩ fun s =>
    if tileX t < meshW s.variant ∧ tileY t < 200 then
      match op with
      | .write ctl b0 b1 b2 b3 =>
        let bp := fun b => BitVec.ofNat 32 (b % 2 ^ 22 / 4 * 4)
        let c := ctl % 256 - 2 * bitField ctl 1 1
        let words := [(0x400, BitVec.ofNat 32 c), (0x401, bp b0), (0x402, bp b1), (0x403, bp b2), (0x404, bp b3)]
        (s.modTile t fun x => { x with cwords := words.foldl (fun m e => Map.set m e.1 e.2) x.cwords }).completeStatus h 0
      | .read sel idx =>
        match (s.tile t).firing with
        | some f => match f.phase with
          | .halted _ => s.completeWith h 0 0 0 ((s.tile t).debugWord f (s.debugCw t f) sel idx)
          | _ => s.completeStatus h 0xE7
        | none => s.completeStatus h 0xE7
      | .resume =>
        match (s.tile t).firing with
        | some f => match f.phase with
          | .halted a => (s.debugResume t f a).completeStatus h 0
          | _ => s.completeStatus h 0xE7
        | none => s.completeStatus h 0xE7
    else s.completeStatus h 0xE7)

/-! ### Power, ownership, guilt, peers and persistence (R391 to R397) -/

/-- POWERSTEP: a cap set by packet (R396). -/
def execPowerstep (h : Hdr) (k : Nat) (s : State) : Out :=
  event (s.accept h ⟨0x10, .owner, some 0⟩ fun s =>
    if k < 16 then (s.modPower fun p => { p with capPacket := k }).completeStatus h 0 else s.malformed h)

/-- HANDOVER: takes effect once every owner-class packet taken before it has completed (R393). -/
def execHandover (h : Hdr) (adapter : Nat) (s : State) : Out :=
  event (s.accept h ⟨0x13, .owner, some 0⟩ fun s =>
    if Config.adapters ≤ adapter then s.completeStatus h 0xE7
    else { s with host := { s.host with handovers := s.host.handovers ++ [(adapter, h, s.ownerPending)] } }.settleHost)

/-- GUILT: the count of a tag cleared, its bar lifted, a new limit set (R392). -/
def execGuilt (h : Hdr) (tag limit : Nat) (s : State) : Out :=
  event (s.accept h ⟨0x14, .unbar, some tag⟩ fun s =>
    if 1 ≤ limit ∧ limit ≤ 255 then
      let x : HostSide := { s.host with
        guilt := Map.set s.host.guilt tag 0, limits := Map.set s.host.limits tag limit, barred := s.host.barred.filter fun b => !(b == tag) }
      { s with host := x }.completeStatus h 0
    else s.malformed h)

/-- The records of a paged launch (R206). -/
def State.pagedSlots (s : State) (w : Swatch) : List Slot :=
  (List.range (Words.word w.launch 15)).filterMap fun i => (s.pagedRecord w i).map slotOf

/-- Whether an edge of a swatch is a host edge: it comes from the host or goes to it. A paged launch has every edge of its records (R206, R390).
-/
def State.hostInput (s : State) (sw edge : Nat) : Bool :=
  if (s.swatch sw).paged then (s.pagedHostEdges (s.swatch sw)).any fun e => e.1 == edge
  else match s.consumer sw edge with
    | some (t, k, _) => (s.producer sw edge).isNone && bitField ((s.tile t).edgeFlags k edge) 0 1 == 0
    | none => false

def State.hostOutput (s : State) (sw edge : Nat) : Bool :=
  if (s.swatch sw).paged then (s.pagedSlots (s.swatch sw)).any fun sl => sl.outPorts.any fun p => sl.outHost p && sl.outEdge p == edge
  else match s.producer sw edge with
    | some (t, k, p) => (s.slot t k).outHost p
    | none => false

/-- BINDPEER: a host edge joined to one of a peer module, whose consumer's slots are the gateway's credits (R394; log entry 26). -/
def execBindpeer (h : Hdr) (sw edge peer peerEdge : Nat) (s : State) : Out :=
  event (s.accept h ⟨0x15, .owner, s.tagOf sw⟩ fun s => s.onSwatch h sw fun s _ =>
    if s.hostInput sw edge || s.hostOutput sw edge then
      let p : Peer := { swatch := sw, edge := edge, peer := peer, peerEdge := peerEdge, waiting := [], crossed := [], credits := Config.peerSlots s.tick
                        returned := 0, down := false }
      { s with host := { s.host with peers := s.host.peers ++ [p] } }.completeStatus h 0
    else s.completeStatus h 0xE7)

/-- The parts of a range outside another. -/
def cutRange (r b : Nat × Nat) : List (Nat × Nat) :=
  [(r.1, min (r.1 + r.2) b.1 - r.1), (max r.1 (b.1 + b.2), r.1 + r.2 - max r.1 (b.1 + b.2))].filter fun p => decide (0 < p.2)

/-- The parts of a range outside every range of a list. -/
def newParts (r : Nat × Nat) (l : List (Nat × Nat)) : List (Nat × Nat) := l.foldl (fun ps b => ps.flatMap fun p => cutRange p b) [r]

/-- PERSIST: a physical range added, counted where it is not persistent already; 0xE4 past 160 GiB in all (R397). -/
def execPersist (h : Hdr) (lo len : Nat) (s : State) : Out :=
  event (s.accept h ⟨0x16, .owner, some 0⟩ fun s =>
    let ps := s.persist ++ newParts (lo, len) s.persist
    if 160 * 2 ^ 30 < (ps.map (·.2)).sum then s.completeStatus h 0xE4 else { s with persist := ps }.completeStatus h 0)

/-- TOKEN: a token for a host input edge, behind the seeds and the tokens taken before it (R26, R390); its words lie in the payload. While the
launch is being cast on, the edge is any name that it has. -/
def execToken (h : Hdr) (sw edge : Nat) (mark : Bool) (words : List Nat) (s : State) : Out :=
  event (s.accept h ⟨0x18, .tag sw, s.tagOf sw⟩ fun s => s.onSwatch h sw fun s w =>
    let known := if w.phase = .casting then decide (edge < w.edgeCount) else s.hostInput sw edge
    if 8 * h.len < words.length then s.malformed h
    else if known && !(w.phase == .bindingOff) then
      let tok : Token := { words := words.map (BitVec.ofNat 32), void := false, mark := mark, tag := w.tag }
      ((s.modSwatch sw fun w => { w with hostToks := w.hostToks ++ [(edge, tok)] }).inject sw).completeStatus h 0
    else s.completeStatus h 0xE7)

/-- QCREATE (R391). -/
def execQcreate (h : Hdr) (adapter q sub comp n tag : Nat) (s : State) : Out :=
  event (s.accept h ⟨0x19, .owner, some tag⟩ fun s =>
    if q = 0 ∨ 255 < q ∨ n < 4 ∨ 16 < n ∨ (Map.find s.host.queues (queueKey adapter q)).isSome then s.malformed h
    else if Config.adapters ≤ adapter then s.completeStatus h 0xE7
    else if !s.tagLive tag then s.completeStatus h 0x12
    else if !Config.queueRoom adapter ((s.host.queues.filter fun e => e.1 / 256 == adapter).length) then s.completeStatus h 0xE4
    else
      let new : HostQueue := { tag := tag, sub := sub, comp := comp, size := 2 ^ n, lastSeq := none, deleting := [] }
      { s with host := { s.host with queues := Map.set s.host.queues (queueKey adapter q) new } }.completeStatus h 0)

/-- QDELETE: takes effect, and completes, once every packet taken from the queue has completed; one more for the same queue completes with the
first. A number outside 1 to 255 is malformed (R391; log entry 17). -/
def execQdelete (h : Hdr) (adapter q : Nat) (s : State) : Out :=
  event (s.accept h ⟨0x1A, .owner, some 0⟩ fun s =>
    if q = 0 ∨ 255 < q then s.malformed h
    else match Map.find s.host.queues (queueKey adapter q) with
      | some hq =>
        { s with host := { s.host with
          queues := Map.set s.host.queues (queueKey adapter q) { hq with deleting := hq.deleting ++ [h] } } }.settleHost
      | none => s.completeStatus h 0xE7)

end Sys2Proof.Machine
end

