-- ==== Sys2Proof/Machine/MatrixTime.lean ====
section
/-! DEFINITION. When matrix instructions start and complete, and the activity of the array (R266 to R274). None of it changes a result. -/

namespace Sys2Proof.Machine

/-- Whether a queued instruction finds everything that it reads, and for a transfer what it overwrites, settled by the older ones that have
not completed; accumulators are forwarded within the array pipe (R267). -/
def MatOp.free (o : MatOp) (older : List MatOp) : Bool :=
  older.all fun p =>
    !(p.defs.any fun d => o.uses.contains d && !(o.pipe == .array && p.pipe == .array && decide (24 ≤ d))) &&
      !(o.pipe == .transfer && p.pipe == .array && p.uses.any fun u => o.defs.contains u)

/-- The place of the oldest queued instruction of a pipe that has not started. -/
def Tile.nextMatOp (x : Tile) (pipe : MPipe) : Option Nat := x.matOps.findIdx? fun o => o.pipe == pipe && !o.started

/-- MATRIX_START: in the order of its pipe, once its operands are there; on an idle array it asks for the grant first (R267, R273). An array
that waits to go idle is running still, so an array instruction that comes then starts at once, and the request to go idle is withdrawn
(log entry 32). -/
def execMatrixStart (t : Nat) (pipe : MPipe) (s : State) : Out :=
  event (
    let x := s.tile t
    match x.nextMatOp pipe with
    | none => s
    | some i =>
      match x.matOps[i]? with
      | none => s
      | some o =>
        if !o.free (x.matOps.take i) then s
        else if pipe = .array ∧ x.array = .idle then
          { s.setTile t { x with array := .waiting } with requests := s.requests ++ [t] }
        else if pipe = .array ∧ x.array = .waiting then s
        else
          let started := x.matOps.modify i fun o => { o with started := true }
          if pipe = .array ∧ x.array = .leaving then
            { s.setTile t { x with matOps := started, array := .active } with requests := s.requests.filter fun r => !(r == t) }
          else s.setTile t { x with matOps := started })

/-- MATRIX_COMPLETE: the oldest started instruction of a pipe is over; one that clamped with SATF set raises 0x0C (R267, R272, R361). -/
def execMatrixComplete (t : Nat) (pipe : MPipe) (s : State) : Out :=
  event (
    let x := s.tile t
    match x.matOps.findIdx? fun o => o.pipe == pipe && o.started with
    | none => s
    | some i =>
      match x.matOps[i]?, x.firing with
      | some o, some _ =>
        let s1 := s.setTile t (({ x with matOps := x.matOps.eraseIdx i } : Tile).logDebug (matrixEvent o))
        if o.clamped then s1.takeFault t 0x0C 2 o.pc else s1
      | _, _ => s)

/-- ARRAY_IDLE: with no array instruction running or queued the array asks to go idle (R273). The 512 tc are time, which is open (log
entry 2). -/
def execArrayIdle (t : Nat) (s : State) : Out :=
  event (
    let x := s.tile t
    if !(x.matOps.any fun o => o.pipe == .array) && (x.array == .active || x.array == .ramping) then
      { s.setTile t { x with array := .leaving } with requests := s.requests ++ [t] }
    else s)

/-- ACTIVITY_GRANT: the governor of a field grants its oldest request, at most 256 in any 1,000 counts (R273). -/
def execActivityGrant (f : Nat) (s : State) : Out :=
  event (
    let s1 := s.advanceField f
    let now := Map.get 0 s1.fieldCtr f
    let recent := (Map.get [] s1.grants f).filter fun g => decide (now < g + 1000)
    match s1.requests.find? fun t => s1.fieldOf t == f with
    | none => s1
    | some t =>
      if recent.length < 256 then
        let x := s1.tile t
        let y := if x.array = .waiting then { x with array := .ramping, rampFrom := now } else if x.array = .leaving then { x with array := .idle } else x
        { s1.setTile t y with requests := s1.requests.erase t, grants := Map.set s1.grants f (now :: recent) }
      else s1)

/-- RAMP_END: the pacing ends 1,000 counts after the grant (R274). -/
def execRampEnd (t : Nat) (s : State) : Out :=
  event (
    let s1 := s.advanceField (s.fieldOf t)
    let x := s1.tile t
    if x.array = .ramping ∧ x.rampFrom + 1000 ≤ Map.get 0 s1.fieldCtr (s1.fieldOf t) then s1.setTile t { x with array := .active } else s1)

end Sys2Proof.Machine
end

