-- ==== Sys2Proof/Machine/Port.lean ====
section
/-! DEFINITION. Port instructions and SEND, majors 0x1A and 0x3C (R118 to R132). -/

namespace Sys2Proof.Machine

/-- PCNT: tokens now in the queue, entered or not (R119). -/
def execPcnt (d p : Nat) (s : State) : Out :=
  scalarOp s [] d fun c _ => do
    check c (c.slot.inDecl p) 0x06
    .ok (BitVec.ofNat 64 ((c.slot.inQueue p).toks.length))

/-- PFREE: free downstream slots less the whole tokens staged (R119). -/
def execPfree (d p : Nat) (s : State) : Out :=
  scalarOp s [] d fun c _ => do
    check c (c.slot.outDecl p) 0x06
    .ok (BitVec.ofNat 64 (c.slot.free p - c.f.stagedCount p / c.slot.outWidth p))

/-- PEEK: window word A[31:0], the cursor unmoved (R120). -/
def execPeek (d a p : Nat) (s : State) : Out :=
  coreOp s 4 fun c => do
    check c (c.slot.inDecl p) 0x06
    let r ← readSrcs c [a] (some d)
    let k := (src r.1 0).toNat % 2 ^ 32
    readable c [(p, k)]
    (r.2.writeReg d ((windowWord c.slot p k).zeroExtend 64)).complete 4

/-- PSKIP: the cursor to the end of its token and A[31:0] tokens on (R120). -/
def execPskip (a p : Nat) (s : State) : Out :=
  coreOp s 4 fun c => do
    check c (c.slot.inDecl p) 0x06
    let r ← readSrcs c [a] none
    let w := c.slot.inWidth p
    let last := ceilDiv (Map.get 0 r.2.f.cursors p) w * w + w * ((src r.1 0).toNat % 2 ^ 32)
    check c (decide (last ≤ c.slot.inMax p * w)) 0x06
    readable c ((List.range (last / w)).map fun i => (p, i * w))
    ({ r.2 with f := { r.2.f with cursors := Map.set r.2.f.cursors p last } } : Ctx).complete 4

/-- VTAKE: sixteen window words to the lanes (R121). -/
def execVtake (d p : Nat) (s : State) : Out :=
  coreOp s 4 fun c => do
    let cur := Map.get 0 c.f.cursors p
    readable c (lanes16.map fun j => (p, cur + j))
    let v := lanes16.map fun j => windowWord c.slot p (cur + j)
    ({ c with f := { c.f.writeV d v with cursors := Map.set c.f.cursors p (cur + 16) } } : Ctx).complete 4

/-- VPUT: the sixteen lanes staged, lane 0 first (R121). -/
def execVput (a p : Nat) (s : State) : Out :=
  coreOp s 4 fun c => do
    check c (!badStage c p 16) 0x06
    ({ c with f := c.f.stage p (lanes16.map (lane (c.f.vreg a))) } : Ctx).complete 4

/-- The scale token of the block that holds token i of a queue (R124). -/
def scaleOfToken (q : InQueue) (i : Nat) : Option ScaleTok := ((blockNumbers 0 q.pos q.toks)[i]?).bind fun b => q.scales[b]?

/-- PSCALE: the scale word of the block of the token at the cursor; a void scale voids as R116 says (R124, R125). -/
def execPscale (d p : Nat) (s : State) : Out :=
  coreOp s 4 fun c => do
    check c (c.slot.inDecl p && c.slot.inScaled p && !badDest c d) 0x06
    let cur := Map.get 0 c.f.cursors p
    readable c [(p, cur)]
    match scaleOfToken (c.slot.inQueue p) (tokenOf c.slot p cur) with
    | some sc =>
      if sc.void then .error (.void p (tokenOf c.slot p cur))
      else (c.writeReg d (BitVec.ofNat 64 (sc.word.toNat % 2 ^ 20))).complete 4
    | none => .error (.wait (.token p (tokenOf c.slot p cur)))

/-- PSCALEW: a block scale staged, A[19:0] (R124). -/
def execPscalew (a p : Nat) (s : State) : Out :=
  coreOp s 4 fun c => do
    check c (c.slot.outDecl p && c.slot.outScaled p && decide ((Map.get [] c.f.scales p).length < c.slot.outMax p)) 0x06
    let r ← readSrcs c [a] none
    ({ r.2 with f := { r.2.f with
        scales := Map.set r.2.f.scales p (Map.get [] r.2.f.scales p ++ [(src r.1 0).toNat % 2 ^ 20]) } } : Ctx).complete 4

/-- PMARK: the mark of the token staged last, which may be partial (R122). -/
def execPmark (p : Nat) (s : State) : Out :=
  coreOp s 4 fun c => do
    check c (c.slot.outDecl p && decide (0 < c.f.stagedCount p)) 0x06
    let i := (c.f.stagedCount p - 1) / c.slot.outWidth p
    let ms := Map.get [] c.f.marks p
    ({ c with f := { c.f with marks := Map.set c.f.marks p (if ms.contains i then ms else i :: ms) } } : Ctx).complete 4

/-- PISMARK: the mark bit of the token at the cursor (R122). -/
def execPismark (d p : Nat) (s : State) : Out :=
  coreOp s 4 fun c => do
    check c (!badDest c d) 0x06
    let cur := Map.get 0 c.f.cursors p
    readable c [(p, cur)]
    let m := match c.slot.token? p (tokenOf c.slot p cur) with
      | some tok => tok.mark
      | none => false
    (c.writeReg d (if m then 1 else 0)).complete 4

/-- GAUGE: the gauge entry of a direction, 0x80 where the mesh has no neighbour there (R126). -/
def execGauge (d r : Nat) (s : State) : Out :=
  scalarOp s [] d fun c _ =>
    .ok (if c.st.hasNeighbour c.t r then (c.st.gaugeOf c.t r).zeroExtend 64 else 0x80)

/-- NPTR: CW.NPTR of a direction, 0 where the mesh has no neighbour there (R126, R127). -/
def execNptr (d r : Nat) (s : State) : Out :=
  scalarOp s [] d fun c _ =>
    .ok (if c.st.hasNeighbour c.t r then (c.st.nptrOf c.t r).zeroExtend 64 else 0)

/-- FCTR: the counter of the field that hosts the tile (R126, R30). -/
def execFctr (d : Nat) (s : State) : Out :=
  coreOp s 4 fun c => do
    check c (!badDest c d) 0x06
    let f := c.st.fieldOf c.t
    let st := c.st.advanceField f
    ({ c with st := st }.writeReg d (BitVec.ofNat 64 (Map.get 0 st.fieldCtr f))).complete 4

/-- The sixteen words of an active message (R129). -/
def messageWords (handler slot tag : Nat) (dest : Nat) (v : Lanes) : List Word32 :=
  [BitVec.ofNat 32 handler, BitVec.ofNat 32 (0x40 + slot * 2 ^ 24), BitVec.ofNat 32 (tag % 65536),
    BitVec.ofNat 32 (packRel (-(relDx dest)) (-(relDy dest)))] ++ (v ++ zeroLanes).take 12

/-- SEND: a message staged for the tile that sa names (R129, R132). -/
def execSend (d a tag i : Nat) (s : State) : Out :=
  coreOp s 8 fun c => do
    let r ← readSrcs c [a] none
    let dest := (src r.1 0).toNat % 2 ^ 32
    match (c.st.swatch c.slot.swatch).rel c.t dest with
    | none => coreFault c 0x11
    | some dst => do
      check c (decide (i % 4 = 0)) 0x03
      check c (decide (i < sramEnd)) 0x04
      check c (decide (c.f.messages.length < 16)) 0x06
      ({ r.2 with f := { r.2.f with
          messages := r.2.f.messages ++ [.message dst (messageWords i c.f.slot tag dest (c.f.vreg d))] } } : Ctx).complete 8

end Sys2Proof.Machine
end

