-- ==== Sys2Proof/Machine/System.lean ====
section
/-! DEFINITION. System and trap instructions, major 0x00 (R336 to R347). -/

namespace Sys2Proof.Machine

/-- ACTIVE of CW.TSTAT (R341). -/
def trapActive (f : Firing) : Bool := bitField f.tstat 31 1 == 1

/-- Entering the trap handler: the address that would be fetched next and the loop levels are saved, the levels cleared, and control goes to
CW.TVEC (R342). -/
def Firing.enterTrap (f : Firing) (code : Nat) : Firing :=
  let f1 := f.complete 4
  { f1 with tpc := f1.pc, savedLevels := f1.levels, levels := [], tstat := 2 ^ 31 + code * 16, pc := f.tvec }

/-- Returning from it: the levels restored, CW.TSTAT cleared, control back to CW.TPC (R342). -/
def Firing.leaveTrap (f : Firing) : Firing :=
  { f with levels := leaveLevels f.pc f.tpc f.savedLevels, tstat := 0, pc := f.tpc }

/-- TRAP: enters the handler, or 0x29 without one or inside one, or 0x04 where it lies outside the window (R342). -/
def execTrap (code : Nat) (s : State) : Out :=
  coreOp s 4 fun c => do
    check c (c.f.tvec != 0 && !trapActive c.f) 0x29
    check c (decide (c.f.tvec < sramEnd)) 0x04
    .ok { c with f := c.f.enterTrap code }

/-- TRET: 0x01 outside a handler; then a transfer to CW.TPC, checked as R103 checks one (R342). -/
def execTret (s : State) : Out :=
  coreOp s 4 fun c => do
    check c (trapActive c.f) 0x01
    checkTarget c (c.f.tpc : Int)
    .ok { c with f := c.f.leaveTrap }

/-- Whether the debugger is enabled on the tile (R359). -/
def Tile.debugOn (x : Tile) : Bool := bitField (x.cword 0x400) 0 1 == 1

/-- The address at which the firing of tile t goes on. -/
def State.pcOf (s : State) (t : Nat) : Nat :=
  match (s.tile t).firing with
  | some f => f.pc
  | none => 0

/-- BRK: with debug enabled it completes and the core halts, else 0x28 (R343). -/
def execBrk (_c : Nat) (s : State) : Out :=
  issueThen s 4 (fun c => if c.x.debugOn then c.complete 4 else coreFault c 0x28)
    fun s' => s'.halt s.focus 0 (s'.pcOf s.focus)

/-- CWR (R336). -/
def execCwr (d n : Nat) (s : State) : Out := scalarOp s [] d fun c _ => .ok (BitVec.ofNat 64 (c.cwRead n))

/-- A write of control word n from sa: A[63:32] is ignored (R336). -/
def cwwOp (s : State) (a n : Nat) : Out :=
  coreOp s 4 fun c => do
    let r ← readSrcs c [a] none
    let c1 ← r.2.cwWrite n ((src r.1 0).toNat % 2 ^ 32)
    c1.complete 4

/-- CWW (R336). -/
def execCww (a n : Nat) (s : State) : Out := cwwOp s a n

/-- The CWW of CW.LC0 or CW.LC1 (R109). -/
def execCwLcWrite (level a : Nat) (s : State) : Out := cwwOp s a (0x011 + 3 * level)

/-- The CWW of CW.FFLAGS (R73, R230). -/
def execCwFflagsWrite (a : Nat) (s : State) : Out := cwwOp s a 0x002

/-- The CWW of CW.ROUND (R72). -/
def execCwRoundWrite (a : Nat) (s : State) : Out := cwwOp s a 0x001

/-- The CWW of CW.MCTL (R248). -/
def execCwMctlWrite (a : Nat) (s : State) : Out := cwwOp s a 0x020

/-- WAITEV: the events named that are pending, once one is; they are cleared (R344). -/
def execWaitev (d a : Nat) (s : State) : Out :=
  coreOp s 4 fun c => do
    let r ← readSrcs c [a] (some d)
    let m := (src r.1 0).toNat % 256
    let hit := c.f.evpend &&& m
    if m ≠ 0 ∧ hit = 0 then .error (.wait (.events m))
    else (({ r.2 with f := { r.2.f with evpend := r.2.f.evpend - hit } } : Ctx).writeReg d (BitVec.ofNat 64 hit)).complete 4

/-- RDCYC: the tile's cycle count, which every instruction issued advances by 1 and a free number more (R345). -/
def execRdcyc (d : Nat) (s : State) : Out := scalarOp s [] d fun c _ => .ok (BitVec.ofNat 64 c.x.cycles)

/-- HALTQ: the request is staged for the commit (R346). -/
def execHaltq (s : State) : Out := coreOp s 4 fun c => ({ c with f := { c.f with haltq := true } } : Ctx).complete 4

/-- A word that checks 1 to 4 of R39 refuse: fault 0x01, no part of any effect. -/
def execIllegalInstruction (s : State) : Out := coreOp s 4 fun c => coreFault c 0x01

end Sys2Proof.Machine
end

