-- ==== Sys2Proof/Machine/VecFp.lean ====
section
/-! DEFINITION. Floating-point vector instructions, majors 0x20 and 0x22 (R231 to R234). -/

namespace Sys2Proof.Machine

/-- The format of a VFP type (R48). -/
def fpFmt : FpType → Fmt
  | .f32 => fmtF32
  | .f16 => fmtF16
  | .bf16 => fmtBf16

/-- A VFP form: op takes the format, the mode of CW.ROUND and the elements of the sources (R231). -/
def vfpOp (s : State) (d m : Nat) (z : Bool) (t : FpType) (srcs : List Nat) (op : Fmt → Nat → List Nat → Nat × Nat) : Out :=
  vectorOp s d m z srcs fun mode ls => perElement (fpFmt t).width (op (fpFmt t) mode) ls

/-- A two-operand VFP form. -/
def vfpBin (s : State) (d a b m : Nat) (z : Bool) (t : FpType) (op : Fmt → Nat → Nat → Nat → Nat × Nat) : Out :=
  vfpOp s d m z t [a, b] fun f mode l => op f mode (l.getD 0 0) (l.getD 1 0)

/-- A one-operand VFP form. -/
def vfpUn (s : State) (d a m : Nat) (z : Bool) (t : FpType) (op : Fmt → Nat → Nat → Nat × Nat) : Out :=
  vfpOp s d m z t [a] fun f mode l => op f mode (l.getD 0 0)

/-- A fused form whose addend is register c (R234). -/
def vfpFused (s : State) (d a b c m : Nat) (z : Bool) (t : FpType) (negProd negAdd : Bool) : Out :=
  vfpOp s d m z t [a, b, c] fun f mode l => fpFused f mode negProd negAdd (l.getD 0 0) (l.getD 1 0) (l.getD 2 0)

/-- VFADD (R231). -/
def execVfadd (d a b m : Nat) (z : Bool) (t : FpType) (s : State) : Out := vfpBin s d a b m z t fpAdd

/-- VFSUB (R231). -/
def execVfsub (d a b m : Nat) (z : Bool) (t : FpType) (s : State) : Out := vfpBin s d a b m z t fpSub

/-- VFMUL (R231). -/
def execVfmul (d a b m : Nat) (z : Bool) (t : FpType) (s : State) : Out := vfpBin s d a b m z t fpMul

/-- VFDIV (R231). -/
def execVfdiv (d a b m : Nat) (z : Bool) (t : FpType) (s : State) : Out := vfpBin s d a b m z t fpDiv

/-- VFSQRT (R231). -/
def execVfsqrt (d a m : Nat) (z : Bool) (t : FpType) (s : State) : Out := vfpUn s d a m z t fpSqrt

/-- VFMIN (R232). -/
def execVfmin (d a b m : Nat) (z : Bool) (t : FpType) (s : State) : Out := vfpBin s d a b m z t fun f _ a b => fpMinMax f false a b

/-- VFMAX (R232). -/
def execVfmax (d a b m : Nat) (z : Bool) (t : FpType) (s : State) : Out := vfpBin s d a b m z t fun f _ a b => fpMinMax f true a b

/-- VFABS: the sign bit cleared, no flag (R233). -/
def execVfabs (d a m : Nat) (z : Bool) (t : FpType) (s : State) : Out := vfpUn s d a m z t fun f _ a => (f.mag a, 0)

/-- VFNEG: the sign bit inverted, no flag (R233). -/
def execVfneg (d a m : Nat) (z : Bool) (t : FpType) (s : State) : Out :=
  vfpUn s d a m z t fun f _ a => (f.withSign (!f.sign a) (f.mag a), 0)

/-- VFCLASS (R233). -/
def execVfclass (d a m : Nat) (z : Bool) (t : FpType) (s : State) : Out := vfpUn s d a m z t fun f _ a => (fpClass f a, 0)

/-- VFMA, three operands: a x b + d, the old value of vd (R234). -/
def execVfmaVfp (d a b m : Nat) (z : Bool) (t : FpType) (s : State) : Out := vfpFused s d a b d m z t false false

/-- VFMA, four operands: a x b + c (R234). -/
def execVfmaV4 (d a b c m : Nat) (z : Bool) (s : State) : Out := vfpFused s d a b c m z .f32 false false

/-- VFMS, three operands: a x b - d, the old value of vd (R234). -/
def execVfmsVfp (d a b m : Nat) (z : Bool) (t : FpType) (s : State) : Out := vfpFused s d a b d m z t false true

/-- VFMS, four operands: a x b - c (R234). -/
def execVfmsV4 (d a b c m : Nat) (z : Bool) (s : State) : Out := vfpFused s d a b c m z .f32 false true

/-- VFNMA, three operands: -(a x b) + d, the old value of vd (R234). -/
def execVfnmaVfp (d a b m : Nat) (z : Bool) (t : FpType) (s : State) : Out := vfpFused s d a b d m z t true false

/-- VFNMA, four operands: -(a x b) + c (R234). -/
def execVfnmaV4 (d a b c m : Nat) (z : Bool) (s : State) : Out := vfpFused s d a b c m z .f32 true false

/-- VFNMS, three operands: -(a x b) - d, the old value of vd (R234). -/
def execVfnmsVfp (d a b m : Nat) (z : Bool) (t : FpType) (s : State) : Out := vfpFused s d a b d m z t true true

/-- VFNMS, four operands: -(a x b) - c (R234). -/
def execVfnmsV4 (d a b c m : Nat) (z : Bool) (s : State) : Out := vfpFused s d a b c m z .f32 true true

end Sys2Proof.Machine
end

