-- ==== Sys2Proof/Machine/VecInt.lean ====
section
/-! DEFINITION. Integer vector instructions, major 0x21 (R235, R236). -/

namespace Sys2Proof.Machine

/-- The bits of a VINT element (R49). -/
def intBits : IntWidth → Nat
  | .w32 => 32
  | .w16 => 16
  | .w8 => 8

/-- A VINT form: op takes the element width, the elements as unsigned and as signed numbers, and gives the exact result and its flags
(R235). -/
def vintOp (s : State) (d a b m : Nat) (z : Bool) (w : IntWidth) (op : Nat → Nat → Nat → Int → Int → Int × Nat) : Out :=
  vectorOp s d m z [a, b] fun _ ls => perElement (intBits w) (fun l =>
    let x := l.getD 0 0
    let y := l.getD 1 0
    let r := op (intBits w) x y (sextInt (intBits w) x) (sextInt (intBits w) y)
    (wrapInt (intBits w) r.1, r.2)) ls

/-- A VINT form that wraps, on the elements as unsigned numbers. -/
def vintN (s : State) (d a b m : Nat) (z : Bool) (w : IntWidth) (op : Nat → Nat → Nat → Int) : Out :=
  vintOp s d a b m z w fun n x y _ _ => (op n x y, 0)

/-- A VINT form that wraps, on the elements as signed numbers. -/
def vintI (s : State) (d a b m : Nat) (z : Bool) (w : IntWidth) (op : Nat → Int → Int → Int) : Out :=
  vintOp s d a b m z w fun n _ _ x y => (op n x y, 0)

/-- sat(i_w, x) (R67). -/
def satSigned (n : Nat) (x : Int) : Int × Nat := saturate (-(2 ^ (n - 1))) (2 ^ (n - 1) - 1) x

/-- sat(n_w, x) (R67). -/
def satUnsigned (n : Nat) (x : Int) : Int × Nat := saturate 0 (2 ^ n - 1) x

/-- The sum of the four products of the bytes of two lanes (R236). -/
def dot4 (ext : Nat → Int) (x y : Nat) : Int :=
  ext (bitField x 0 8) * ext (bitField y 0 8) + ext (bitField x 8 8) * ext (bitField y 8 8) +
    ext (bitField x 16 8) * ext (bitField y 16 8) + ext (bitField x 24 8) * ext (bitField y 24 8)

/-- VADD: A + B (R235). -/
def execVadd (d a b m : Nat) (z : Bool) (w : IntWidth) (s : State) : Out :=
  vintN s d a b m z w fun _ x y => (x : Int) + y

/-- VSUB: A - B (R235). -/
def execVsub (d a b m : Nat) (z : Bool) (w : IntWidth) (s : State) : Out :=
  vintN s d a b m z w fun _ x y => (x : Int) - y

/-- VMUL: A x B (R235). -/
def execVmul (d a b m : Nat) (z : Bool) (w : IntWidth) (s : State) : Out :=
  vintN s d a b m z w fun _ x y => (x : Int) * y

/-- VMULH.i: floor(As x Bs / 2^w) (R235). -/
def execVmulhI (d a b m : Nat) (z : Bool) (w : IntWidth) (s : State) : Out :=
  vintI s d a b m z w fun n x y => x * y / 2 ^ n

/-- VMULH.n: floor(A x B / 2^w) (R235). -/
def execVmulhN (d a b m : Nat) (z : Bool) (w : IntWidth) (s : State) : Out :=
  vintN s d a b m z w fun n x y => ((x * y / 2 ^ n : Nat) : Int)

/-- VAND (R235). -/
def execVand (d a b m : Nat) (z : Bool) (w : IntWidth) (s : State) : Out :=
  vintN s d a b m z w fun _ x y => ((x &&& y : Nat) : Int)

/-- VOR (R235). -/
def execVor (d a b m : Nat) (z : Bool) (w : IntWidth) (s : State) : Out :=
  vintN s d a b m z w fun _ x y => ((x ||| y : Nat) : Int)

/-- VXOR (R235). -/
def execVxor (d a b m : Nat) (z : Bool) (w : IntWidth) (s : State) : Out :=
  vintN s d a b m z w fun _ x y => ((x ^^^ y : Nat) : Int)

/-- VANDN: A and not B (R235). -/
def execVandn (d a b m : Nat) (z : Bool) (w : IntWidth) (s : State) : Out :=
  vintN s d a b m z w fun n x y => ((x &&& (2 ^ n - 1 - y) : Nat) : Int)

/-- VSLL: A x 2^k, k = B mod w (R235). -/
def execVsll (d a b m : Nat) (z : Bool) (w : IntWidth) (s : State) : Out :=
  vintN s d a b m z w fun n x y => ((x * 2 ^ (y % n) : Nat) : Int)

/-- VSRL: floor(A / 2^k) (R235). -/
def execVsrl (d a b m : Nat) (z : Bool) (w : IntWidth) (s : State) : Out :=
  vintN s d a b m z w fun n x y => ((x / 2 ^ (y % n) : Nat) : Int)

/-- VSRA: floor(As / 2^k) (R235). -/
def execVsra (d a b m : Nat) (z : Bool) (w : IntWidth) (s : State) : Out :=
  vintOp s d a b m z w fun n _ y x _ => (x / 2 ^ (y % n), 0)

/-- VMIN.i: lesser of As, Bs (R235). -/
def execVminI (d a b m : Nat) (z : Bool) (w : IntWidth) (s : State) : Out :=
  vintI s d a b m z w fun _ x y => if x < y then x else y

/-- VMIN.n: lesser of A, B (R235). -/
def execVminN (d a b m : Nat) (z : Bool) (w : IntWidth) (s : State) : Out :=
  vintN s d a b m z w fun _ x y => ((if x < y then x else y : Nat) : Int)

/-- VMAX.i: greater of As, Bs (R235). -/
def execVmaxI (d a b m : Nat) (z : Bool) (w : IntWidth) (s : State) : Out :=
  vintI s d a b m z w fun _ x y => if x < y then y else x

/-- VMAX.n: greater of A, B (R235). -/
def execVmaxN (d a b m : Nat) (z : Bool) (w : IntWidth) (s : State) : Out :=
  vintN s d a b m z w fun _ x y => ((if x < y then y else x : Nat) : Int)

/-- VADDS.i: sat(i_w, As + Bs) (R235). -/
def execVaddsI (d a b m : Nat) (z : Bool) (w : IntWidth) (s : State) : Out :=
  vintOp s d a b m z w fun n _ _ x y => satSigned n (x + y)

/-- VADDS.n: sat(n_w, A + B) (R235). -/
def execVaddsN (d a b m : Nat) (z : Bool) (w : IntWidth) (s : State) : Out :=
  vintOp s d a b m z w fun n x y _ _ => satUnsigned n ((x : Int) + y)

/-- VSUBS.i: sat(i_w, As - Bs) (R235). -/
def execVsubsI (d a b m : Nat) (z : Bool) (w : IntWidth) (s : State) : Out :=
  vintOp s d a b m z w fun n _ _ x y => satSigned n (x - y)

/-- VSUBS.n: sat(n_w, A - B) (R235). -/
def execVsubsN (d a b m : Nat) (z : Bool) (w : IntWidth) (s : State) : Out :=
  vintOp s d a b m z w fun n x y _ _ => satUnsigned n ((x : Int) - y)

/-- VABSD.i: abs(As - Bs) (R235). -/
def execVabsdI (d a b m : Nat) (z : Bool) (w : IntWidth) (s : State) : Out :=
  vintI s d a b m z w fun _ x y => ((x - y).natAbs : Int)

/-- VABSD.n: abs(A - B) (R235). -/
def execVabsdN (d a b m : Nat) (z : Bool) (w : IntWidth) (s : State) : Out :=
  vintN s d a b m z w fun _ x y => (((x : Int) - y).natAbs : Int)

/-- VDOT4.i8: four products of signed bytes (R236). -/
def execVdot4I8 (d a b m : Nat) (z : Bool) (s : State) : Out :=
  vectorOp s d m z [a, b] fun _ l => (wrapInt 32 (dot4 (sextInt 8) (l.getD 0 0) (l.getD 1 0)), 0)

/-- VDOT4.n8: four products of unsigned bytes (R236). -/
def execVdot4N8 (d a b m : Nat) (z : Bool) (s : State) : Out :=
  vectorOp s d m z [a, b] fun _ l => (wrapInt 32 (dot4 (fun x => (x : Int)) (l.getD 0 0) (l.getD 1 0)), 0)

end Sys2Proof.Machine
end

