-- ==== Sys2Proof/Machine/VecMisc.lean ====
section
/-! DEFINITION. Vector compares and selection, conversions and packing, reductions, permutes and moves, majors 0x23 to 0x27 (R237 to
R245). -/

namespace Sys2Proof.Machine

/-! ### Compare and select -/

/-- How two lanes compare: less, equal, greater, or unordered. -/
inductive Comparison where | lt | eq | gt | un
  deriving DecidableEq, Repr

/-- Two lanes compared under a type, +0 equal to -0 (R237). -/
def orderOf (t : CmpType) (a b : Nat) : Comparison :=
  match t with
  | .f32 =>
    if fmtF32.isNan a || fmtF32.isNan b then .un
    else if exactLt (fmtF32.value a) (fmtF32.value b) then .lt
    else if exactLt (fmtF32.value b) (fmtF32.value a) then .gt
    else .eq
  | .i32 => if sextInt 32 a < sextInt 32 b then .lt else if sextInt 32 a = sextInt 32 b then .eq else .gt
  | .n32 => if a < b then .lt else if a = b then .eq else .gt

/-- The NV flag of a compare: of a signalling NaN alone, or of any NaN (R237). -/
def cmpFlag (t : CmpType) (anyNan : Bool) (a b : Nat) : Nat :=
  match t with
  | .f32 => flagIf (if anyNan then fmtF32.isNan a || fmtF32.isNan b else fmtF32.isSnan a || fmtF32.isSnan b) flagNV
  | _ => 0

/-- A compare: all ones where the condition holds on how the lanes compare, else 0 (R237). -/
def vcmpOp (s : State) (d a b m : Nat) (z : Bool) (t : CmpType) (anyNan : Bool) (cond : Comparison → Bool) : Out :=
  vectorOp s d m z [a, b] fun _ l =>
    let x := l.getD 0 0
    let y := l.getD 1 0
    (if cond (orderOf t x y) then 0xFFFFFFFF else 0, cmpFlag t anyNan x y)

/-- VCEQ: a = b (R237). -/
def execVceq (d a b m : Nat) (z : Bool) (t : CmpType) (s : State) : Out :=
  vcmpOp s d a b m z t false fun o => o == .eq

/-- VCNE: a and b differ, or unordered (R237). -/
def execVcne (d a b m : Nat) (z : Bool) (t : CmpType) (s : State) : Out :=
  vcmpOp s d a b m z t false fun o => !(o == .eq)

/-- VCLT: a < b (R237). -/
def execVclt (d a b m : Nat) (z : Bool) (t : CmpType) (s : State) : Out :=
  vcmpOp s d a b m z t true fun o => o == .lt

/-- VCLE: a <= b (R237). -/
def execVcle (d a b m : Nat) (z : Bool) (t : CmpType) (s : State) : Out :=
  vcmpOp s d a b m z t true fun o => o == .lt || o == .eq

/-- VCGT: a > b (R237). -/
def execVcgt (d a b m : Nat) (z : Bool) (t : CmpType) (s : State) : Out :=
  vcmpOp s d a b m z t true fun o => o == .gt

/-- VCGE: a >= b (R237). -/
def execVcge (d a b m : Nat) (z : Bool) (t : CmpType) (s : State) : Out :=
  vcmpOp s d a b m z t true fun o => o == .gt || o == .eq

/-- VCUN: a or b is NaN (R237). -/
def execVcun (d a b m : Nat) (z : Bool) (s : State) : Out := vcmpOp s d a b m z .f32 false fun o => o == .un

/-- VSEL: lane by lane, va where bit 0 of vk is 1, else vb (R238). -/
def execVsel (d a b k : Nat) (s : State) : Out :=
  vecOp s fun c =>
    { c with f := c.f.writeV d (lanes16.map fun j =>
        if c.f.laneNat k j % 2 = 1 then lane (c.f.vreg a) j else lane (c.f.vreg b) j) }.complete 4

/-! ### Conversions -/

/-- VCVT.f32.i32 (R239). -/
def execVcvtF32I32 (d a m : Nat) (z : Bool) (s : State) : Out :=
  vectorOp s d m z [a] fun mode l => convert fmtF32 mode (Exact.ofInt (sextInt 32 (l.getD 0 0)) 0)

/-- VCVT.f32.n32 (R239). -/
def execVcvtF32N32 (d a m : Nat) (z : Bool) (s : State) : Out :=
  vectorOp s d m z [a] fun mode l => convert fmtF32 mode (Exact.ofInt (l.getD 0 0) 0)

/-- A conversion of a lane from f32 to the integers lo to hi, with the flags of R67 (R239). -/
def f32ToInt (mode : Nat) (lo hi : Int) (x : Nat) : Nat × Nat :=
  let r := toInteger mode lo hi (fmtF32.value x)
  (wrapInt 32 r.1, r.2)

/-- VCVT.i32.f32 (R239). -/
def execVcvtI32F32 (d a m : Nat) (z : Bool) (s : State) : Out :=
  vectorOp s d m z [a] fun mode l => f32ToInt mode (-(2 ^ 31)) (2 ^ 31 - 1) (l.getD 0 0)

/-- VCVT.n32.f32 (R239). -/
def execVcvtN32F32 (d a m : Nat) (z : Bool) (s : State) : Out :=
  vectorOp s d m z [a] fun mode l => f32ToInt mode 0 (2 ^ 32 - 1) (l.getD 0 0)

/-- A half pack: element 2j from va lane j and element 2j + 1 from vb lane j (R240). -/
def halfPack (s : State) (fmt : Fmt) (d a b m : Nat) (z : Bool) : Out :=
  vectorOp s d m z [a, b] fun mode l =>
    let x := narrow fmtF32 fmt mode (l.getD 0 0)
    let y := narrow fmtF32 fmt mode (l.getD 1 0)
    (x.1 + y.1 * 2 ^ 16, x.2 ||| y.2)

/-- A half unpack (R240). -/
def halfUnpack (s : State) (fmt : Fmt) (d a q m : Nat) (z : Bool) : Out :=
  vectorOp s d m z [a] fun _ l => widen fmt fmtF32 (bitField (l.getD 0 0) (16 * q) 16)

/-- VPK.f16 (R240). -/
def execVpkF16 (d a b m : Nat) (z : Bool) (s : State) : Out := halfPack s fmtF16 d a b m z

/-- VPK.bf16 (R240). -/
def execVpkBf16 (d a b m : Nat) (z : Bool) (s : State) : Out := halfPack s fmtBf16 d a b m z

/-- VUPK.f16 (R240). -/
def execVupkF16 (d a q m : Nat) (z : Bool) (s : State) : Out := halfUnpack s fmtF16 d a q m z

/-- VUPK.bf16 (R240). -/
def execVupkBf16 (d a q m : Nat) (z : Bool) (s : State) : Out := halfUnpack s fmtBf16 d a q m z

/-- The bits from one element to the next of a narrow format in a lane (R241). -/
def narrowPitch (fmt : Fmt) : Nat := if fmt.width = 4 then 4 else 8

/-- Whether the variant lacks a format (R2, R69). -/
def lacksNarrow (v : Variant) (fmt : Fmt) : Bool := decide (v = .w2q) && !fmt.hasNan

/-- A vector instruction on a narrow format: fault 0x02 where the variant lacks it (R241). -/
def narrowOp (s : State) (fmt : Fmt) (d m : Nat) (z : Bool) (srcs : List Nat) (op : Nat → List Nat → Nat × Nat) : Out :=
  vecOp s fun c => do
    check c (!lacksNarrow c.st.variant fmt) 0x02
    { c with f := c.f.writeLanes d m z fun j => op c.f.round (srcs.map fun i => c.f.laneNat i j) }.complete 4

/-- A narrow pack: element position q of the old vd replaced (R241). -/
def narrowPack (s : State) (fmt : Fmt) (d a q m : Nat) (z : Bool) : Out :=
  narrowOp s fmt d m z [a, d] fun mode l =>
    let r := narrow fmtF32 fmt mode (l.getD 0 0)
    (setBitField (l.getD 1 0) (narrowPitch fmt * q) (narrowPitch fmt) r.1, r.2)

/-- A narrow unpack (R241). -/
def narrowUnpack (s : State) (fmt : Fmt) (d a q m : Nat) (z : Bool) : Out :=
  narrowOp s fmt d m z [a] fun _ l => widen fmt fmtF32 (bitField (l.getD 0 0) (narrowPitch fmt * q) fmt.width)

/-- VPK.e4m3 (R241). -/
def execVpkE4m3 (d a q m : Nat) (z : Bool) (s : State) : Out := narrowPack s fmtE4m3 d a q m z

/-- VUPK.e4m3 (R241). -/
def execVupkE4m3 (d a q m : Nat) (z : Bool) (s : State) : Out := narrowUnpack s fmtE4m3 d a q m z

/-- VPK.e5m2 (R241). -/
def execVpkE5m2 (d a q m : Nat) (z : Bool) (s : State) : Out := narrowPack s fmtE5m2 d a q m z

/-- VUPK.e5m2 (R241). -/
def execVupkE5m2 (d a q m : Nat) (z : Bool) (s : State) : Out := narrowUnpack s fmtE5m2 d a q m z

/-- VPK.e3m2 (R241). -/
def execVpkE3m2 (d a q m : Nat) (z : Bool) (s : State) : Out := narrowPack s fmtE3m2 d a q m z

/-- VUPK.e3m2 (R241). -/
def execVupkE3m2 (d a q m : Nat) (z : Bool) (s : State) : Out := narrowUnpack s fmtE3m2 d a q m z

/-- VPK.e2m3 (R241). -/
def execVpkE2m3 (d a q m : Nat) (z : Bool) (s : State) : Out := narrowPack s fmtE2m3 d a q m z

/-- VUPK.e2m3 (R241). -/
def execVupkE2m3 (d a q m : Nat) (z : Bool) (s : State) : Out := narrowUnpack s fmtE2m3 d a q m z

/-- VPK.e2m1 (R241). -/
def execVpkE2m1 (d a q m : Nat) (z : Bool) (s : State) : Out := narrowPack s fmtE2m1 d a q m z

/-- VUPK.e2m1 (R241). -/
def execVupkE2m1 (d a q m : Nat) (z : Bool) (s : State) : Out := narrowUnpack s fmtE2m1 d a q m z

/-! ### Reductions (R85, R242) -/

/-- A node of the tree: an absent child passes the other through (R85). -/
def treeNode (op : Nat → Nat → Nat × Nat) : Option (Nat × Nat) → Option (Nat × Nat) → Option (Nat × Nat)
  | some x, some y =>
    let r := op x.1 y.1
    some (r.1, r.2 ||| x.2 ||| y.2)
  | some x, none => some x
  | none, y => y

/-- One level of the tree: neighbours combined, the lower-numbered group on the left. -/
def treeLevel (op : Nat → Nat → Nat × Nat) : List (Option (Nat × Nat)) → List (Option (Nat × Nat))
  | x :: y :: r => treeNode op x y :: treeLevel op r
  | l => l

/-- The fixed tree of four levels over sixteen lanes (R85). -/
def reduceTree (op : Nat → Nat → Nat × Nat) (l : List (Option (Nat × Nat))) : Option (Nat × Nat) :=
  (treeLevel op (treeLevel op (treeLevel op (treeLevel op l)))).getD 0 none

/-- A reduction of the enabled lanes of va to lane 0, the other lanes 0: absent is the result where every lane is absent (R85, R242). -/
def vredOp (s : State) (d a m : Nat) (t : CmpType) (absent : Nat) (op : Nat → Nat → Nat → Nat × Nat) : Out :=
  vecOp s fun c =>
    let leaf := fun j =>
      if c.f.enabled m j then
        some (c.f.laneNat a j, if t = .f32 then flagIf (fmtF32.isSnan (c.f.laneNat a j)) flagNV else 0)
      else none
    let r := (reduceTree (op c.f.round) (lanes16.map leaf)).getD (absent, 0)
    let v := if t = .f32 ∧ fmtF32.isNan r.1 then fmtF32.nanCode else r.1
    { c with f := { c.f.writeV d (zeroLanes.set 0 (BitVec.ofNat 32 v)) with fflags := c.f.fflags ||| r.2 } }.complete 4

/-- The lesser or greater of two integer lanes (R242). -/
def intMinMax (signed max : Bool) (x y : Nat) : Nat × Nat :=
  let less := if signed then decide (sextInt 32 x < sextInt 32 y) else decide (x < y)
  (if less = max then y else x, 0)

/-- VRSUM (R242). -/
def execVrsum (d a m : Nat) (t : CmpType) (s : State) : Out :=
  vredOp s d a m t 0 fun mode x y => match t with
    | .f32 => fpAdd fmtF32 mode x y
    | _ => ((x + y) % 2 ^ 32, 0)

/-- VRMIN (R242). -/
def execVrmin (d a m : Nat) (t : CmpType) (s : State) : Out :=
  vredOp s d a m t (match t with | .f32 => 0x7F800000 | .i32 => 0x7FFFFFFF | .n32 => 0xFFFFFFFF) fun _ x y => match t with
    | .f32 => fpMinMax fmtF32 false x y
    | .i32 => intMinMax true false x y
    | .n32 => intMinMax false false x y

/-- VRMAX (R242). -/
def execVrmax (d a m : Nat) (t : CmpType) (s : State) : Out :=
  vredOp s d a m t (match t with | .f32 => 0xFF800000 | .i32 => 0x80000000 | .n32 => 0) fun _ x y => match t with
    | .f32 => fpMinMax fmtF32 true x y
    | .i32 => intMinMax true true x y
    | .n32 => intMinMax false true x y

/-- VRAND (R242). -/
def execVrand (d a m : Nat) (t : CmpType) (s : State) : Out := vredOp s d a m t 0xFFFFFFFF fun _ x y => (x &&& y, 0)

/-- VROR (R242). -/
def execVror (d a m : Nat) (t : CmpType) (s : State) : Out := vredOp s d a m t 0 fun _ x y => (x ||| y, 0)

/-- VRXOR (R242). -/
def execVrxor (d a m : Nat) (t : CmpType) (s : State) : Out := vredOp s d a m t 0 fun _ x y => (x ^^^ y, 0)

/-! ### Permutes, slides and moves (R243, R244) -/

/-- Whole lanes moved and written under R227. -/
def permOp (s : State) (d m : Nat) (z : Bool) (r : Firing → Nat → Word32) : Out :=
  vecOp s fun c => { c with f := c.f.writeV d (maskWrite c.f d m z (r c.f)) }.complete 4

/-- VPERM (R243). -/
def execVperm (d a b m : Nat) (z : Bool) (s : State) : Out :=
  permOp s d m z fun f j => lane (f.vreg a) (f.laneNat b j % 16)

/-- VSHUF: indices 16 to 31 read the old vd (R243). -/
def execVshuf (d a b m : Nat) (z : Bool) (s : State) : Out :=
  permOp s d m z fun f j =>
    let t := f.laneNat b j % 32
    if t < 16 then lane (f.vreg a) t else lane (f.vreg d) (t - 16)

/-- VSLIDEU (R243). -/
def execVslideu (d a k m : Nat) (z : Bool) (s : State) : Out :=
  permOp s d m z fun f j => if k ≤ j then lane (f.vreg a) (j - k) else 0

/-- VSLIDED (R243). -/
def execVslided (d a k m : Nat) (z : Bool) (s : State) : Out :=
  permOp s d m z fun f j => if j + k ≤ 15 then lane (f.vreg a) (j + k) else 0

/-- VMV (R244). -/
def execVmv (d a m : Nat) (z : Bool) (s : State) : Out := permOp s d m z fun f j => lane (f.vreg a) j

/-- A move from a scalar source, written under R227 (R228, R244). -/
def fromScalar (s : State) (d a m : Nat) (z : Bool) (r : Firing → Word32 → Nat → Word32) : Out :=
  vecOp s fun c => do
    let v ← readSrcs c [a] none
    let f := v.2.f
    { v.2 with f := f.writeV d (maskWrite f d m z (r f ((src v.1 0).truncate 32))) }.complete 4

/-- VSPLAT (R244). -/
def execVsplat (d a m : Nat) (z : Bool) (s : State) : Out := fromScalar s d a m z fun _ x _ => x

/-- VINS (R244). -/
def execVins (d a k m : Nat) (z : Bool) (s : State) : Out :=
  fromScalar s d a m z fun f x j => if j = k then x else lane (f.vreg d) j

/-- VEXT (R244). -/
def execVext (d a k : Nat) (s : State) : Out :=
  vecScalarOp s d fun c => (lane (c.f.vreg a) k).zeroExtend 64

/-- VMSK: bit j for every lane j whose bit 0 is 1 (R244). -/
def execVmsk (d a : Nat) (s : State) : Out :=
  vecScalarOp s d fun c => BitVec.ofNat 64 ((lanes16.map fun j => c.f.laneNat a j % 2 * 2 ^ j).sum)

end Sys2Proof.Machine
end

