-- ==== Sys2Proof/Machine/Dispatch.lean ====
section
/-! DEFINITION. Every instruction with its meaning, one arm each. -/

namespace Sys2Proof.Machine

def exec (i : Instr) (s : State) : Host.Outcome State Fault Refusal :=
  match i with
  | .trap c => Sys2Proof.Machine.execTrap c s
  | .tret => Sys2Proof.Machine.execTret s
  | .brk c => Sys2Proof.Machine.execBrk c s
  | .cwr d c => Sys2Proof.Machine.execCwr d c s
  | .cww a c => Sys2Proof.Machine.execCww a c s
  | .waitev d a => Sys2Proof.Machine.execWaitev d a s
  | .rdcyc d => Sys2Proof.Machine.execRdcyc d s
  | .haltq => Sys2Proof.Machine.execHaltq s
  | .add d a b => Sys2Proof.Machine.execAdd d a b s
  | .sub d a b => Sys2Proof.Machine.execSub d a b s
  | .and d a b => Sys2Proof.Machine.execAnd d a b s
  | .or d a b => Sys2Proof.Machine.execOr d a b s
  | .xor d a b => Sys2Proof.Machine.execXor d a b s
  | .andn d a b => Sys2Proof.Machine.execAndn d a b s
  | .orn d a b => Sys2Proof.Machine.execOrn d a b s
  | .xnor d a b => Sys2Proof.Machine.execXnor d a b s
  | .sll d a b => Sys2Proof.Machine.execSll d a b s
  | .srl d a b => Sys2Proof.Machine.execSrl d a b s
  | .sra d a b => Sys2Proof.Machine.execSra d a b s
  | .rol d a b => Sys2Proof.Machine.execRol d a b s
  | .ror d a b => Sys2Proof.Machine.execRor d a b s
  | .slt d a b => Sys2Proof.Machine.execSlt d a b s
  | .sltn d a b => Sys2Proof.Machine.execSltn d a b s
  | .min d a b => Sys2Proof.Machine.execMin d a b s
  | .max d a b => Sys2Proof.Machine.execMax d a b s
  | .minn d a b => Sys2Proof.Machine.execMinn d a b s
  | .maxn d a b => Sys2Proof.Machine.execMaxn d a b s
  | .addw d a b => Sys2Proof.Machine.execAddw d a b s
  | .subw d a b => Sys2Proof.Machine.execSubw d a b s
  | .mul d a b => Sys2Proof.Machine.execMul d a b s
  | .mulh d a b => Sys2Proof.Machine.execMulh d a b s
  | .mulhn d a b => Sys2Proof.Machine.execMulhn d a b s
  | .div d a b => Sys2Proof.Machine.execDiv d a b s
  | .divn d a b => Sys2Proof.Machine.execDivn d a b s
  | .rem d a b => Sys2Proof.Machine.execRem d a b s
  | .remn d a b => Sys2Proof.Machine.execRemn d a b s
  | .clz d a => Sys2Proof.Machine.execClz d a s
  | .ctz d a => Sys2Proof.Machine.execCtz d a s
  | .popc d a => Sys2Proof.Machine.execPopc d a s
  | .bswap d a => Sys2Proof.Machine.execBswap d a s
  | .sextI8 d a => Sys2Proof.Machine.execSextI8 d a s
  | .sextI16 d a => Sys2Proof.Machine.execSextI16 d a s
  | .sextI32 d a => Sys2Proof.Machine.execSextI32 d a s
  | .zextN8 d a => Sys2Proof.Machine.execZextN8 d a s
  | .zextN16 d a => Sys2Proof.Machine.execZextN16 d a s
  | .zextN32 d a => Sys2Proof.Machine.execZextN32 d a s
  | .addi d a i1 => Sys2Proof.Machine.execAddi d a i1 s
  | .andi d a i1 => Sys2Proof.Machine.execAndi d a i1 s
  | .ori d a i1 => Sys2Proof.Machine.execOri d a i1 s
  | .xori d a i1 => Sys2Proof.Machine.execXori d a i1 s
  | .slti d a i1 => Sys2Proof.Machine.execSlti d a i1 s
  | .sltin d a i1 => Sys2Proof.Machine.execSltin d a i1 s
  | .lih d a i1 => Sys2Proof.Machine.execLih d a i1 s
  | .slli d a h => Sys2Proof.Machine.execSlli d a h s
  | .srli d a h => Sys2Proof.Machine.execSrli d a h s
  | .srai d a h => Sys2Proof.Machine.execSrai d a h s
  | .rori d a h => Sys2Proof.Machine.execRori d a h s
  | .extr d a p l => Sys2Proof.Machine.execExtr d a p l s
  | .insr d a p l => Sys2Proof.Machine.execInsr d a p l s
  | .addsh d a h b => Sys2Proof.Machine.execAddsh d a h b s
  | .beq a b o => Sys2Proof.Machine.execBeq a b o s
  | .bne a b o => Sys2Proof.Machine.execBne a b o s
  | .blt a b o => Sys2Proof.Machine.execBlt a b o s
  | .bge a b o => Sys2Proof.Machine.execBge a b o s
  | .bltn a b o => Sys2Proof.Machine.execBltn a b o s
  | .bgen a b o => Sys2Proof.Machine.execBgen a b o s
  | .jal o => Sys2Proof.Machine.execJal o s
  | .jalr d a i1 => Sys2Proof.Machine.execJalr d a i1 s
  | .loop a l => Sys2Proof.Machine.execLoop a l s
  | .ldsB d a o => Sys2Proof.Machine.execLdsB d a o s
  | .ldsBn d a o => Sys2Proof.Machine.execLdsBn d a o s
  | .ldsH d a o => Sys2Proof.Machine.execLdsH d a o s
  | .ldsHn d a o => Sys2Proof.Machine.execLdsHn d a o s
  | .ldsW d a o => Sys2Proof.Machine.execLdsW d a o s
  | .ldsWn d a o => Sys2Proof.Machine.execLdsWn d a o s
  | .ldsD d a o => Sys2Proof.Machine.execLdsD d a o s
  | .stsB d a o => Sys2Proof.Machine.execStsB d a o s
  | .stsH d a o => Sys2Proof.Machine.execStsH d a o s
  | .stsW d a o => Sys2Proof.Machine.execStsW d a o s
  | .stsD d a o => Sys2Proof.Machine.execStsD d a o s
  | .vld d a o => Sys2Proof.Machine.execVld d a o s
  | .vlds d a o => Sys2Proof.Machine.execVlds d a o s
  | .vldz d a o => Sys2Proof.Machine.execVldz d a o s
  | .vldb d a o => Sys2Proof.Machine.execVldb d a o s
  | .vldx d a b m z h => Sys2Proof.Machine.execVldx d a b m z h s
  | .vst d a o => Sys2Proof.Machine.execVst d a o s
  | .vsts d a o => Sys2Proof.Machine.execVsts d a o s
  | .vstz d a o => Sys2Proof.Machine.execVstz d a o s
  | .vstx d a b m h => Sys2Proof.Machine.execVstx d a b m h s
  | .pcnt d p => Sys2Proof.Machine.execPcnt d p s
  | .pfree d p => Sys2Proof.Machine.execPfree d p s
  | .peek d a p => Sys2Proof.Machine.execPeek d a p s
  | .pskip a p => Sys2Proof.Machine.execPskip a p s
  | .vtake d p => Sys2Proof.Machine.execVtake d p s
  | .vput a p => Sys2Proof.Machine.execVput a p s
  | .pscale d p => Sys2Proof.Machine.execPscale d p s
  | .pscalew a p => Sys2Proof.Machine.execPscalew a p s
  | .pmark p => Sys2Proof.Machine.execPmark p s
  | .pismark d p => Sys2Proof.Machine.execPismark d p s
  | .gauge d r => Sys2Proof.Machine.execGauge d r s
  | .nptr d r => Sys2Proof.Machine.execNptr d r s
  | .fctr d => Sys2Proof.Machine.execFctr d s
  | .endF => Sys2Proof.Machine.execEndF s
  | .voidf => Sys2Proof.Machine.execVoidf s
  | .aborts => Sys2Proof.Machine.execAborts s
  | .jstW d a => Sys2Proof.Machine.execJstW d a s
  | .jstD d a => Sys2Proof.Machine.execJstD d a s
  | .taken d p => Sys2Proof.Machine.execTaken d p s
  | .made d p => Sys2Proof.Machine.execMade d p s
  | .scope d a => Sys2Proof.Machine.execScope d a s
  | .seal a => Sys2Proof.Machine.execSeal a s
  | .ordinal d => Sys2Proof.Machine.execOrdinal d s
  | .vfadd d a b m z t => Sys2Proof.Machine.execVfadd d a b m z t s
  | .vfsub d a b m z t => Sys2Proof.Machine.execVfsub d a b m z t s
  | .vfmul d a b m z t => Sys2Proof.Machine.execVfmul d a b m z t s
  | .vfdiv d a b m z t => Sys2Proof.Machine.execVfdiv d a b m z t s
  | .vfsqrt d a m z t => Sys2Proof.Machine.execVfsqrt d a m z t s
  | .vfmin d a b m z t => Sys2Proof.Machine.execVfmin d a b m z t s
  | .vfmax d a b m z t => Sys2Proof.Machine.execVfmax d a b m z t s
  | .vfabs d a m z t => Sys2Proof.Machine.execVfabs d a m z t s
  | .vfneg d a m z t => Sys2Proof.Machine.execVfneg d a m z t s
  | .vfclass d a m z t => Sys2Proof.Machine.execVfclass d a m z t s
  | .vfmaVfp d a b m z t => Sys2Proof.Machine.execVfmaVfp d a b m z t s
  | .vfmsVfp d a b m z t => Sys2Proof.Machine.execVfmsVfp d a b m z t s
  | .vfnmaVfp d a b m z t => Sys2Proof.Machine.execVfnmaVfp d a b m z t s
  | .vfnmsVfp d a b m z t => Sys2Proof.Machine.execVfnmsVfp d a b m z t s
  | .vfmaV4 d a b c m z => Sys2Proof.Machine.execVfmaV4 d a b c m z s
  | .vfmsV4 d a b c m z => Sys2Proof.Machine.execVfmsV4 d a b c m z s
  | .vfnmaV4 d a b c m z => Sys2Proof.Machine.execVfnmaV4 d a b c m z s
  | .vfnmsV4 d a b c m z => Sys2Proof.Machine.execVfnmsV4 d a b c m z s
  | .vadd d a b m z w => Sys2Proof.Machine.execVadd d a b m z w s
  | .vsub d a b m z w => Sys2Proof.Machine.execVsub d a b m z w s
  | .vmul d a b m z w => Sys2Proof.Machine.execVmul d a b m z w s
  | .vmulhI d a b m z w => Sys2Proof.Machine.execVmulhI d a b m z w s
  | .vmulhN d a b m z w => Sys2Proof.Machine.execVmulhN d a b m z w s
  | .vand d a b m z w => Sys2Proof.Machine.execVand d a b m z w s
  | .vor d a b m z w => Sys2Proof.Machine.execVor d a b m z w s
  | .vxor d a b m z w => Sys2Proof.Machine.execVxor d a b m z w s
  | .vandn d a b m z w => Sys2Proof.Machine.execVandn d a b m z w s
  | .vsll d a b m z w => Sys2Proof.Machine.execVsll d a b m z w s
  | .vsrl d a b m z w => Sys2Proof.Machine.execVsrl d a b m z w s
  | .vsra d a b m z w => Sys2Proof.Machine.execVsra d a b m z w s
  | .vminI d a b m z w => Sys2Proof.Machine.execVminI d a b m z w s
  | .vminN d a b m z w => Sys2Proof.Machine.execVminN d a b m z w s
  | .vmaxI d a b m z w => Sys2Proof.Machine.execVmaxI d a b m z w s
  | .vmaxN d a b m z w => Sys2Proof.Machine.execVmaxN d a b m z w s
  | .vaddsI d a b m z w => Sys2Proof.Machine.execVaddsI d a b m z w s
  | .vaddsN d a b m z w => Sys2Proof.Machine.execVaddsN d a b m z w s
  | .vsubsI d a b m z w => Sys2Proof.Machine.execVsubsI d a b m z w s
  | .vsubsN d a b m z w => Sys2Proof.Machine.execVsubsN d a b m z w s
  | .vabsdI d a b m z w => Sys2Proof.Machine.execVabsdI d a b m z w s
  | .vabsdN d a b m z w => Sys2Proof.Machine.execVabsdN d a b m z w s
  | .vdot4I8 d a b m z => Sys2Proof.Machine.execVdot4I8 d a b m z s
  | .vdot4N8 d a b m z => Sys2Proof.Machine.execVdot4N8 d a b m z s
  | .vceq d a b m z t => Sys2Proof.Machine.execVceq d a b m z t s
  | .vcne d a b m z t => Sys2Proof.Machine.execVcne d a b m z t s
  | .vclt d a b m z t => Sys2Proof.Machine.execVclt d a b m z t s
  | .vcle d a b m z t => Sys2Proof.Machine.execVcle d a b m z t s
  | .vcgt d a b m z t => Sys2Proof.Machine.execVcgt d a b m z t s
  | .vcge d a b m z t => Sys2Proof.Machine.execVcge d a b m z t s
  | .vcun d a b m z => Sys2Proof.Machine.execVcun d a b m z s
  | .vsel d a b k => Sys2Proof.Machine.execVsel d a b k s
  | .vcvtF32I32 d a m z => Sys2Proof.Machine.execVcvtF32I32 d a m z s
  | .vcvtF32N32 d a m z => Sys2Proof.Machine.execVcvtF32N32 d a m z s
  | .vcvtI32F32 d a m z => Sys2Proof.Machine.execVcvtI32F32 d a m z s
  | .vcvtN32F32 d a m z => Sys2Proof.Machine.execVcvtN32F32 d a m z s
  | .vpkF16 d a b m z => Sys2Proof.Machine.execVpkF16 d a b m z s
  | .vpkBf16 d a b m z => Sys2Proof.Machine.execVpkBf16 d a b m z s
  | .vupkF16 d a q m z => Sys2Proof.Machine.execVupkF16 d a q m z s
  | .vupkBf16 d a q m z => Sys2Proof.Machine.execVupkBf16 d a q m z s
  | .vpkE4m3 d a q m z => Sys2Proof.Machine.execVpkE4m3 d a q m z s
  | .vpkE5m2 d a q m z => Sys2Proof.Machine.execVpkE5m2 d a q m z s
  | .vpkE3m2 d a q m z => Sys2Proof.Machine.execVpkE3m2 d a q m z s
  | .vpkE2m3 d a q m z => Sys2Proof.Machine.execVpkE2m3 d a q m z s
  | .vpkE2m1 d a q m z => Sys2Proof.Machine.execVpkE2m1 d a q m z s
  | .vupkE4m3 d a q m z => Sys2Proof.Machine.execVupkE4m3 d a q m z s
  | .vupkE5m2 d a q m z => Sys2Proof.Machine.execVupkE5m2 d a q m z s
  | .vupkE3m2 d a q m z => Sys2Proof.Machine.execVupkE3m2 d a q m z s
  | .vupkE2m3 d a q m z => Sys2Proof.Machine.execVupkE2m3 d a q m z s
  | .vupkE2m1 d a q m z => Sys2Proof.Machine.execVupkE2m1 d a q m z s
  | .vrsum d a m t => Sys2Proof.Machine.execVrsum d a m t s
  | .vrmin d a m t => Sys2Proof.Machine.execVrmin d a m t s
  | .vrmax d a m t => Sys2Proof.Machine.execVrmax d a m t s
  | .vrand d a m t => Sys2Proof.Machine.execVrand d a m t s
  | .vror d a m t => Sys2Proof.Machine.execVror d a m t s
  | .vrxor d a m t => Sys2Proof.Machine.execVrxor d a m t s
  | .vperm d a b m z => Sys2Proof.Machine.execVperm d a b m z s
  | .vshuf d a b m z => Sys2Proof.Machine.execVshuf d a b m z s
  | .vslideu d a k m z => Sys2Proof.Machine.execVslideu d a k m z s
  | .vslided d a k m z => Sys2Proof.Machine.execVslided d a k m z s
  | .vmv d a m z => Sys2Proof.Machine.execVmv d a m z s
  | .vsplat d a m z => Sys2Proof.Machine.execVsplat d a m z s
  | .vins d a k m z => Sys2Proof.Machine.execVins d a k m z s
  | .vext d a k => Sys2Proof.Machine.execVext d a k s
  | .vmsk d a => Sys2Proof.Machine.execVmsk d a s
  | .mshape m s1 => Sys2Proof.Machine.execMshape m s1 s
  | .mzero c => Sys2Proof.Machine.execMzero c s
  | .manch c s1 => Sys2Proof.Machine.execManch c s1 s
  | .mflags c s1 => Sys2Proof.Machine.execMflags c s1 s
  | .mld m s1 => Sys2Proof.Machine.execMld m s1 s
  | .mldT m s1 => Sys2Proof.Machine.execMldT m s1 s
  | .mst m s1 => Sys2Proof.Machine.execMst m s1 s
  | .mlds m s1 => Sys2Proof.Machine.execMlds m s1 s
  | .mldx m s1 => Sys2Proof.Machine.execMldx m s1 s
  | .mma c a b => Sys2Proof.Machine.execMma c a b s
  | .mmaS c a b => Sys2Proof.Machine.execMmaS c a b s
  | .mmaQ c a b => Sys2Proof.Machine.execMmaQ c a b s
  | .madda c s1 => Sys2Proof.Machine.execMadda c s1 s
  | .mdrain c s1 f => Sys2Proof.Machine.execMdrain c s1 f s
  | .mdrainM c s1 f => Sys2Proof.Machine.execMdrainM c s1 f s
  | .mread c s1 => Sys2Proof.Machine.execMread c s1 s
  | .sgo a => Sys2Proof.Machine.execSgo a s
  | .sstop a => Sys2Proof.Machine.execSstop a s
  | .sstat d a => Sys2Proof.Machine.execSstat d a s
  | .sbar a => Sys2Proof.Machine.execSbar a s
  | .creq a => Sys2Proof.Machine.execCreq a s
  | .waitmsg => Sys2Proof.Machine.execWaitmsg s
  | .msgtake d => Sys2Proof.Machine.execMsgtake d s
  | .msgcnt d => Sys2Proof.Machine.execMsgcnt d s
  | .msgdrop => Sys2Proof.Machine.execMsgdrop s
  | .scfg d a role kind f i1 => Sys2Proof.Machine.execScfg d a role kind f i1 s
  | .sdim d a l i1 => Sys2Proof.Machine.execSdim d a l i1 s
  | .copy d a b i1 => Sys2Proof.Machine.execCopy d a b i1 s
  | .send d a tag i1 => Sys2Proof.Machine.execSend d a tag i1 s
  | .aadd d a s1 i1 => Sys2Proof.Machine.execAadd d a s1 i1 s
  | .aand d a s1 i1 => Sys2Proof.Machine.execAand d a s1 i1 s
  | .aor d a s1 i1 => Sys2Proof.Machine.execAor d a s1 i1 s
  | .axor d a s1 i1 => Sys2Proof.Machine.execAxor d a s1 i1 s
  | .amin d a n s1 i1 => Sys2Proof.Machine.execAmin d a n s1 i1 s
  | .amax d a n s1 i1 => Sys2Proof.Machine.execAmax d a n s1 i1 s
  | .aswap d a s1 i1 => Sys2Proof.Machine.execAswap d a s1 i1 s
  | .acas d a b s1 i1 => Sys2Proof.Machine.execAcas d a b s1 i1 s
  | .axadd d a b i1 => Sys2Proof.Machine.execAxadd d a b i1 s
  | .awatch d a b n s1 i1 => Sys2Proof.Machine.execAwatch d a b n s1 i1 s
  | .seminc a b => Sys2Proof.Machine.execSeminc a b s
  | .semdec a b => Sys2Proof.Machine.execSemdec a b s
  | .semwait a b => Sys2Proof.Machine.execSemwait a b s
  | .semrd d b => Sys2Proof.Machine.execSemrd d b s
  | .semset a b => Sys2Proof.Machine.execSemset a b s
  | .fenceCore => Sys2Proof.Machine.execFenceCore s
  | .fenceXpath => Sys2Proof.Machine.execFenceXpath s
  | .fenceStr a => Sys2Proof.Machine.execFenceStr a s
  | .fenceLvl l => Sys2Proof.Machine.execFenceLvl l s
  | .binit a b => Sys2Proof.Machine.execBinit a b s
  | .arrive d a b => Sys2Proof.Machine.execArrive d a b s
  | .arrivedrop d a b => Sys2Proof.Machine.execArrivedrop d a b s
  | .bwait a b => Sys2Proof.Machine.execBwait a b s
  | .btest d a b => Sys2Proof.Machine.execBtest d a b s
  | .bret a => Sys2Proof.Machine.execBret a s
  | .bexp a b => Sys2Proof.Machine.execBexp a b s
  | .cwLcWrite level a => Sys2Proof.Machine.execCwLcWrite level a s
  | .cwFflagsWrite a => Sys2Proof.Machine.execCwFflagsWrite a s
  | .cwRoundWrite a => Sys2Proof.Machine.execCwRoundWrite a s
  | .cwMctlWrite a => Sys2Proof.Machine.execCwMctlWrite a s
  | .firingStart t => Sys2Proof.Machine.execFiringStart t s
  | .commitPoint t => Sys2Proof.Machine.execCommitPoint t s
  | .budgetExceeded t => Sys2Proof.Machine.execBudgetExceeded t s
  | .firingRetry t => Sys2Proof.Machine.execFiringRetry t s
  | .instructionWaitEnd t => Sys2Proof.Machine.execInstructionWaitEnd t s
  | .tokenLanding src dst => Sys2Proof.Machine.execTokenLanding src dst s
  | .recordFetch t => Sys2Proof.Machine.execRecordFetch t s
  | .tileWake t => Sys2Proof.Machine.execTileWake t s
  | .tileGating t power => Sys2Proof.Machine.execTileGating t power s
  | .slotReturn src dst => Sys2Proof.Machine.execSlotReturn src dst s
  | .activeMessageLanding src dst => Sys2Proof.Machine.execActiveMessageLanding src dst s
  | .permitReturn src dst => Sys2Proof.Machine.execPermitReturn src dst s
  | .loopClose src dst => Sys2Proof.Machine.execLoopClose src dst s
  | .closeReply src dst => Sys2Proof.Machine.execCloseReply src dst s
  | .loopDiscard t slot => Sys2Proof.Machine.execLoopDiscard t slot s
  | .scopeComplete sw sc => Sys2Proof.Machine.execScopeComplete sw sc s
  | .scopeAborted sw sc => Sys2Proof.Machine.execScopeAborted sw sc s
  | .castOnSegment sw t => Sys2Proof.Machine.execCastOnSegment sw t s
  | .followHoldRelease sw t => Sys2Proof.Machine.execFollowHoldRelease sw t s
  | .configurationComplete sw => Sys2Proof.Machine.execConfigurationComplete sw s
  | .knotIntervalExpiry t => Sys2Proof.Machine.execKnotIntervalExpiry t s
  | .knotProbe i1 => Sys2Proof.Machine.execKnotProbe i1 s
  | .starvedCycleProbe i1 => Sys2Proof.Machine.execStarvedCycleProbe i1 s
  | .knotReport i1 => Sys2Proof.Machine.execKnotReport i1 s
  | .starvedCycleReport i1 => Sys2Proof.Machine.execStarvedCycleReport i1 s
  | .rebalancerMove t slot t2 slot2 => Sys2Proof.Machine.execRebalancerMove t slot t2 slot2 s
  | .rebindHold m sender => Sys2Proof.Machine.execRebindHold m sender s
  | .holdAcknowledgement m sender => Sys2Proof.Machine.execHoldAcknowledgement m sender s
  | .remapEntryChange t dir entry => Sys2Proof.Machine.execRemapEntryChange t dir entry s
  | .flitCrcError link => Sys2Proof.Machine.execFlitCrcError link s
  | .laneDiagnosis link failing => Sys2Proof.Machine.execLaneDiagnosis link failing s
  | .pathDown t dir alt => Sys2Proof.Machine.execPathDown t dir alt s
  | .gaugeRefresh t dir entry => Sys2Proof.Machine.execGaugeRefresh t dir entry s
  | .fieldOffsetMeasurement f dir offset unc drift => Sys2Proof.Machine.execFieldOffsetMeasurement f dir offset unc drift s
  | .eventDeadline t => Sys2Proof.Machine.execEventDeadline t s
  | .scrub t addr => Sys2Proof.Machine.execScrub t addr s
  | .parityDelta t => Sys2Proof.Machine.execParityDelta t s
  | .darning t spare => Sys2Proof.Machine.execDarning t spare s
  | .tileRetirement t spare => Sys2Proof.Machine.execTileRetirement t spare s
  | .regulatorPhaseLoss phys keepAlive => Sys2Proof.Machine.execRegulatorPhaseLoss phys keepAlive s
  | .streamElement t k => Sys2Proof.Machine.execStreamElement t k s
  | .translationProbe i1 => Sys2Proof.Machine.execTranslationProbe i1 s
  | .pageWalk i1 => Sys2Proof.Machine.execPageWalk i1 s
  | .probeReply i1 => Sys2Proof.Machine.execProbeReply i1 s
  | .faultNotice i1 => Sys2Proof.Machine.execFaultNotice i1 s
  | .memoryRequest i1 => Sys2Proof.Machine.execMemoryRequest i1 s
  | .memoryReply i1 => Sys2Proof.Machine.execMemoryReply i1 s
  | .watchRegister i1 => Sys2Proof.Machine.execWatchRegister i1 s
  | .streamStopBoundary t k => Sys2Proof.Machine.execStreamStopBoundary t k s
  | .copyRequestToken t slot port => Sys2Proof.Machine.execCopyRequestToken t slot port s
  | .completionMessage t key => Sys2Proof.Machine.execCompletionMessage t key s
  | .hostSink src => Sys2Proof.Machine.execHostSink src s
  | .remoteArrival src dst => Sys2Proof.Machine.execRemoteArrival src dst s
  | .matrixStart t pipe => Sys2Proof.Machine.execMatrixStart t pipe s
  | .matrixComplete t pipe => Sys2Proof.Machine.execMatrixComplete t pipe s
  | .arrayIdle t => Sys2Proof.Machine.execArrayIdle t s
  | .activityGrant f => Sys2Proof.Machine.execActivityGrant f s
  | .rampEnd t => Sys2Proof.Machine.execRampEnd t s
  | .swatchStopped sw => Sys2Proof.Machine.execSwatchStopped sw s
  | .preemptSave sw => Sys2Proof.Machine.execPreemptSave sw s
  | .bindOffRelease sw => Sys2Proof.Machine.execBindOffRelease sw s
  | .homeListRebuild station n => Sys2Proof.Machine.execHomeListRebuild station n s
  | .powerFailTrap => Sys2Proof.Machine.execPowerFailTrap s
  | .flashDrain => Sys2Proof.Machine.execFlashDrain s
  | .gridSignal k => Sys2Proof.Machine.execGridSignal k s
  | .powerWindow exceeds => Sys2Proof.Machine.execPowerWindow exceeds s
  | .coldStart => Sys2Proof.Machine.execColdStart s
  | .warmStart => Sys2Proof.Machine.execWarmStart s
  | .ownerSilence => Sys2Proof.Machine.execOwnerSilence s
  | .peerLinkDown i1 => Sys2Proof.Machine.execPeerLinkDown i1 s
  | .launch h va => Sys2Proof.Machine.execLaunch h va s
  | .sealScope h sw sc => Sys2Proof.Machine.execSealScope h sw sc s
  | .abortScope h sw sc => Sys2Proof.Machine.execAbortScope h sw sc s
  | .releaseScope h sw sc => Sys2Proof.Machine.execReleaseScope h sw sc s
  | .waitscope h sw sc => Sys2Proof.Machine.execWaitscope h sw sc s
  | .preempt h sw va urgent => Sys2Proof.Machine.execPreempt h sw va urgent s
  | .stopanswer h sw ans => Sys2Proof.Machine.execStopanswer h sw ans s
  | .bindoff h sw => Sys2Proof.Machine.execBindoff h sw s
  | .reknit h va => Sys2Proof.Machine.execReknit h va s
  | .faultanswer h id resume => Sys2Proof.Machine.execFaultanswer h id resume s
  | .readnodes h sw dx dy slot va => Sys2Proof.Machine.execReadnodes h sw dx dy slot va s
  | .readlog h logical x y va => Sys2Proof.Machine.execReadlog h logical x y va s
  | .sempost h sw dx dy slot k value => Sys2Proof.Machine.execSempost h sw dx dy slot k value s
  | .xlateinv h tag all lo hi => Sys2Proof.Machine.execXlateinv h tag all lo hi s
  | .setctx h pa => Sys2Proof.Machine.execSetctx h pa s
  | .powerstep h k => Sys2Proof.Machine.execPowerstep h k s
  | .debugCmd h t op => Sys2Proof.Machine.execDebugCmd h t op s
  | .attest h nonce va => Sys2Proof.Machine.execAttest h nonce va s
  | .handover h adapter => Sys2Proof.Machine.execHandover h adapter s
  | .guilt h tag limit => Sys2Proof.Machine.execGuilt h tag limit s
  | .bindpeer h sw edge peer peerEdge => Sys2Proof.Machine.execBindpeer h sw edge peer peerEdge s
  | .persist h lo len => Sys2Proof.Machine.execPersist h lo len s
  | .status h va => Sys2Proof.Machine.execStatus h va s
  | .token h sw edge mark words => Sys2Proof.Machine.execToken h sw edge mark words s
  | .qcreate h adapter q sub comp n tag => Sys2Proof.Machine.execQcreate h adapter q sub comp n tag s
  | .qdelete h adapter q => Sys2Proof.Machine.execQdelete h adapter q s
  | .illegalInstruction => Sys2Proof.Machine.execIllegalInstruction s
  | .malformedPacket h => Sys2Proof.Machine.execMalformedPacket h s
  | .copyWord t id => Sys2Proof.Machine.execCopyWord t id s
  | .powerFailDeadline => Sys2Proof.Machine.execPowerFailDeadline s
  | .firmwareImage img => Sys2Proof.Machine.execFirmwareImage img s

end Sys2Proof.Machine
end

