-- ==== Sys2Proof/Decode.lean ====
section
/-! DEFINITION. Decoding the words of the tile core, total on any words, and the encoder written from the same tables (R33 to R57).
The checks come in the order of R39: the major, the func, the reserved bits, the restricted fields. Check 5, the variant, belongs to the
meanings, since it depends on the part. -/

namespace Sys2Proof

/-- The field of n bits whose lowest bit is bit lo. -/
def field (w lo n : Nat) : Nat := w / 2 ^ lo % 2 ^ n

/-- Why a word is no instruction; every reason raises fault 0x01 (R39). -/
inductive DecodeError where
  /-- Check 1: the major is not assigned. -/
  | badMajor
  /-- Check 2: a func, code or sub-field value is not assigned. -/
  | badFunc
  /-- Check 3: a reserved field is not zero. -/
  | reservedBits
  /-- Check 4: a restricted field is out of its range. -/
  | badOperand
  /-- Fewer bytes than the instruction has; only a list of bytes can end so, never a fetch. -/
  | truncated
  deriving DecidableEq, Repr

/-- Checks 3 and 4 of R39, in that order. -/
def checked (reservedOk rangeOk : Bool) (i : Instr) : Except DecodeError Instr :=
  if reservedOk then (if rangeOk then .ok i else .error .badOperand) else .error .reservedBits

def FpType.ofCode : Nat → Option FpType
  | 0 => some .f32 | 1 => some .f16 | 2 => some .bf16 | _ => none

def IntWidth.ofCode : Nat → Option IntWidth
  | 0 => some .w32 | 1 => some .w16 | 2 => some .w8 | _ => none

def CmpType.ofCode : Nat → Option CmpType
  | 0 => some .f32 | 1 => some .i32 | 2 => some .n32 | _ => none

def ElemFmt.ofCode : Nat → ElemFmt
  | 0 => .f32 | 1 => .f16 | 2 => .bf16 | 3 => .e4m3 | 4 => .e5m2 | 5 => .e3m2 | 6 => .e2m3 | 7 => .e2m1
  | 8 => .i8 | 9 => .i16 | 10 => .i32 | 11 => .i64 | 12 => .n8 | 13 => .n16 | 14 => .n32 | _ => .n64

def AtomSize.ofCode : Nat → Option AtomSize
  | 2 => some .w32 | 3 => some .w64 | _ => none

def EpRole.ofCode : Nat → Option EpRole
  | 0 => some .src | 1 => some .dst | _ => none

def EpKind.ofCode : Nat → Option EpKind
  | 0 => some .sram | 1 => some .dram | 2 => some .port | _ => none

/-- A sub-field value that is not assigned fails check 2 (R39). -/
def withType {α : Type} (t : Option α) (k : α → Except DecodeError Instr) : Except DecodeError Instr :=
  match t with
  | some x => k x
  | none => .error .badFunc

/-- Major 0x00 (R41). -/
def decodeSys (w : Nat) : Except DecodeError Instr :=
  match field w 0 4 with
  | 1 => checked (field w 16 10 == 0) (true) (.trap (field w 4 12))
  | 2 => checked (field w 4 22 == 0) (true) .tret
  | 3 => checked (field w 16 10 == 0) (true) (.brk (field w 4 12))
  | 4 => if cwAssigned (field w 4 12) then checked (field w 16 5 == 0) true (.cwr (field w 21 5) (field w 4 12)) else .error .badFunc
  | 5 => if cwAssigned (field w 4 12) then checked (field w 21 5 == 0) true (.cww (field w 16 5) (field w 4 12)) else .error .badFunc
  | 6 => checked (field w 4 12 == 0) (true) (.waitev (field w 21 5) (field w 16 5))
  | 7 => checked (field w 4 17 == 0) (true) (.rdcyc (field w 21 5))
  | 8 => checked (field w 4 22 == 0) (true) .haltq
  | _ => .error .badFunc

/-- Major 0x01 (R42). -/
def decodeSop (w : Nat) : Except DecodeError Instr :=
  match field w 0 11 with
  | 0 => .ok (.add (field w 21 5) (field w 16 5) (field w 11 5))
  | 1 => .ok (.sub (field w 21 5) (field w 16 5) (field w 11 5))
  | 2 => .ok (.and (field w 21 5) (field w 16 5) (field w 11 5))
  | 3 => .ok (.or (field w 21 5) (field w 16 5) (field w 11 5))
  | 4 => .ok (.xor (field w 21 5) (field w 16 5) (field w 11 5))
  | 5 => .ok (.andn (field w 21 5) (field w 16 5) (field w 11 5))
  | 6 => .ok (.orn (field w 21 5) (field w 16 5) (field w 11 5))
  | 7 => .ok (.xnor (field w 21 5) (field w 16 5) (field w 11 5))
  | 8 => .ok (.sll (field w 21 5) (field w 16 5) (field w 11 5))
  | 9 => .ok (.srl (field w 21 5) (field w 16 5) (field w 11 5))
  | 10 => .ok (.sra (field w 21 5) (field w 16 5) (field w 11 5))
  | 11 => .ok (.rol (field w 21 5) (field w 16 5) (field w 11 5))
  | 12 => .ok (.ror (field w 21 5) (field w 16 5) (field w 11 5))
  | 16 => .ok (.slt (field w 21 5) (field w 16 5) (field w 11 5))
  | 17 => .ok (.sltn (field w 21 5) (field w 16 5) (field w 11 5))
  | 18 => .ok (.min (field w 21 5) (field w 16 5) (field w 11 5))
  | 19 => .ok (.max (field w 21 5) (field w 16 5) (field w 11 5))
  | 20 => .ok (.minn (field w 21 5) (field w 16 5) (field w 11 5))
  | 21 => .ok (.maxn (field w 21 5) (field w 16 5) (field w 11 5))
  | 24 => .ok (.addw (field w 21 5) (field w 16 5) (field w 11 5))
  | 25 => .ok (.subw (field w 21 5) (field w 16 5) (field w 11 5))
  | 32 => .ok (.mul (field w 21 5) (field w 16 5) (field w 11 5))
  | 33 => .ok (.mulh (field w 21 5) (field w 16 5) (field w 11 5))
  | 34 => .ok (.mulhn (field w 21 5) (field w 16 5) (field w 11 5))
  | 36 => .ok (.div (field w 21 5) (field w 16 5) (field w 11 5))
  | 37 => .ok (.divn (field w 21 5) (field w 16 5) (field w 11 5))
  | 38 => .ok (.rem (field w 21 5) (field w 16 5) (field w 11 5))
  | 39 => .ok (.remn (field w 21 5) (field w 16 5) (field w 11 5))
  | 48 => checked (field w 11 5 == 0) (true) (.clz (field w 21 5) (field w 16 5))
  | 49 => checked (field w 11 5 == 0) (true) (.ctz (field w 21 5) (field w 16 5))
  | 50 => checked (field w 11 5 == 0) (true) (.popc (field w 21 5) (field w 16 5))
  | 51 => checked (field w 11 5 == 0) (true) (.bswap (field w 21 5) (field w 16 5))
  | 52 => checked (field w 11 5 == 0) (true) (.sextI8 (field w 21 5) (field w 16 5))
  | 53 => checked (field w 11 5 == 0) (true) (.sextI16 (field w 21 5) (field w 16 5))
  | 54 => checked (field w 11 5 == 0) (true) (.sextI32 (field w 21 5) (field w 16 5))
  | 56 => checked (field w 11 5 == 0) (true) (.zextN8 (field w 21 5) (field w 16 5))
  | 57 => checked (field w 11 5 == 0) (true) (.zextN16 (field w 21 5) (field w 16 5))
  | 58 => checked (field w 11 5 == 0) (true) (.zextN32 (field w 21 5) (field w 16 5))
  | _ => .error .badFunc

/-- Major 0x09 (R43). -/
def decodeShi (w : Nat) : Except DecodeError Instr :=
  match field w 12 4 with
  | 0 => checked (field w 6 6 == 0) (true) (.slli (field w 21 5) (field w 16 5) (field w 0 6))
  | 1 => checked (field w 6 6 == 0) (true) (.srli (field w 21 5) (field w 16 5) (field w 0 6))
  | 2 => checked (field w 6 6 == 0) (true) (.srai (field w 21 5) (field w 16 5) (field w 0 6))
  | 3 => checked (field w 6 6 == 0) (true) (.rori (field w 21 5) (field w 16 5) (field w 0 6))
  | _ => .error .badFunc

/-- Major 0x0a (R43). -/
def decodeBiti (w : Nat) : Except DecodeError Instr :=
  match field w 14 2 with
  | 0 => checked (field w 12 2 == 0) (decide (field w 6 6 + field w 0 6 < 64)) (.extr (field w 21 5) (field w 16 5) (field w 6 6) (field w 0 6))
  | 1 => checked (field w 12 2 == 0) (decide (field w 6 6 + field w 0 6 < 64)) (.insr (field w 21 5) (field w 16 5) (field w 6 6) (field w 0 6))
  | 2 => checked (field w 0 6 == 0) (true) (.addsh (field w 21 5) (field w 16 5) (field w 11 3) (field w 6 5))
  | _ => .error .badFunc

/-- Major 0x15 (R45). -/
def decodeLds (w : Nat) : Except DecodeError Instr :=
  match field w 13 3 with
  | 0 => .ok (.ldsB (field w 21 5) (field w 16 5) (field w 0 13))
  | 1 => .ok (.ldsBn (field w 21 5) (field w 16 5) (field w 0 13))
  | 2 => .ok (.ldsH (field w 21 5) (field w 16 5) (field w 0 13))
  | 3 => .ok (.ldsHn (field w 21 5) (field w 16 5) (field w 0 13))
  | 4 => .ok (.ldsW (field w 21 5) (field w 16 5) (field w 0 13))
  | 5 => .ok (.ldsWn (field w 21 5) (field w 16 5) (field w 0 13))
  | 6 => .ok (.ldsD (field w 21 5) (field w 16 5) (field w 0 13))
  | _ => .error .badFunc

/-- Major 0x16 (R45). -/
def decodeSts (w : Nat) : Except DecodeError Instr :=
  match field w 13 3 with
  | 0 => .ok (.stsB (field w 21 5) (field w 16 5) (field w 0 13))
  | 2 => .ok (.stsH (field w 21 5) (field w 16 5) (field w 0 13))
  | 4 => .ok (.stsW (field w 21 5) (field w 16 5) (field w 0 13))
  | 6 => .ok (.stsD (field w 21 5) (field w 16 5) (field w 0 13))
  | _ => .error .badFunc

/-- Major 0x17 (R45). -/
def decodeVld (w : Nat) : Except DecodeError Instr :=
  match field w 13 3 with
  | 0 => .ok (.vld (field w 21 5) (field w 16 5) (field w 0 13))
  | 1 => .ok (.vlds (field w 21 5) (field w 16 5) (field w 0 13))
  | 2 => .ok (.vldz (field w 21 5) (field w 16 5) (field w 0 13))
  | 3 => .ok (.vldb (field w 21 5) (field w 16 5) (field w 0 13))
  | 4 => checked (field w 2 2 == 0) ((field w 4 1 == 0 || !(field w 5 3 == 0))) (.vldx (field w 21 5) (field w 16 5) (field w 8 5) (field w 5 3) (field w 4 1 == 1) (field w 0 2))
  | _ => .error .badFunc

/-- Major 0x18 (R45). -/
def decodeVst (w : Nat) : Except DecodeError Instr :=
  match field w 13 3 with
  | 0 => .ok (.vst (field w 21 5) (field w 16 5) (field w 0 13))
  | 1 => .ok (.vsts (field w 21 5) (field w 16 5) (field w 0 13))
  | 2 => .ok (.vstz (field w 21 5) (field w 16 5) (field w 0 13))
  | 4 => checked (field w 2 3 == 0) (true) (.vstx (field w 21 5) (field w 16 5) (field w 8 5) (field w 5 3) (field w 0 2))
  | _ => .error .badFunc

/-- Major 0x1a (R46). -/
def decodePort (w : Nat) : Except DecodeError Instr :=
  match field w 0 11 with
  | 0 => checked (field w 16 5 == 0) (decide (field w 11 5 < 8)) (.pcnt (field w 21 5) (field w 11 5))
  | 1 => checked (field w 16 5 == 0) (decide (field w 11 5 < 8)) (.pfree (field w 21 5) (field w 11 5))
  | 2 => checked (true) (decide (field w 11 5 < 8)) (.peek (field w 21 5) (field w 16 5) (field w 11 5))
  | 3 => checked (field w 21 5 == 0) (decide (field w 11 5 < 8)) (.pskip (field w 16 5) (field w 11 5))
  | 4 => checked (field w 16 5 == 0) (decide (field w 11 5 < 8)) (.vtake (field w 21 5) (field w 11 5))
  | 5 => checked (field w 21 5 == 0) (decide (field w 11 5 < 8)) (.vput (field w 16 5) (field w 11 5))
  | 6 => checked (field w 16 5 == 0) (decide (field w 11 5 < 8)) (.pscale (field w 21 5) (field w 11 5))
  | 7 => checked (field w 21 5 == 0) (decide (field w 11 5 < 8)) (.pscalew (field w 16 5) (field w 11 5))
  | 8 => checked (field w 16 10 == 0) (decide (field w 11 5 < 8)) (.pmark (field w 11 5))
  | 9 => checked (field w 16 5 == 0) (decide (field w 11 5 < 8)) (.pismark (field w 21 5) (field w 11 5))
  | 10 => checked (field w 16 5 == 0) (decide (field w 11 5 < 4)) (.gauge (field w 21 5) (field w 11 5))
  | 11 => checked (field w 16 5 == 0) (decide (field w 11 5 < 4)) (.nptr (field w 21 5) (field w 11 5))
  | 12 => checked (field w 11 10 == 0) (true) (.fctr (field w 21 5))
  | _ => .error .badFunc

/-- Major 0x1b (R47). -/
def decodeFire (w : Nat) : Except DecodeError Instr :=
  match field w 0 11 with
  | 0 => checked (field w 11 15 == 0) (true) .endF
  | 1 => checked (field w 11 15 == 0) (true) .voidf
  | 2 => checked (field w 11 15 == 0) (true) .aborts
  | 3 => checked (field w 11 5 == 0) (true) (.jstW (field w 21 5) (field w 16 5))
  | 4 => checked (field w 11 5 == 0) (true) (.jstD (field w 21 5) (field w 16 5))
  | 5 => checked (field w 16 5 == 0) (decide (field w 11 5 < 8)) (.taken (field w 21 5) (field w 11 5))
  | 6 => checked (field w 16 5 == 0) (decide (field w 11 5 < 8)) (.made (field w 21 5) (field w 11 5))
  | 7 => checked (field w 11 5 == 0) (true) (.scope (field w 21 5) (field w 16 5))
  | 8 => checked (field w 11 5 == 0 && field w 21 5 == 0) (true) (.seal (field w 16 5))
  | 9 => checked (field w 11 10 == 0) (true) (.ordinal (field w 21 5))
  | _ => .error .badFunc

/-- Major 0x20 (R48). -/
def decodeVfp (w : Nat) : Except DecodeError Instr :=
  match field w 0 5 with
  | 0 => withType (FpType.ofCode (field w 5 2)) fun ty => checked (true) ((field w 7 1 == 0 || !(field w 8 3 == 0))) (.vfadd (field w 21 5) (field w 16 5) (field w 11 5) (field w 8 3) (field w 7 1 == 1) ty)
  | 1 => withType (FpType.ofCode (field w 5 2)) fun ty => checked (true) ((field w 7 1 == 0 || !(field w 8 3 == 0))) (.vfsub (field w 21 5) (field w 16 5) (field w 11 5) (field w 8 3) (field w 7 1 == 1) ty)
  | 2 => withType (FpType.ofCode (field w 5 2)) fun ty => checked (true) ((field w 7 1 == 0 || !(field w 8 3 == 0))) (.vfmul (field w 21 5) (field w 16 5) (field w 11 5) (field w 8 3) (field w 7 1 == 1) ty)
  | 3 => withType (FpType.ofCode (field w 5 2)) fun ty => checked (true) ((field w 7 1 == 0 || !(field w 8 3 == 0))) (.vfdiv (field w 21 5) (field w 16 5) (field w 11 5) (field w 8 3) (field w 7 1 == 1) ty)
  | 4 => withType (FpType.ofCode (field w 5 2)) fun ty => checked (field w 11 5 == 0) ((field w 7 1 == 0 || !(field w 8 3 == 0))) (.vfsqrt (field w 21 5) (field w 16 5) (field w 8 3) (field w 7 1 == 1) ty)
  | 5 => withType (FpType.ofCode (field w 5 2)) fun ty => checked (true) ((field w 7 1 == 0 || !(field w 8 3 == 0))) (.vfmin (field w 21 5) (field w 16 5) (field w 11 5) (field w 8 3) (field w 7 1 == 1) ty)
  | 6 => withType (FpType.ofCode (field w 5 2)) fun ty => checked (true) ((field w 7 1 == 0 || !(field w 8 3 == 0))) (.vfmax (field w 21 5) (field w 16 5) (field w 11 5) (field w 8 3) (field w 7 1 == 1) ty)
  | 7 => withType (FpType.ofCode (field w 5 2)) fun ty => checked (field w 11 5 == 0) ((field w 7 1 == 0 || !(field w 8 3 == 0))) (.vfabs (field w 21 5) (field w 16 5) (field w 8 3) (field w 7 1 == 1) ty)
  | 8 => withType (FpType.ofCode (field w 5 2)) fun ty => checked (field w 11 5 == 0) ((field w 7 1 == 0 || !(field w 8 3 == 0))) (.vfneg (field w 21 5) (field w 16 5) (field w 8 3) (field w 7 1 == 1) ty)
  | 9 => withType (FpType.ofCode (field w 5 2)) fun ty => checked (field w 11 5 == 0) ((field w 7 1 == 0 || !(field w 8 3 == 0))) (.vfclass (field w 21 5) (field w 16 5) (field w 8 3) (field w 7 1 == 1) ty)
  | 10 => withType (FpType.ofCode (field w 5 2)) fun ty => checked (true) ((field w 7 1 == 0 || !(field w 8 3 == 0))) (.vfmaVfp (field w 21 5) (field w 16 5) (field w 11 5) (field w 8 3) (field w 7 1 == 1) ty)
  | 11 => withType (FpType.ofCode (field w 5 2)) fun ty => checked (true) ((field w 7 1 == 0 || !(field w 8 3 == 0))) (.vfmsVfp (field w 21 5) (field w 16 5) (field w 11 5) (field w 8 3) (field w 7 1 == 1) ty)
  | 12 => withType (FpType.ofCode (field w 5 2)) fun ty => checked (true) ((field w 7 1 == 0 || !(field w 8 3 == 0))) (.vfnmaVfp (field w 21 5) (field w 16 5) (field w 11 5) (field w 8 3) (field w 7 1 == 1) ty)
  | 13 => withType (FpType.ofCode (field w 5 2)) fun ty => checked (true) ((field w 7 1 == 0 || !(field w 8 3 == 0))) (.vfnmsVfp (field w 21 5) (field w 16 5) (field w 11 5) (field w 8 3) (field w 7 1 == 1) ty)
  | _ => .error .badFunc

/-- Major 0x21 (R49). -/
def decodeVint (w : Nat) : Except DecodeError Instr :=
  match field w 0 5 with
  | 0 => withType (IntWidth.ofCode (field w 5 2)) fun ty => checked (true) ((field w 7 1 == 0 || !(field w 8 3 == 0))) (.vadd (field w 21 5) (field w 16 5) (field w 11 5) (field w 8 3) (field w 7 1 == 1) ty)
  | 1 => withType (IntWidth.ofCode (field w 5 2)) fun ty => checked (true) ((field w 7 1 == 0 || !(field w 8 3 == 0))) (.vsub (field w 21 5) (field w 16 5) (field w 11 5) (field w 8 3) (field w 7 1 == 1) ty)
  | 2 => withType (IntWidth.ofCode (field w 5 2)) fun ty => checked (true) ((field w 7 1 == 0 || !(field w 8 3 == 0))) (.vmul (field w 21 5) (field w 16 5) (field w 11 5) (field w 8 3) (field w 7 1 == 1) ty)
  | 3 => withType (IntWidth.ofCode (field w 5 2)) fun ty => checked (true) ((field w 7 1 == 0 || !(field w 8 3 == 0))) (.vmulhI (field w 21 5) (field w 16 5) (field w 11 5) (field w 8 3) (field w 7 1 == 1) ty)
  | 4 => withType (IntWidth.ofCode (field w 5 2)) fun ty => checked (true) ((field w 7 1 == 0 || !(field w 8 3 == 0))) (.vmulhN (field w 21 5) (field w 16 5) (field w 11 5) (field w 8 3) (field w 7 1 == 1) ty)
  | 5 => withType (IntWidth.ofCode (field w 5 2)) fun ty => checked (true) ((field w 7 1 == 0 || !(field w 8 3 == 0))) (.vand (field w 21 5) (field w 16 5) (field w 11 5) (field w 8 3) (field w 7 1 == 1) ty)
  | 6 => withType (IntWidth.ofCode (field w 5 2)) fun ty => checked (true) ((field w 7 1 == 0 || !(field w 8 3 == 0))) (.vor (field w 21 5) (field w 16 5) (field w 11 5) (field w 8 3) (field w 7 1 == 1) ty)
  | 7 => withType (IntWidth.ofCode (field w 5 2)) fun ty => checked (true) ((field w 7 1 == 0 || !(field w 8 3 == 0))) (.vxor (field w 21 5) (field w 16 5) (field w 11 5) (field w 8 3) (field w 7 1 == 1) ty)
  | 8 => withType (IntWidth.ofCode (field w 5 2)) fun ty => checked (true) ((field w 7 1 == 0 || !(field w 8 3 == 0))) (.vandn (field w 21 5) (field w 16 5) (field w 11 5) (field w 8 3) (field w 7 1 == 1) ty)
  | 9 => withType (IntWidth.ofCode (field w 5 2)) fun ty => checked (true) ((field w 7 1 == 0 || !(field w 8 3 == 0))) (.vsll (field w 21 5) (field w 16 5) (field w 11 5) (field w 8 3) (field w 7 1 == 1) ty)
  | 10 => withType (IntWidth.ofCode (field w 5 2)) fun ty => checked (true) ((field w 7 1 == 0 || !(field w 8 3 == 0))) (.vsrl (field w 21 5) (field w 16 5) (field w 11 5) (field w 8 3) (field w 7 1 == 1) ty)
  | 11 => withType (IntWidth.ofCode (field w 5 2)) fun ty => checked (true) ((field w 7 1 == 0 || !(field w 8 3 == 0))) (.vsra (field w 21 5) (field w 16 5) (field w 11 5) (field w 8 3) (field w 7 1 == 1) ty)
  | 12 => withType (IntWidth.ofCode (field w 5 2)) fun ty => checked (true) ((field w 7 1 == 0 || !(field w 8 3 == 0))) (.vminI (field w 21 5) (field w 16 5) (field w 11 5) (field w 8 3) (field w 7 1 == 1) ty)
  | 13 => withType (IntWidth.ofCode (field w 5 2)) fun ty => checked (true) ((field w 7 1 == 0 || !(field w 8 3 == 0))) (.vminN (field w 21 5) (field w 16 5) (field w 11 5) (field w 8 3) (field w 7 1 == 1) ty)
  | 14 => withType (IntWidth.ofCode (field w 5 2)) fun ty => checked (true) ((field w 7 1 == 0 || !(field w 8 3 == 0))) (.vmaxI (field w 21 5) (field w 16 5) (field w 11 5) (field w 8 3) (field w 7 1 == 1) ty)
  | 15 => withType (IntWidth.ofCode (field w 5 2)) fun ty => checked (true) ((field w 7 1 == 0 || !(field w 8 3 == 0))) (.vmaxN (field w 21 5) (field w 16 5) (field w 11 5) (field w 8 3) (field w 7 1 == 1) ty)
  | 16 => withType (IntWidth.ofCode (field w 5 2)) fun ty => checked (true) ((field w 7 1 == 0 || !(field w 8 3 == 0))) (.vaddsI (field w 21 5) (field w 16 5) (field w 11 5) (field w 8 3) (field w 7 1 == 1) ty)
  | 17 => withType (IntWidth.ofCode (field w 5 2)) fun ty => checked (true) ((field w 7 1 == 0 || !(field w 8 3 == 0))) (.vaddsN (field w 21 5) (field w 16 5) (field w 11 5) (field w 8 3) (field w 7 1 == 1) ty)
  | 18 => withType (IntWidth.ofCode (field w 5 2)) fun ty => checked (true) ((field w 7 1 == 0 || !(field w 8 3 == 0))) (.vsubsI (field w 21 5) (field w 16 5) (field w 11 5) (field w 8 3) (field w 7 1 == 1) ty)
  | 19 => withType (IntWidth.ofCode (field w 5 2)) fun ty => checked (true) ((field w 7 1 == 0 || !(field w 8 3 == 0))) (.vsubsN (field w 21 5) (field w 16 5) (field w 11 5) (field w 8 3) (field w 7 1 == 1) ty)
  | 20 => withType (IntWidth.ofCode (field w 5 2)) fun ty => checked (true) ((field w 7 1 == 0 || !(field w 8 3 == 0))) (.vabsdI (field w 21 5) (field w 16 5) (field w 11 5) (field w 8 3) (field w 7 1 == 1) ty)
  | 21 => withType (IntWidth.ofCode (field w 5 2)) fun ty => checked (true) ((field w 7 1 == 0 || !(field w 8 3 == 0))) (.vabsdN (field w 21 5) (field w 16 5) (field w 11 5) (field w 8 3) (field w 7 1 == 1) ty)
  | 22 => checked (true) (field w 5 2 == 2 && (field w 7 1 == 0 || !(field w 8 3 == 0))) (.vdot4I8 (field w 21 5) (field w 16 5) (field w 11 5) (field w 8 3) (field w 7 1 == 1))
  | 23 => checked (true) (field w 5 2 == 2 && (field w 7 1 == 0 || !(field w 8 3 == 0))) (.vdot4N8 (field w 21 5) (field w 16 5) (field w 11 5) (field w 8 3) (field w 7 1 == 1))
  | _ => .error .badFunc

/-- Major 0x22 (R48). -/
def decodeVfma (w : Nat) : Except DecodeError Instr :=
  match field w 4 2 with
  | 0 => checked (true) ((field w 0 1 == 0 || !(field w 1 3 == 0))) (.vfmaV4 (field w 21 5) (field w 16 5) (field w 11 5) (field w 6 5) (field w 1 3) (field w 0 1 == 1))
  | 1 => checked (true) ((field w 0 1 == 0 || !(field w 1 3 == 0))) (.vfmsV4 (field w 21 5) (field w 16 5) (field w 11 5) (field w 6 5) (field w 1 3) (field w 0 1 == 1))
  | 2 => checked (true) ((field w 0 1 == 0 || !(field w 1 3 == 0))) (.vfnmaV4 (field w 21 5) (field w 16 5) (field w 11 5) (field w 6 5) (field w 1 3) (field w 0 1 == 1))
  | 3 => checked (true) ((field w 0 1 == 0 || !(field w 1 3 == 0))) (.vfnmsV4 (field w 21 5) (field w 16 5) (field w 11 5) (field w 6 5) (field w 1 3) (field w 0 1 == 1))
  | _ => .error .badFunc

/-- Major 0x23 (R50). -/
def decodeVcmp (w : Nat) : Except DecodeError Instr :=
  match field w 0 5 with
  | 0 => withType (CmpType.ofCode (field w 5 2)) fun ty => checked (true) ((field w 7 1 == 0 || !(field w 8 3 == 0))) (.vceq (field w 21 5) (field w 16 5) (field w 11 5) (field w 8 3) (field w 7 1 == 1) ty)
  | 1 => withType (CmpType.ofCode (field w 5 2)) fun ty => checked (true) ((field w 7 1 == 0 || !(field w 8 3 == 0))) (.vcne (field w 21 5) (field w 16 5) (field w 11 5) (field w 8 3) (field w 7 1 == 1) ty)
  | 2 => withType (CmpType.ofCode (field w 5 2)) fun ty => checked (true) ((field w 7 1 == 0 || !(field w 8 3 == 0))) (.vclt (field w 21 5) (field w 16 5) (field w 11 5) (field w 8 3) (field w 7 1 == 1) ty)
  | 3 => withType (CmpType.ofCode (field w 5 2)) fun ty => checked (true) ((field w 7 1 == 0 || !(field w 8 3 == 0))) (.vcle (field w 21 5) (field w 16 5) (field w 11 5) (field w 8 3) (field w 7 1 == 1) ty)
  | 4 => withType (CmpType.ofCode (field w 5 2)) fun ty => checked (true) ((field w 7 1 == 0 || !(field w 8 3 == 0))) (.vcgt (field w 21 5) (field w 16 5) (field w 11 5) (field w 8 3) (field w 7 1 == 1) ty)
  | 5 => withType (CmpType.ofCode (field w 5 2)) fun ty => checked (true) ((field w 7 1 == 0 || !(field w 8 3 == 0))) (.vcge (field w 21 5) (field w 16 5) (field w 11 5) (field w 8 3) (field w 7 1 == 1) ty)
  | 6 => checked (true) (field w 5 2 == 0 && (field w 7 1 == 0 || !(field w 8 3 == 0))) (.vcun (field w 21 5) (field w 16 5) (field w 11 5) (field w 8 3) (field w 7 1 == 1))
  | 8 => checked (true) (field w 5 2 == 0 && field w 7 1 == 0 && !(field w 8 3 == 0)) (.vsel (field w 21 5) (field w 16 5) (field w 11 5) (field w 8 3))
  | _ => .error .badFunc

/-- Major 0x24 (R51). -/
def decodeVcvt (w : Nat) : Except DecodeError Instr :=
  match field w 0 7 with
  | 0 => checked (field w 11 5 == 0) ((field w 7 1 == 0 || !(field w 8 3 == 0))) (.vcvtF32I32 (field w 21 5) (field w 16 5) (field w 8 3) (field w 7 1 == 1))
  | 1 => checked (field w 11 5 == 0) ((field w 7 1 == 0 || !(field w 8 3 == 0))) (.vcvtF32N32 (field w 21 5) (field w 16 5) (field w 8 3) (field w 7 1 == 1))
  | 2 => checked (field w 11 5 == 0) ((field w 7 1 == 0 || !(field w 8 3 == 0))) (.vcvtI32F32 (field w 21 5) (field w 16 5) (field w 8 3) (field w 7 1 == 1))
  | 3 => checked (field w 11 5 == 0) ((field w 7 1 == 0 || !(field w 8 3 == 0))) (.vcvtN32F32 (field w 21 5) (field w 16 5) (field w 8 3) (field w 7 1 == 1))
  | 4 => checked (true) ((field w 7 1 == 0 || !(field w 8 3 == 0))) (.vpkF16 (field w 21 5) (field w 16 5) (field w 11 5) (field w 8 3) (field w 7 1 == 1))
  | 5 => checked (true) ((field w 7 1 == 0 || !(field w 8 3 == 0))) (.vpkBf16 (field w 21 5) (field w 16 5) (field w 11 5) (field w 8 3) (field w 7 1 == 1))
  | 6 => checked (true) (decide (field w 11 5 < 2) && (field w 7 1 == 0 || !(field w 8 3 == 0))) (.vupkF16 (field w 21 5) (field w 16 5) (field w 11 5) (field w 8 3) (field w 7 1 == 1))
  | 7 => checked (true) (decide (field w 11 5 < 2) && (field w 7 1 == 0 || !(field w 8 3 == 0))) (.vupkBf16 (field w 21 5) (field w 16 5) (field w 11 5) (field w 8 3) (field w 7 1 == 1))
  | 16 => checked (true) (decide (field w 11 5 < 4) && (field w 7 1 == 0 || !(field w 8 3 == 0))) (.vpkE4m3 (field w 21 5) (field w 16 5) (field w 11 5) (field w 8 3) (field w 7 1 == 1))
  | 17 => checked (true) (decide (field w 11 5 < 4) && (field w 7 1 == 0 || !(field w 8 3 == 0))) (.vpkE5m2 (field w 21 5) (field w 16 5) (field w 11 5) (field w 8 3) (field w 7 1 == 1))
  | 18 => checked (true) (decide (field w 11 5 < 4) && (field w 7 1 == 0 || !(field w 8 3 == 0))) (.vpkE3m2 (field w 21 5) (field w 16 5) (field w 11 5) (field w 8 3) (field w 7 1 == 1))
  | 19 => checked (true) (decide (field w 11 5 < 4) && (field w 7 1 == 0 || !(field w 8 3 == 0))) (.vpkE2m3 (field w 21 5) (field w 16 5) (field w 11 5) (field w 8 3) (field w 7 1 == 1))
  | 20 => checked (true) (decide (field w 11 5 < 8) && (field w 7 1 == 0 || !(field w 8 3 == 0))) (.vpkE2m1 (field w 21 5) (field w 16 5) (field w 11 5) (field w 8 3) (field w 7 1 == 1))
  | 24 => checked (true) (decide (field w 11 5 < 4) && (field w 7 1 == 0 || !(field w 8 3 == 0))) (.vupkE4m3 (field w 21 5) (field w 16 5) (field w 11 5) (field w 8 3) (field w 7 1 == 1))
  | 25 => checked (true) (decide (field w 11 5 < 4) && (field w 7 1 == 0 || !(field w 8 3 == 0))) (.vupkE5m2 (field w 21 5) (field w 16 5) (field w 11 5) (field w 8 3) (field w 7 1 == 1))
  | 26 => checked (true) (decide (field w 11 5 < 4) && (field w 7 1 == 0 || !(field w 8 3 == 0))) (.vupkE3m2 (field w 21 5) (field w 16 5) (field w 11 5) (field w 8 3) (field w 7 1 == 1))
  | 27 => checked (true) (decide (field w 11 5 < 4) && (field w 7 1 == 0 || !(field w 8 3 == 0))) (.vupkE2m3 (field w 21 5) (field w 16 5) (field w 11 5) (field w 8 3) (field w 7 1 == 1))
  | 28 => checked (true) (decide (field w 11 5 < 8) && (field w 7 1 == 0 || !(field w 8 3 == 0))) (.vupkE2m1 (field w 21 5) (field w 16 5) (field w 11 5) (field w 8 3) (field w 7 1 == 1))
  | _ => .error .badFunc

/-- Major 0x25 (R52). -/
def decodeVred (w : Nat) : Except DecodeError Instr :=
  match field w 0 5 with
  | 0 => withType (CmpType.ofCode (field w 5 2)) fun ty => checked (field w 11 5 == 0) (field w 7 1 == 0) (.vrsum (field w 21 5) (field w 16 5) (field w 8 3) ty)
  | 1 => withType (CmpType.ofCode (field w 5 2)) fun ty => checked (field w 11 5 == 0) (field w 7 1 == 0) (.vrmin (field w 21 5) (field w 16 5) (field w 8 3) ty)
  | 2 => withType (CmpType.ofCode (field w 5 2)) fun ty => checked (field w 11 5 == 0) (field w 7 1 == 0) (.vrmax (field w 21 5) (field w 16 5) (field w 8 3) ty)
  | 3 => withType (CmpType.ofCode (field w 5 2)) fun ty => checked (field w 11 5 == 0) (field w 7 1 == 0 && !(field w 5 2 == 0)) (.vrand (field w 21 5) (field w 16 5) (field w 8 3) ty)
  | 4 => withType (CmpType.ofCode (field w 5 2)) fun ty => checked (field w 11 5 == 0) (field w 7 1 == 0 && !(field w 5 2 == 0)) (.vror (field w 21 5) (field w 16 5) (field w 8 3) ty)
  | 5 => withType (CmpType.ofCode (field w 5 2)) fun ty => checked (field w 11 5 == 0) (field w 7 1 == 0 && !(field w 5 2 == 0)) (.vrxor (field w 21 5) (field w 16 5) (field w 8 3) ty)
  | _ => .error .badFunc

/-- Major 0x26 (R52). -/
def decodeVprm (w : Nat) : Except DecodeError Instr :=
  match field w 0 7 with
  | 0 => checked (true) ((field w 7 1 == 0 || !(field w 8 3 == 0))) (.vperm (field w 21 5) (field w 16 5) (field w 11 5) (field w 8 3) (field w 7 1 == 1))
  | 1 => checked (true) ((field w 7 1 == 0 || !(field w 8 3 == 0))) (.vshuf (field w 21 5) (field w 16 5) (field w 11 5) (field w 8 3) (field w 7 1 == 1))
  | 2 => checked (true) (decide (field w 11 5 < 16) && (field w 7 1 == 0 || !(field w 8 3 == 0))) (.vslideu (field w 21 5) (field w 16 5) (field w 11 5) (field w 8 3) (field w 7 1 == 1))
  | 3 => checked (true) (decide (field w 11 5 < 16) && (field w 7 1 == 0 || !(field w 8 3 == 0))) (.vslided (field w 21 5) (field w 16 5) (field w 11 5) (field w 8 3) (field w 7 1 == 1))
  | _ => .error .badFunc

/-- Major 0x27 (R52). -/
def decodeVmov (w : Nat) : Except DecodeError Instr :=
  match field w 0 7 with
  | 0 => checked (field w 11 5 == 0) ((field w 7 1 == 0 || !(field w 8 3 == 0))) (.vmv (field w 21 5) (field w 16 5) (field w 8 3) (field w 7 1 == 1))
  | 1 => checked (field w 11 5 == 0) ((field w 7 1 == 0 || !(field w 8 3 == 0))) (.vsplat (field w 21 5) (field w 16 5) (field w 8 3) (field w 7 1 == 1))
  | 2 => checked (true) (decide (field w 11 5 < 16) && (field w 7 1 == 0 || !(field w 8 3 == 0))) (.vins (field w 21 5) (field w 16 5) (field w 11 5) (field w 8 3) (field w 7 1 == 1))
  | 3 => checked (field w 7 4 == 0) (decide (field w 11 5 < 16)) (.vext (field w 21 5) (field w 16 5) (field w 11 5))
  | 4 => checked (field w 7 9 == 0) (true) (.vmsk (field w 21 5) (field w 16 5))
  | _ => .error .badFunc

/-- Major 0x2c (R53). -/
def decodeMcfg (w : Nat) : Except DecodeError Instr :=
  match field w 0 13 with
  | 0 => checked (field w 18 3 == 0 && field w 24 2 == 0) (true) (.mshape (field w 21 3) (field w 13 5))
  | 1 => checked (field w 13 11 == 0) (true) (.mzero (field w 24 2))
  | 2 => checked (field w 18 6 == 0) (true) (.manch (field w 24 2) (field w 13 5))
  | 3 => checked (field w 18 6 == 0) (true) (.mflags (field w 24 2) (field w 13 5))
  | _ => .error .badFunc

/-- Major 0x2d (R53). -/
def decodeMmem (w : Nat) : Except DecodeError Instr :=
  match field w 0 13 with
  | 0 => checked (field w 18 3 == 0 && field w 24 2 == 0) (true) (.mld (field w 21 3) (field w 13 5))
  | 1 => checked (field w 18 3 == 0 && field w 24 2 == 0) (true) (.mldT (field w 21 3) (field w 13 5))
  | 2 => checked (field w 18 3 == 0 && field w 24 2 == 0) (true) (.mst (field w 21 3) (field w 13 5))
  | 3 => checked (field w 18 3 == 0 && field w 24 2 == 0) (true) (.mlds (field w 21 3) (field w 13 5))
  | 4 => checked (field w 18 3 == 0 && field w 24 2 == 0) (true) (.mldx (field w 21 3) (field w 13 5))
  | _ => .error .badFunc

/-- Major 0x2e (R53). -/
def decodeMma (w : Nat) : Except DecodeError Instr :=
  match field w 0 13 with
  | 0 => checked (field w 13 5 == 0) (true) (.mma (field w 24 2) (field w 21 3) (field w 18 3))
  | 1 => checked (field w 13 5 == 0) (true) (.mmaS (field w 24 2) (field w 21 3) (field w 18 3))
  | 2 => checked (field w 13 5 == 0) (true) (.mmaQ (field w 24 2) (field w 21 3) (field w 18 3))
  | _ => .error .badFunc

/-- Major 0x2f (R53). -/
def decodeMacc (w : Nat) : Except DecodeError Instr :=
  match field w 0 3 with
  | 0 => checked (field w 3 10 == 0 && field w 15 9 == 0) (true) (.madda (field w 24 2) (field w 13 2))
  | 1 => checked (field w 7 6 == 0 && field w 18 6 == 0) (true) (.mdrain (field w 24 2) (field w 13 5) (.ofCode (field w 3 4)))
  | 2 => checked (field w 7 6 == 0 && field w 18 6 == 0) (true) (.mdrainM (field w 24 2) (field w 13 5) (.ofCode (field w 3 4)))
  | 3 => checked (field w 3 10 == 0 && field w 18 6 == 0) (true) (.mread (field w 24 2) (field w 13 5))
  | _ => .error .badFunc

/-- Major 0x34 (R54). -/
def decodeStrm (w : Nat) : Except DecodeError Instr :=
  match field w 0 11 with
  | 0 => checked (field w 11 5 == 0 && field w 21 5 == 0) (decide (field w 16 5 < 16)) (.sgo (field w 16 5))
  | 1 => checked (field w 11 5 == 0 && field w 21 5 == 0) (decide (field w 16 5 < 16)) (.sstop (field w 16 5))
  | 2 => checked (field w 11 5 == 0) (decide (field w 16 5 < 16)) (.sstat (field w 21 5) (field w 16 5))
  | 3 => checked (field w 11 5 == 0 && field w 21 5 == 0) (true) (.sbar (field w 16 5))
  | 16 => checked (field w 11 5 == 0 && field w 21 5 == 0) (true) (.creq (field w 16 5))
  | 17 => checked (field w 11 15 == 0) (true) .waitmsg
  | 18 => checked (field w 11 10 == 0) (true) (.msgtake (field w 21 5))
  | 19 => checked (field w 11 10 == 0) (true) (.msgcnt (field w 21 5))
  | 20 => checked (field w 11 15 == 0) (true) .msgdrop
  | _ => .error .badFunc

/-- Major 0x35 (R56). -/
def decodeSync (w : Nat) : Except DecodeError Instr :=
  match field w 0 11 with
  | 0 => checked (field w 21 5 == 0) (true) (.seminc (field w 16 5) (field w 11 5))
  | 1 => checked (field w 21 5 == 0) (true) (.semdec (field w 16 5) (field w 11 5))
  | 2 => checked (field w 21 5 == 0) (true) (.semwait (field w 16 5) (field w 11 5))
  | 3 => checked (field w 16 5 == 0) (true) (.semrd (field w 21 5) (field w 11 5))
  | 4 => checked (field w 21 5 == 0) (true) (.semset (field w 16 5) (field w 11 5))
  | 16 => checked (field w 11 15 == 0) (true) .fenceCore
  | 17 => checked (field w 11 15 == 0) (true) .fenceXpath
  | 18 => checked (field w 11 5 == 0 && field w 21 5 == 0) (true) (.fenceStr (field w 16 5))
  | 19 => checked (field w 16 10 == 0) (true) (.fenceLvl (field w 11 5))
  | _ => .error .badFunc

/-- Major 0x36 (R56). -/
def decodeBarr (w : Nat) : Except DecodeError Instr :=
  match field w 0 11 with
  | 0 => checked (field w 21 5 == 0) (true) (.binit (field w 16 5) (field w 11 5))
  | 1 => .ok (.arrive (field w 21 5) (field w 16 5) (field w 11 5))
  | 2 => .ok (.arrivedrop (field w 21 5) (field w 16 5) (field w 11 5))
  | 3 => checked (field w 21 5 == 0) (true) (.bwait (field w 16 5) (field w 11 5))
  | 4 => .ok (.btest (field w 21 5) (field w 16 5) (field w 11 5))
  | 5 => checked (field w 11 5 == 0 && field w 21 5 == 0) (true) (.bret (field w 16 5))
  | 6 => checked (field w 21 5 == 0) (true) (.bexp (field w 16 5) (field w 11 5))
  | _ => .error .badFunc

/-- Major 0x38, SCFG (R55). -/
def decodeScfg (w w1 : Nat) : Except DecodeError Instr :=
  withType (EpRole.ofCode (field w 14 2)) fun role =>
  withType (EpKind.ofCode (field w 12 2)) fun kind =>
  if field w 8 4 == 7 then .error .badFunc
  else checked (field w 0 8 == 0) (decide (field w 21 5 < 16))
    (.scfg (field w 21 5) (field w 16 5) role kind (.ofCode (field w 8 4)) w1)

/-- Major 0x3B, ATOM (R57). -/
def decodeAtom (w w1 : Nat) : Except DecodeError Instr :=
  let d := field w 21 5
  let a := field w 16 5
  let b := field w 11 5
  let n := field w 7 1 == 1
  if field w 4 3 == 4 then
    (if field w 0 4 == 8 then checked (field w 8 3 == 0) (!n) (.axadd d a b w1) else
     if decide (field w 0 4 < 10) then .error .badOperand else .error .badFunc)
  else
    withType (AtomSize.ofCode (field w 4 3)) fun s =>
    match field w 0 4 with
    | 0 => checked (field w 8 3 == 0 && b == 0) (!n) (.aadd d a s w1)
    | 1 => checked (field w 8 3 == 0 && b == 0) (!n) (.aand d a s w1)
    | 2 => checked (field w 8 3 == 0 && b == 0) (!n) (.aor d a s w1)
    | 3 => checked (field w 8 3 == 0 && b == 0) (!n) (.axor d a s w1)
    | 4 => checked (field w 8 3 == 0 && b == 0) true (.amin d a n s w1)
    | 5 => checked (field w 8 3 == 0 && b == 0) true (.amax d a n s w1)
    | 6 => checked (field w 8 3 == 0 && b == 0) (!n) (.aswap d a s w1)
    | 7 => checked (field w 8 3 == 0) (!n) (.acas d a b s w1)
    | 8 => .error .badOperand
    | 9 => checked (field w 8 3 == 0) (decide (b < 4)) (.awatch d a b n s w1)
    | _ => .error .badFunc

/-- Whether the first word alone says the instruction has two words: majors 0x38 to 0x3C (R33). -/
def isLongWord (w0 : Nat) : Bool := decide (0x38 ≤ field w0 26 6) && decide (field w0 26 6 ≤ 0x3C)

/-- The instruction whose first word is w0 and whose second word, where it has one, is w1 (R38). -/
def decodeWords (w0 w1 : Nat) : Except DecodeError Instr :=
  match field w0 26 6 with
  | 0x00 => decodeSys w0
  | 0x01 => decodeSop w0
  | 0x02 => .ok (.addi (field w0 21 5) (field w0 16 5) (field w0 0 16))
  | 0x03 => .ok (.andi (field w0 21 5) (field w0 16 5) (field w0 0 16))
  | 0x04 => .ok (.ori (field w0 21 5) (field w0 16 5) (field w0 0 16))
  | 0x05 => .ok (.xori (field w0 21 5) (field w0 16 5) (field w0 0 16))
  | 0x06 => .ok (.slti (field w0 21 5) (field w0 16 5) (field w0 0 16))
  | 0x07 => .ok (.sltin (field w0 21 5) (field w0 16 5) (field w0 0 16))
  | 0x08 => .ok (.lih (field w0 21 5) (field w0 16 5) (field w0 0 16))
  | 0x09 => decodeShi w0
  | 0x0a => decodeBiti w0
  | 0x0c => .ok (.beq (field w0 21 5) (field w0 16 5) (field w0 0 16))
  | 0x0d => .ok (.bne (field w0 21 5) (field w0 16 5) (field w0 0 16))
  | 0x0e => .ok (.blt (field w0 21 5) (field w0 16 5) (field w0 0 16))
  | 0x0f => .ok (.bge (field w0 21 5) (field w0 16 5) (field w0 0 16))
  | 0x10 => .ok (.bltn (field w0 21 5) (field w0 16 5) (field w0 0 16))
  | 0x11 => .ok (.bgen (field w0 21 5) (field w0 16 5) (field w0 0 16))
  | 0x12 => .ok (.jal (field w0 0 26))
  | 0x13 => .ok (.jalr (field w0 21 5) (field w0 16 5) (field w0 0 16))
  | 0x14 => checked (field w0 21 5 == 0) (!(field w0 0 16 == 0)) (.loop (field w0 16 5) (field w0 0 16))
  | 0x15 => decodeLds w0
  | 0x16 => decodeSts w0
  | 0x17 => decodeVld w0
  | 0x18 => decodeVst w0
  | 0x1a => decodePort w0
  | 0x1b => decodeFire w0
  | 0x20 => decodeVfp w0
  | 0x21 => decodeVint w0
  | 0x22 => decodeVfma w0
  | 0x23 => decodeVcmp w0
  | 0x24 => decodeVcvt w0
  | 0x25 => decodeVred w0
  | 0x26 => decodeVprm w0
  | 0x27 => decodeVmov w0
  | 0x2c => decodeMcfg w0
  | 0x2d => decodeMmem w0
  | 0x2e => decodeMma w0
  | 0x2f => decodeMacc w0
  | 0x34 => decodeStrm w0
  | 0x35 => decodeSync w0
  | 0x36 => decodeBarr w0
  | 0x38 => decodeScfg w0 w1
  | 0x39 => checked (field w0 0 14 == 0) (decide (field w0 21 5 < 16)) (.sdim (field w0 21 5) (field w0 16 5) (field w0 14 2) w1)
  | 0x3a => checked (field w0 0 11 == 0) true (.copy (field w0 21 5) (field w0 16 5) (field w0 11 5) w1)
  | 0x3b => decodeAtom w0 w1
  | 0x3c => .ok (.send (field w0 21 5) (field w0 16 5) (field w0 0 16) w1)
  | _ => .error .badMajor

/-- A first word: fixed bits m, and each field at its lowest bit. -/
def bits (m : Nat) (fs : List (Nat × Nat)) : Nat := fs.foldl (fun w f => w + f.2 * 2 ^ f.1) m

/-- The words of a well-formed instruction; a step that is no instruction word has none (R34, R38). -/
def encode (i : Instr) : List Nat :=
  match i with
  | .trap c => [bits 0x00000001 [(4, c)]]
  | .tret => [bits 0x00000002 []]
  | .brk c => [bits 0x00000003 [(4, c)]]
  | .cwr d c => [bits 0x00000004 [(21, d), (4, c)]]
  | .cww a c => [bits 0x00000005 [(16, a), (4, c)]]
  | .waitev d a => [bits 0x00000006 [(21, d), (16, a)]]
  | .rdcyc d => [bits 0x00000007 [(21, d)]]
  | .haltq => [bits 0x00000008 []]
  | .add d a b => [bits 0x04000000 [(21, d), (16, a), (11, b)]]
  | .sub d a b => [bits 0x04000001 [(21, d), (16, a), (11, b)]]
  | .and d a b => [bits 0x04000002 [(21, d), (16, a), (11, b)]]
  | .or d a b => [bits 0x04000003 [(21, d), (16, a), (11, b)]]
  | .xor d a b => [bits 0x04000004 [(21, d), (16, a), (11, b)]]
  | .andn d a b => [bits 0x04000005 [(21, d), (16, a), (11, b)]]
  | .orn d a b => [bits 0x04000006 [(21, d), (16, a), (11, b)]]
  | .xnor d a b => [bits 0x04000007 [(21, d), (16, a), (11, b)]]
  | .sll d a b => [bits 0x04000008 [(21, d), (16, a), (11, b)]]
  | .srl d a b => [bits 0x04000009 [(21, d), (16, a), (11, b)]]
  | .sra d a b => [bits 0x0400000a [(21, d), (16, a), (11, b)]]
  | .rol d a b => [bits 0x0400000b [(21, d), (16, a), (11, b)]]
  | .ror d a b => [bits 0x0400000c [(21, d), (16, a), (11, b)]]
  | .slt d a b => [bits 0x04000010 [(21, d), (16, a), (11, b)]]
  | .sltn d a b => [bits 0x04000011 [(21, d), (16, a), (11, b)]]
  | .min d a b => [bits 0x04000012 [(21, d), (16, a), (11, b)]]
  | .max d a b => [bits 0x04000013 [(21, d), (16, a), (11, b)]]
  | .minn d a b => [bits 0x04000014 [(21, d), (16, a), (11, b)]]
  | .maxn d a b => [bits 0x04000015 [(21, d), (16, a), (11, b)]]
  | .addw d a b => [bits 0x04000018 [(21, d), (16, a), (11, b)]]
  | .subw d a b => [bits 0x04000019 [(21, d), (16, a), (11, b)]]
  | .mul d a b => [bits 0x04000020 [(21, d), (16, a), (11, b)]]
  | .mulh d a b => [bits 0x04000021 [(21, d), (16, a), (11, b)]]
  | .mulhn d a b => [bits 0x04000022 [(21, d), (16, a), (11, b)]]
  | .div d a b => [bits 0x04000024 [(21, d), (16, a), (11, b)]]
  | .divn d a b => [bits 0x04000025 [(21, d), (16, a), (11, b)]]
  | .rem d a b => [bits 0x04000026 [(21, d), (16, a), (11, b)]]
  | .remn d a b => [bits 0x04000027 [(21, d), (16, a), (11, b)]]
  | .clz d a => [bits 0x04000030 [(21, d), (16, a)]]
  | .ctz d a => [bits 0x04000031 [(21, d), (16, a)]]
  | .popc d a => [bits 0x04000032 [(21, d), (16, a)]]
  | .bswap d a => [bits 0x04000033 [(21, d), (16, a)]]
  | .sextI8 d a => [bits 0x04000034 [(21, d), (16, a)]]
  | .sextI16 d a => [bits 0x04000035 [(21, d), (16, a)]]
  | .sextI32 d a => [bits 0x04000036 [(21, d), (16, a)]]
  | .zextN8 d a => [bits 0x04000038 [(21, d), (16, a)]]
  | .zextN16 d a => [bits 0x04000039 [(21, d), (16, a)]]
  | .zextN32 d a => [bits 0x0400003a [(21, d), (16, a)]]
  | .addi d a i => [bits 0x08000000 [(21, d), (16, a), (0, i)]]
  | .andi d a i => [bits 0x0c000000 [(21, d), (16, a), (0, i)]]
  | .ori d a i => [bits 0x10000000 [(21, d), (16, a), (0, i)]]
  | .xori d a i => [bits 0x14000000 [(21, d), (16, a), (0, i)]]
  | .slti d a i => [bits 0x18000000 [(21, d), (16, a), (0, i)]]
  | .sltin d a i => [bits 0x1c000000 [(21, d), (16, a), (0, i)]]
  | .lih d a i => [bits 0x20000000 [(21, d), (16, a), (0, i)]]
  | .slli d a h => [bits 0x24000000 [(21, d), (16, a), (0, h)]]
  | .srli d a h => [bits 0x24001000 [(21, d), (16, a), (0, h)]]
  | .srai d a h => [bits 0x24002000 [(21, d), (16, a), (0, h)]]
  | .rori d a h => [bits 0x24003000 [(21, d), (16, a), (0, h)]]
  | .extr d a p l => [bits 0x28000000 [(21, d), (16, a), (6, p), (0, l)]]
  | .insr d a p l => [bits 0x28004000 [(21, d), (16, a), (6, p), (0, l)]]
  | .addsh d a h b => [bits 0x28008000 [(21, d), (16, a), (11, h), (6, b)]]
  | .beq a b o => [bits 0x30000000 [(21, a), (16, b), (0, o)]]
  | .bne a b o => [bits 0x34000000 [(21, a), (16, b), (0, o)]]
  | .blt a b o => [bits 0x38000000 [(21, a), (16, b), (0, o)]]
  | .bge a b o => [bits 0x3c000000 [(21, a), (16, b), (0, o)]]
  | .bltn a b o => [bits 0x40000000 [(21, a), (16, b), (0, o)]]
  | .bgen a b o => [bits 0x44000000 [(21, a), (16, b), (0, o)]]
  | .jal o => [bits 0x48000000 [(0, o)]]
  | .jalr d a i => [bits 0x4c000000 [(21, d), (16, a), (0, i)]]
  | .loop a l => [bits 0x50000000 [(16, a), (0, l)]]
  | .ldsB d a o => [bits 0x54000000 [(21, d), (16, a), (0, o)]]
  | .ldsBn d a o => [bits 0x54002000 [(21, d), (16, a), (0, o)]]
  | .ldsH d a o => [bits 0x54004000 [(21, d), (16, a), (0, o)]]
  | .ldsHn d a o => [bits 0x54006000 [(21, d), (16, a), (0, o)]]
  | .ldsW d a o => [bits 0x54008000 [(21, d), (16, a), (0, o)]]
  | .ldsWn d a o => [bits 0x5400a000 [(21, d), (16, a), (0, o)]]
  | .ldsD d a o => [bits 0x5400c000 [(21, d), (16, a), (0, o)]]
  | .stsB d a o => [bits 0x58000000 [(21, d), (16, a), (0, o)]]
  | .stsH d a o => [bits 0x58004000 [(21, d), (16, a), (0, o)]]
  | .stsW d a o => [bits 0x58008000 [(21, d), (16, a), (0, o)]]
  | .stsD d a o => [bits 0x5800c000 [(21, d), (16, a), (0, o)]]
  | .vld d a o => [bits 0x5c000000 [(21, d), (16, a), (0, o)]]
  | .vlds d a o => [bits 0x5c002000 [(21, d), (16, a), (0, o)]]
  | .vldz d a o => [bits 0x5c004000 [(21, d), (16, a), (0, o)]]
  | .vldb d a o => [bits 0x5c006000 [(21, d), (16, a), (0, o)]]
  | .vldx d a b m z h => [bits 0x5c008000 [(21, d), (16, a), (8, b), (5, m), (4, z.toNat), (0, h)]]
  | .vst d a o => [bits 0x60000000 [(21, d), (16, a), (0, o)]]
  | .vsts d a o => [bits 0x60002000 [(21, d), (16, a), (0, o)]]
  | .vstz d a o => [bits 0x60004000 [(21, d), (16, a), (0, o)]]
  | .vstx d a b m h => [bits 0x60008000 [(21, d), (16, a), (8, b), (5, m), (0, h)]]
  | .pcnt d p => [bits 0x68000000 [(21, d), (11, p)]]
  | .pfree d p => [bits 0x68000001 [(21, d), (11, p)]]
  | .peek d a p => [bits 0x68000002 [(21, d), (16, a), (11, p)]]
  | .pskip a p => [bits 0x68000003 [(16, a), (11, p)]]
  | .vtake d p => [bits 0x68000004 [(21, d), (11, p)]]
  | .vput a p => [bits 0x68000005 [(16, a), (11, p)]]
  | .pscale d p => [bits 0x68000006 [(21, d), (11, p)]]
  | .pscalew a p => [bits 0x68000007 [(16, a), (11, p)]]
  | .pmark p => [bits 0x68000008 [(11, p)]]
  | .pismark d p => [bits 0x68000009 [(21, d), (11, p)]]
  | .gauge d r => [bits 0x6800000a [(21, d), (11, r)]]
  | .nptr d r => [bits 0x6800000b [(21, d), (11, r)]]
  | .fctr d => [bits 0x6800000c [(21, d)]]
  | .endF => [bits 0x6c000000 []]
  | .voidf => [bits 0x6c000001 []]
  | .aborts => [bits 0x6c000002 []]
  | .jstW d a => [bits 0x6c000003 [(21, d), (16, a)]]
  | .jstD d a => [bits 0x6c000004 [(21, d), (16, a)]]
  | .taken d p => [bits 0x6c000005 [(21, d), (11, p)]]
  | .made d p => [bits 0x6c000006 [(21, d), (11, p)]]
  | .scope d a => [bits 0x6c000007 [(21, d), (16, a)]]
  | .seal a => [bits 0x6c000008 [(16, a)]]
  | .ordinal d => [bits 0x6c000009 [(21, d)]]
  | .vfadd d a b m z t => [bits 0x80000000 [(21, d), (16, a), (11, b), (8, m), (7, z.toNat), (5, t.code)]]
  | .vfsub d a b m z t => [bits 0x80000001 [(21, d), (16, a), (11, b), (8, m), (7, z.toNat), (5, t.code)]]
  | .vfmul d a b m z t => [bits 0x80000002 [(21, d), (16, a), (11, b), (8, m), (7, z.toNat), (5, t.code)]]
  | .vfdiv d a b m z t => [bits 0x80000003 [(21, d), (16, a), (11, b), (8, m), (7, z.toNat), (5, t.code)]]
  | .vfsqrt d a m z t => [bits 0x80000004 [(21, d), (16, a), (8, m), (7, z.toNat), (5, t.code)]]
  | .vfmin d a b m z t => [bits 0x80000005 [(21, d), (16, a), (11, b), (8, m), (7, z.toNat), (5, t.code)]]
  | .vfmax d a b m z t => [bits 0x80000006 [(21, d), (16, a), (11, b), (8, m), (7, z.toNat), (5, t.code)]]
  | .vfabs d a m z t => [bits 0x80000007 [(21, d), (16, a), (8, m), (7, z.toNat), (5, t.code)]]
  | .vfneg d a m z t => [bits 0x80000008 [(21, d), (16, a), (8, m), (7, z.toNat), (5, t.code)]]
  | .vfclass d a m z t => [bits 0x80000009 [(21, d), (16, a), (8, m), (7, z.toNat), (5, t.code)]]
  | .vfmaVfp d a b m z t => [bits 0x8000000a [(21, d), (16, a), (11, b), (8, m), (7, z.toNat), (5, t.code)]]
  | .vfmsVfp d a b m z t => [bits 0x8000000b [(21, d), (16, a), (11, b), (8, m), (7, z.toNat), (5, t.code)]]
  | .vfnmaVfp d a b m z t => [bits 0x8000000c [(21, d), (16, a), (11, b), (8, m), (7, z.toNat), (5, t.code)]]
  | .vfnmsVfp d a b m z t => [bits 0x8000000d [(21, d), (16, a), (11, b), (8, m), (7, z.toNat), (5, t.code)]]
  | .vfmaV4 d a b c m z => [bits 0x88000000 [(21, d), (16, a), (11, b), (6, c), (1, m), (0, z.toNat)]]
  | .vfmsV4 d a b c m z => [bits 0x88000010 [(21, d), (16, a), (11, b), (6, c), (1, m), (0, z.toNat)]]
  | .vfnmaV4 d a b c m z => [bits 0x88000020 [(21, d), (16, a), (11, b), (6, c), (1, m), (0, z.toNat)]]
  | .vfnmsV4 d a b c m z => [bits 0x88000030 [(21, d), (16, a), (11, b), (6, c), (1, m), (0, z.toNat)]]
  | .vadd d a b m z w => [bits 0x84000000 [(21, d), (16, a), (11, b), (8, m), (7, z.toNat), (5, w.code)]]
  | .vsub d a b m z w => [bits 0x84000001 [(21, d), (16, a), (11, b), (8, m), (7, z.toNat), (5, w.code)]]
  | .vmul d a b m z w => [bits 0x84000002 [(21, d), (16, a), (11, b), (8, m), (7, z.toNat), (5, w.code)]]
  | .vmulhI d a b m z w => [bits 0x84000003 [(21, d), (16, a), (11, b), (8, m), (7, z.toNat), (5, w.code)]]
  | .vmulhN d a b m z w => [bits 0x84000004 [(21, d), (16, a), (11, b), (8, m), (7, z.toNat), (5, w.code)]]
  | .vand d a b m z w => [bits 0x84000005 [(21, d), (16, a), (11, b), (8, m), (7, z.toNat), (5, w.code)]]
  | .vor d a b m z w => [bits 0x84000006 [(21, d), (16, a), (11, b), (8, m), (7, z.toNat), (5, w.code)]]
  | .vxor d a b m z w => [bits 0x84000007 [(21, d), (16, a), (11, b), (8, m), (7, z.toNat), (5, w.code)]]
  | .vandn d a b m z w => [bits 0x84000008 [(21, d), (16, a), (11, b), (8, m), (7, z.toNat), (5, w.code)]]
  | .vsll d a b m z w => [bits 0x84000009 [(21, d), (16, a), (11, b), (8, m), (7, z.toNat), (5, w.code)]]
  | .vsrl d a b m z w => [bits 0x8400000a [(21, d), (16, a), (11, b), (8, m), (7, z.toNat), (5, w.code)]]
  | .vsra d a b m z w => [bits 0x8400000b [(21, d), (16, a), (11, b), (8, m), (7, z.toNat), (5, w.code)]]
  | .vminI d a b m z w => [bits 0x8400000c [(21, d), (16, a), (11, b), (8, m), (7, z.toNat), (5, w.code)]]
  | .vminN d a b m z w => [bits 0x8400000d [(21, d), (16, a), (11, b), (8, m), (7, z.toNat), (5, w.code)]]
  | .vmaxI d a b m z w => [bits 0x8400000e [(21, d), (16, a), (11, b), (8, m), (7, z.toNat), (5, w.code)]]
  | .vmaxN d a b m z w => [bits 0x8400000f [(21, d), (16, a), (11, b), (8, m), (7, z.toNat), (5, w.code)]]
  | .vaddsI d a b m z w => [bits 0x84000010 [(21, d), (16, a), (11, b), (8, m), (7, z.toNat), (5, w.code)]]
  | .vaddsN d a b m z w => [bits 0x84000011 [(21, d), (16, a), (11, b), (8, m), (7, z.toNat), (5, w.code)]]
  | .vsubsI d a b m z w => [bits 0x84000012 [(21, d), (16, a), (11, b), (8, m), (7, z.toNat), (5, w.code)]]
  | .vsubsN d a b m z w => [bits 0x84000013 [(21, d), (16, a), (11, b), (8, m), (7, z.toNat), (5, w.code)]]
  | .vabsdI d a b m z w => [bits 0x84000014 [(21, d), (16, a), (11, b), (8, m), (7, z.toNat), (5, w.code)]]
  | .vabsdN d a b m z w => [bits 0x84000015 [(21, d), (16, a), (11, b), (8, m), (7, z.toNat), (5, w.code)]]
  | .vdot4I8 d a b m z => [bits 0x84000056 [(21, d), (16, a), (11, b), (8, m), (7, z.toNat)]]
  | .vdot4N8 d a b m z => [bits 0x84000057 [(21, d), (16, a), (11, b), (8, m), (7, z.toNat)]]
  | .vceq d a b m z t => [bits 0x8c000000 [(21, d), (16, a), (11, b), (8, m), (7, z.toNat), (5, t.code)]]
  | .vcne d a b m z t => [bits 0x8c000001 [(21, d), (16, a), (11, b), (8, m), (7, z.toNat), (5, t.code)]]
  | .vclt d a b m z t => [bits 0x8c000002 [(21, d), (16, a), (11, b), (8, m), (7, z.toNat), (5, t.code)]]
  | .vcle d a b m z t => [bits 0x8c000003 [(21, d), (16, a), (11, b), (8, m), (7, z.toNat), (5, t.code)]]
  | .vcgt d a b m z t => [bits 0x8c000004 [(21, d), (16, a), (11, b), (8, m), (7, z.toNat), (5, t.code)]]
  | .vcge d a b m z t => [bits 0x8c000005 [(21, d), (16, a), (11, b), (8, m), (7, z.toNat), (5, t.code)]]
  | .vcun d a b m z => [bits 0x8c000006 [(21, d), (16, a), (11, b), (8, m), (7, z.toNat)]]
  | .vsel d a b k => [bits 0x8c000008 [(21, d), (16, a), (11, b), (8, k)]]
  | .vcvtF32I32 d a m z => [bits 0x90000000 [(21, d), (16, a), (8, m), (7, z.toNat)]]
  | .vcvtF32N32 d a m z => [bits 0x90000001 [(21, d), (16, a), (8, m), (7, z.toNat)]]
  | .vcvtI32F32 d a m z => [bits 0x90000002 [(21, d), (16, a), (8, m), (7, z.toNat)]]
  | .vcvtN32F32 d a m z => [bits 0x90000003 [(21, d), (16, a), (8, m), (7, z.toNat)]]
  | .vpkF16 d a b m z => [bits 0x90000004 [(21, d), (16, a), (11, b), (8, m), (7, z.toNat)]]
  | .vpkBf16 d a b m z => [bits 0x90000005 [(21, d), (16, a), (11, b), (8, m), (7, z.toNat)]]
  | .vupkF16 d a q m z => [bits 0x90000006 [(21, d), (16, a), (11, q), (8, m), (7, z.toNat)]]
  | .vupkBf16 d a q m z => [bits 0x90000007 [(21, d), (16, a), (11, q), (8, m), (7, z.toNat)]]
  | .vpkE4m3 d a q m z => [bits 0x90000010 [(21, d), (16, a), (11, q), (8, m), (7, z.toNat)]]
  | .vpkE5m2 d a q m z => [bits 0x90000011 [(21, d), (16, a), (11, q), (8, m), (7, z.toNat)]]
  | .vpkE3m2 d a q m z => [bits 0x90000012 [(21, d), (16, a), (11, q), (8, m), (7, z.toNat)]]
  | .vpkE2m3 d a q m z => [bits 0x90000013 [(21, d), (16, a), (11, q), (8, m), (7, z.toNat)]]
  | .vpkE2m1 d a q m z => [bits 0x90000014 [(21, d), (16, a), (11, q), (8, m), (7, z.toNat)]]
  | .vupkE4m3 d a q m z => [bits 0x90000018 [(21, d), (16, a), (11, q), (8, m), (7, z.toNat)]]
  | .vupkE5m2 d a q m z => [bits 0x90000019 [(21, d), (16, a), (11, q), (8, m), (7, z.toNat)]]
  | .vupkE3m2 d a q m z => [bits 0x9000001a [(21, d), (16, a), (11, q), (8, m), (7, z.toNat)]]
  | .vupkE2m3 d a q m z => [bits 0x9000001b [(21, d), (16, a), (11, q), (8, m), (7, z.toNat)]]
  | .vupkE2m1 d a q m z => [bits 0x9000001c [(21, d), (16, a), (11, q), (8, m), (7, z.toNat)]]
  | .vrsum d a m t => [bits 0x94000000 [(21, d), (16, a), (8, m), (5, t.code)]]
  | .vrmin d a m t => [bits 0x94000001 [(21, d), (16, a), (8, m), (5, t.code)]]
  | .vrmax d a m t => [bits 0x94000002 [(21, d), (16, a), (8, m), (5, t.code)]]
  | .vrand d a m t => [bits 0x94000003 [(21, d), (16, a), (8, m), (5, t.code)]]
  | .vror d a m t => [bits 0x94000004 [(21, d), (16, a), (8, m), (5, t.code)]]
  | .vrxor d a m t => [bits 0x94000005 [(21, d), (16, a), (8, m), (5, t.code)]]
  | .vperm d a b m z => [bits 0x98000000 [(21, d), (16, a), (11, b), (8, m), (7, z.toNat)]]
  | .vshuf d a b m z => [bits 0x98000001 [(21, d), (16, a), (11, b), (8, m), (7, z.toNat)]]
  | .vslideu d a k m z => [bits 0x98000002 [(21, d), (16, a), (11, k), (8, m), (7, z.toNat)]]
  | .vslided d a k m z => [bits 0x98000003 [(21, d), (16, a), (11, k), (8, m), (7, z.toNat)]]
  | .vmv d a m z => [bits 0x9c000000 [(21, d), (16, a), (8, m), (7, z.toNat)]]
  | .vsplat d a m z => [bits 0x9c000001 [(21, d), (16, a), (8, m), (7, z.toNat)]]
  | .vins d a k m z => [bits 0x9c000002 [(21, d), (16, a), (11, k), (8, m), (7, z.toNat)]]
  | .vext d a k => [bits 0x9c000003 [(21, d), (16, a), (11, k)]]
  | .vmsk d a => [bits 0x9c000004 [(21, d), (16, a)]]
  | .mshape m s => [bits 0xb0000000 [(21, m), (13, s)]]
  | .mzero c => [bits 0xb0000001 [(24, c)]]
  | .manch c s => [bits 0xb0000002 [(24, c), (13, s)]]
  | .mflags c s => [bits 0xb0000003 [(24, c), (13, s)]]
  | .mld m s => [bits 0xb4000000 [(21, m), (13, s)]]
  | .mldT m s => [bits 0xb4000001 [(21, m), (13, s)]]
  | .mst m s => [bits 0xb4000002 [(21, m), (13, s)]]
  | .mlds m s => [bits 0xb4000003 [(21, m), (13, s)]]
  | .mldx m s => [bits 0xb4000004 [(21, m), (13, s)]]
  | .mma c a b => [bits 0xb8000000 [(24, c), (21, a), (18, b)]]
  | .mmaS c a b => [bits 0xb8000001 [(24, c), (21, a), (18, b)]]
  | .mmaQ c a b => [bits 0xb8000002 [(24, c), (21, a), (18, b)]]
  | .madda c s => [bits 0xbc000000 [(24, c), (13, s)]]
  | .mdrain c s f => [bits 0xbc000001 [(24, c), (13, s), (3, f.code)]]
  | .mdrainM c s f => [bits 0xbc000002 [(24, c), (13, s), (3, f.code)]]
  | .mread c s => [bits 0xbc000003 [(24, c), (13, s)]]
  | .sgo a => [bits 0xd0000000 [(16, a)]]
  | .sstop a => [bits 0xd0000001 [(16, a)]]
  | .sstat d a => [bits 0xd0000002 [(21, d), (16, a)]]
  | .sbar a => [bits 0xd0000003 [(16, a)]]
  | .creq a => [bits 0xd0000010 [(16, a)]]
  | .waitmsg => [bits 0xd0000011 []]
  | .msgtake d => [bits 0xd0000012 [(21, d)]]
  | .msgcnt d => [bits 0xd0000013 [(21, d)]]
  | .msgdrop => [bits 0xd0000014 []]
  | .scfg d a role kind f i => [bits 0xe0000000 [(21, d), (16, a), (14, role.code), (12, kind.code), (8, f.code)], i]
  | .sdim d a l i => [bits 0xe4000000 [(21, d), (16, a), (14, l)], i]
  | .copy d a b i => [bits 0xe8000000 [(21, d), (16, a), (11, b)], i]
  | .send d a tag i => [bits 0xf0000000 [(21, d), (16, a), (0, tag)], i]
  | .aadd d a s i => [bits 0xec000000 [(21, d), (16, a), (4, s.code)], i]
  | .aand d a s i => [bits 0xec000001 [(21, d), (16, a), (4, s.code)], i]
  | .aor d a s i => [bits 0xec000002 [(21, d), (16, a), (4, s.code)], i]
  | .axor d a s i => [bits 0xec000003 [(21, d), (16, a), (4, s.code)], i]
  | .amin d a n s i => [bits 0xec000004 [(21, d), (16, a), (7, n.toNat), (4, s.code)], i]
  | .amax d a n s i => [bits 0xec000005 [(21, d), (16, a), (7, n.toNat), (4, s.code)], i]
  | .aswap d a s i => [bits 0xec000006 [(21, d), (16, a), (4, s.code)], i]
  | .acas d a b s i => [bits 0xec000007 [(21, d), (16, a), (11, b), (4, s.code)], i]
  | .axadd d a b i => [bits 0xec000048 [(21, d), (16, a), (11, b)], i]
  | .awatch d a b n s i => [bits 0xec000009 [(21, d), (16, a), (11, b), (7, n.toNat), (4, s.code)], i]
  | .seminc a b => [bits 0xd4000000 [(16, a), (11, b)]]
  | .semdec a b => [bits 0xd4000001 [(16, a), (11, b)]]
  | .semwait a b => [bits 0xd4000002 [(16, a), (11, b)]]
  | .semrd d b => [bits 0xd4000003 [(21, d), (11, b)]]
  | .semset a b => [bits 0xd4000004 [(16, a), (11, b)]]
  | .fenceCore => [bits 0xd4000010 []]
  | .fenceXpath => [bits 0xd4000011 []]
  | .fenceStr a => [bits 0xd4000012 [(16, a)]]
  | .fenceLvl l => [bits 0xd4000013 [(11, l)]]
  | .binit a b => [bits 0xd8000000 [(16, a), (11, b)]]
  | .arrive d a b => [bits 0xd8000001 [(21, d), (16, a), (11, b)]]
  | .arrivedrop d a b => [bits 0xd8000002 [(21, d), (16, a), (11, b)]]
  | .bwait a b => [bits 0xd8000003 [(16, a), (11, b)]]
  | .btest d a b => [bits 0xd8000004 [(21, d), (16, a), (11, b)]]
  | .bret a => [bits 0xd8000005 [(16, a)]]
  | .bexp a b => [bits 0xd8000006 [(16, a), (11, b)]]
  | .cwLcWrite level a => [bits 0x00000115 [(4, level * 3), (16, a)]]
  | .cwFflagsWrite a => [bits 0x00000025 [(16, a)]]
  | .cwRoundWrite a => [bits 0x00000015 [(16, a)]]
  | .cwMctlWrite a => [bits 0x00000205 [(16, a)]]
  | .firingStart _ => []
  | .commitPoint _ => []
  | .budgetExceeded _ => []
  | .firingRetry _ => []
  | .instructionWaitEnd _ => []
  | .tokenLanding _ _ => []
  | .recordFetch _ => []
  | .tileWake _ => []
  | .tileGating _ _ => []
  | .slotReturn _ _ => []
  | .activeMessageLanding _ _ => []
  | .permitReturn _ _ => []
  | .loopClose _ _ => []
  | .closeReply _ _ => []
  | .loopDiscard _ _ => []
  | .scopeComplete _ _ => []
  | .scopeAborted _ _ => []
  | .castOnSegment _ _ => []
  | .followHoldRelease _ _ => []
  | .configurationComplete _ => []
  | .knotIntervalExpiry _ => []
  | .knotProbe _ => []
  | .starvedCycleProbe _ => []
  | .knotReport _ => []
  | .starvedCycleReport _ => []
  | .rebalancerMove _ _ _ _ => []
  | .rebindHold _ _ => []
  | .holdAcknowledgement _ _ => []
  | .remapEntryChange _ _ _ => []
  | .flitCrcError _ => []
  | .laneDiagnosis _ _ => []
  | .pathDown _ _ _ => []
  | .gaugeRefresh _ _ _ => []
  | .fieldOffsetMeasurement _ _ _ _ _ => []
  | .eventDeadline _ => []
  | .scrub _ _ => []
  | .parityDelta _ => []
  | .darning _ _ => []
  | .tileRetirement _ _ => []
  | .regulatorPhaseLoss _ _ => []
  | .streamElement _ _ => []
  | .translationProbe _ => []
  | .pageWalk _ => []
  | .probeReply _ => []
  | .faultNotice _ => []
  | .memoryRequest _ => []
  | .memoryReply _ => []
  | .watchRegister _ => []
  | .streamStopBoundary _ _ => []
  | .copyRequestToken _ _ _ => []
  | .completionMessage _ _ => []
  | .hostSink _ => []
  | .remoteArrival _ _ => []
  | .matrixStart _ _ => []
  | .matrixComplete _ _ => []
  | .arrayIdle _ => []
  | .activityGrant _ => []
  | .rampEnd _ => []
  | .swatchStopped _ => []
  | .preemptSave _ => []
  | .bindOffRelease _ => []
  | .homeListRebuild _ _ => []
  | .powerFailTrap => []
  | .flashDrain => []
  | .gridSignal _ => []
  | .powerWindow _ => []
  | .coldStart => []
  | .warmStart => []
  | .ownerSilence => []
  | .peerLinkDown _ => []
  | .launch _ _ => []
  | .sealScope _ _ _ => []
  | .abortScope _ _ _ => []
  | .releaseScope _ _ _ => []
  | .waitscope _ _ _ => []
  | .preempt _ _ _ _ => []
  | .stopanswer _ _ _ => []
  | .bindoff _ _ => []
  | .reknit _ _ => []
  | .faultanswer _ _ _ => []
  | .readnodes _ _ _ _ _ _ => []
  | .readlog _ _ _ _ _ => []
  | .sempost _ _ _ _ _ _ _ => []
  | .xlateinv _ _ _ _ _ => []
  | .setctx _ _ => []
  | .powerstep _ _ => []
  | .debugCmd _ _ _ => []
  | .attest _ _ _ => []
  | .handover _ _ => []
  | .guilt _ _ _ => []
  | .bindpeer _ _ _ _ _ => []
  | .persist _ _ _ => []
  | .status _ _ => []
  | .token _ _ _ _ _ => []
  | .qcreate _ _ _ _ _ _ _ => []
  | .qdelete _ _ _ => []
  | .illegalInstruction => []
  | .malformedPacket _ => []
  | .copyWord _ _ => []
  | .powerFailDeadline => []
  | .firmwareImage _ => []

/-- The instruction that the words of i decode to. The four rows that name what a CWW of one control word does (R72, R109, R230, R248)
have no word but that CWW's own; every other instruction is its own. -/
def Instr.asDecoded (i : Instr) : Instr :=
  match i with
  | .cwLcWrite level a => .cww a (0x011 + level * 3)
  | .cwFflagsWrite a => .cww a 0x002
  | .cwRoundWrite a => .cww a 0x001
  | .cwMctlWrite a => .cww a 0x020
  | i => i

/-- Whether the instruction is a word of the tile core; the others are steps of another agent. -/
def Instr.isCore (i : Instr) : Bool := decide (i = .illegalInstruction) || !(encode i).isEmpty

/-- The bytes of an instruction's words, each word little-endian (R33). -/
def wordBytes (w : Nat) : List (BitVec 8) :=
  [BitVec.ofNat 8 w, BitVec.ofNat 8 (w / 2 ^ 8), BitVec.ofNat 8 (w / 2 ^ 16), BitVec.ofNat 8 (w / 2 ^ 24)]

/-- The word that four bytes hold, the first at the lowest address (R33). -/
def wordOfBytes (b0 b1 b2 b3 : BitVec 8) : Nat :=
  b0.toNat + b1.toNat * 2 ^ 8 + b2.toNat * 2 ^ 16 + b3.toNat * 2 ^ 24

/-- Decodes the instruction at the head of a list of bytes and gives the bytes after it (R33). -/
def decodeBytes : List (BitVec 8) → Except DecodeError (Instr × List (BitVec 8))
  | b0 :: b1 :: b2 :: b3 :: rest =>
    let w0 := wordOfBytes b0 b1 b2 b3
    if isLongWord w0 then
      match rest with
      | c0 :: c1 :: c2 :: c3 :: rest2 =>
        match decodeWords w0 (wordOfBytes c0 c1 c2 c3) with
        | .ok i => .ok (i, rest2)
        | .error e => .error e
      | _ => .error .truncated
    else
      match decodeWords w0 0 with
      | .ok i => .ok (i, rest)
      | .error e => .error e
  | _ => .error .truncated

/-- The instruction that the words of an opcode-table row decode to, its bits numbered as the table numbers them. -/
def decodeTableWord (nbits w : Nat) : Option Instr :=
  let v := w % 2 ^ nbits
  match decodeBytes (wordBytes v ++ wordBytes (v / 2 ^ 32)) with
  | .ok (i, _) => some i
  | .error _ => none

end Sys2Proof
end

