-- ==== Sys2Proof/Machine/Fetch.lean ====
section
/-! DEFINITION. Fetching an instruction, and what stands before its execution: an address breakpoint, a fetch outside the window, a word
that cannot be read or does not decode (R33, R39, R112, R360). -/

namespace Sys2Proof.Machine

/-- What a turn of the core of a tile comes to before anything executes: nothing to do, a step that is over, an instruction, or a word that
does not decode. -/
inductive Fetched where
  | done (s : State)
  | instr (i : Instr) (s : State)
  | illegal (s : State)

/-- Whether address a is an enabled address breakpoint of the tile (R359, R360). -/
def Tile.breaksAt (x : Tile) (a : Nat) : Bool :=
  bitField (x.cword 0x400) 0 1 == 1 &&
    [0, 1, 2, 3].any fun k => bitField (x.cword 0x400) (4 + k) 1 == 1 && x.cword (0x401 + k) == a

/-- Whether the window holds every word of the instruction at address a whose first word is w (R33). -/
def fetchInWindow (a w : Nat) : Bool := decide (a + (if isLongWord w then 8 else 4) ≤ sramEnd)

/-- The place after which a fetch of the word at address a is made: what engines wrote and a dequeue had acquired when the last FENCE.CORE
issued, and the core stores to the word that are older than it (R112). -/
def Tile.fetchFloor (x : Tile) (a : Nat) : Stamp :=
  (x.order.coreStores 0 a 4 fun e => !x.fetchSeen.lt e.stamp).foldl Stamp.max x.fetchAcq

/-- The word that a fetch finds at address a: each word is old or new whole, whatever the fetches before it found (R112). -/
def Tile.fetchWord (x : Tile) (c a : Nat) : List Byte :=
  x.bytesAt (readPlace (x.order.writesAfter (x.fetchFloor a) 0 a 4) (x.fetchFloor a) c) a 4

/-- The bytes that fetches at address a find: the first word, and the second where the first is that of a long form; stale says for each
word how many of the latest writes its fetch comes before. -/
def Tile.fetchBytes (x : Tile) (stale : Nat → Nat) (a : Nat) : List Byte :=
  let b := x.fetchWord (stale a) a
  if isLongWord (leNat b) then b ++ x.fetchWord (stale (a + 4)) (a + 4) else b

/-- One turn of the core of tile t up to the instruction that executes. -/
def State.fetch (s : State) (t : Nat) : Fetched :=
  let s0 := { s with focus := t }
  match (s0.tile t).firing with
  | none => .done s0
  | some f =>
    if f.phase = .running then
      if (s0.tile t).breaksAt f.pc && !f.bpPassed then .done (s0.halt t 1 f.pc)
      else
        if sramEnd < f.pc + 4 then .done (s0.takeFault t 0x04 0 f.pc)
        else
          let bytes := (s0.tile t).fetchBytes (Config.stale s.tick t) f.pc
          match (s0.tile t).badWord f.pc (if fetchInWindow f.pc (leNat (bytes.take 4)) then bytes.length else 4) with
          | some w => .done (s0.takeBadWord t w 8 w)
          | none =>
            if fetchInWindow f.pc (leNat (bytes.take 4)) then
              match decodeBytes bytes with
              | .ok (i, _) => .instr i (s0.modTile t fun x => x.correct f.pc bytes.length)
              | .error _ => .illegal (s0.modTile t fun x => x.correct f.pc bytes.length)
            else .done (s0.takeFault t 0x04 0 f.pc)
    else .done s0

/-- The record of the slot that runs a placed instruction: handler 0x1000, class direct, disposition void cone, the largest budget. -/
def placedSlot : Slot :=
  { emptySlot with record := Words.ofList [0x1000, 0xFFFF0020, 0, 0, 0, 0, 0, 0x02000000] }

/-- Tile t with a firing of slot 0 at address 0x1000, where the bytes of an instruction stand, in a protected window of 8 granules. -/
def placeFiring (x : Tile) (bytes : List Byte) : Tile :=
  { x with
    sram := Memory.writeN x.sram 0x1000 bytes
    order := x.order.settle
    poisoned := []
    uncorrectable := []
    singleError := []
    slots := Map.set x.slots 0 placedSlot
    cwords := Map.set (Map.set x.cwords 0x040 (0x00008000#32)) 0x400 0#32
    firing := some (freshFiring 0 x.nextUid 0x1000 [] none) }

end Sys2Proof.Machine
end

