-- ==== Sys2Proof/Machine/Input.lean ====
section
/-! DEFINITION. What the outside world does to the module that no row of the opcode table names (R16, R17, R115, R223, R224, R350, R392,
R394). -/

namespace Sys2Proof.Machine

/-- A soft error in token i of a queue: it and the younger tokens wait until the slot is refilled (R115, R224). -/
def Slot.loseToken (k : Slot) (port i : Nat) : Slot :=
  let q := k.inQueue port
  if i < q.toks.length ∧ !q.refilling.contains i then { k with inq := Map.set k.inq port { q with refilling := q.refilling ++ [i] } } else k

/-- The first slot of a queue that waits for it refilled from the sender's retained copy (R181, R224). -/
def Slot.refill (k : Slot) (port : Nat) : Slot :=
  let q := k.inQueue port
  { k with inq := Map.set k.inq port { q with refilling := q.refilling.drop 1 } }

/-- Firmware sets the clock and supply of a physical tile; one that regulator phases cap below 0.45 GHz at the new setting is retired (R16,
R17, R350). -/
def State.setClock (s : State) (p clock supply : Nat) : State :=
  if inGrid s.variant p then
    ({ s with phys := Map.set s.phys p { s.physTile p with setting := some (clampClock (clock, supply)) } } : State).retireWeak p
  else s

/-- Whether two numbers name two nodes of one parity group. -/
def State.inOneGroup (s : State) (a b : Nat) : Bool :=
  isNode s.variant a && isNode s.variant b && !(a == b) && (s.groupNodes a).contains b

/-- One step of the outside world (log entry 1). -/
def State.input (s : State) : Input → State
  | .softError t addr bits => if addr / 4 * 4 < sramEnd then s.modTile t fun x => x.upset (addr / 4 * 4) bits else s
  | .queueError t k port i => if (s.slot t k).stateCode = 0 then s else (s.modSlot t k fun sl => sl.loseToken port i).dropUnready t
  | .queueRefill t k port => (s.modSlot t k fun sl => sl.refill port).dropUnready t
  | .setClock p clock supply => s.setClock p clock supply
  | .twoLost a b => if s.inOneGroup a b then s.loseTwo a b else s
  | .ringOverrun adapter q => s.ringOverrun adapter q
  | .peerReturn i n => s.peerReturn i n
  | .peerToken i words void mark => s.peerToken i words void mark
  | .peerReplay i n => s.modPeer i fun q => q.replay n

end Sys2Proof.Machine
end

