-- ==== Sys2Proof/Machine/Step.lean ====
section
/-! DEFINITION. One step of the machine: the agent whose turn it is moves. -/

namespace Sys2Proof.Machine

/-- The turn of a step: the head of the agenda, else a free choice (log entry 1). -/
def State.turn (s : State) : Option Turn :=
  match s.agenda with
  | a :: _ => some a
  | [] => Config.turn s.tick

/-- One step: the core of a tile fetches, decodes and executes one instruction, another agent takes one step of its own, or the outside world
does something to the module. A word that does not decode executes as the illegal instruction it is (R39). -/
def step (s : State) : Host.Outcome State Fault Refusal :=
  let s0 := { s with tick := s.tick + 1, agenda := s.agenda.tail }
  match s.turn with
  | none => .next s0
  | some (.input e) => .next (s0.input e)
  | some (.event i) => if i.isCore then .next s0 else exec i s0
  | some (.core t) =>
    match s0.fetch t with
    | .done s1 => .next s1
    | .instr i s1 => exec i s1
    | .illegal s1 => exec .illegalInstruction s1

/-- The state with the instruction whose words are given placed where the next step fetches it: a firing at address 0x1000 of the tile in
focus, whose core has the next turn. -/
def State.withFetchWord (s : State) (nbits w : Nat) : State :=
  let v := w % 2 ^ nbits
  { s.modTile s.focus fun x => placeFiring x (wordBytes v ++ wordBytes (v / 2 ^ 32)) with agenda := [.core s.focus] }

end Sys2Proof.Machine
end

