-- ==== Sys2Proof/Safety.lean ====
section
/-! DEFINITION. What a safe step is, and the terms in which claims speak of one instruction of the tile core: when it issues, when its
operands can be read, and the state in which it has completed. -/

namespace Sys2Proof.Machine

/-- A step answers a next state. -/
def Runs (s : State) : Prop := ∃ s', step s = .next s'

/-! ### Progress (R31) -/

/-- The steps by which an actor that is ready comes to fire and to commit, a token to arrive, and a stream to end. -/
def isProgress : Instr → Bool
  | .firingStart _ | .commitPoint _ | .parityDelta _ | .firingRetry _ | .instructionWaitEnd _ | .tileWake _ => true
  | .tokenLanding _ _ | .slotReturn _ _ | .activeMessageLanding _ _ | .remoteArrival _ _ | .recordFetch _ | .hostSink _ => true
  | .permitReturn _ _ | .loopClose _ _ | .closeReply _ _ | .loopDiscard _ _ => true
  | .streamElement _ _ | .streamStopBoundary _ _ | .copyWord _ _ | .copyRequestToken _ _ _ | .completionMessage _ _ => true
  | .translationProbe _ | .pageWalk _ | .probeReply _ | .faultNotice _ | .memoryRequest _ | .memoryReply _ | .watchRegister _ => true
  | .matrixStart _ _ | .matrixComplete _ _ | .arrayIdle _ | .activityGrant _ | .rampEnd _ => true
  | _ => false

/-- A run of the part, as R31 promises it: state follows state, and every core and every such step has its turn again and again, so that a ready
actor on a powered, unparked tile fires, a token arrives and a stream ends. A claim of progress takes it as its premise (log entry 1). -/
structure Progresses (r : Nat → State) : Prop where
  steps : ∀ n, step (r n) = .next (r (n + 1))
  cores : ∀ t n, ∃ m, n ≤ m ∧ (r m).turn = some (.core t)
  agents : ∀ i : Instr, isProgress i = true → ∀ n, ∃ m, n ≤ m ∧ (r m).turn = some (.event i)

/-! ### Issuing (R91, R106, R165) -/

/-- Firing f runs on the tile in focus, has budget left, and no instruction of len bytes that starts here straddles the innermost LE. -/
structure Issues (s : State) (f : Firing) (len : Nat) : Prop where
  firing : (s.tile s.focus).firing = some f
  running : f.phase = .running
  budget : f.spent < (s.slot s.focus f.slot).budget * 256
  straddle : len = 8 → ∀ l ∈ f.levels.head?, l.le ≠ f.pc

/-- The tile in focus, and the slot whose firing runs. -/
def State.here (s : State) : Tile := s.tile s.focus

def State.actor (s : State) (f : Firing) : Slot := s.slot s.focus f.slot

/-- The machine as an instruction of firing f sees it. -/
def State.ctxOf (s : State) (f : Firing) : Ctx := { st := s, t := s.focus, x := s.here, f := f }

/-! ### Operands (R35, R114 to R117) -/

/-- Window words, each a port and a place, that are declared, present and of no void token. -/
def Readable (s : State) (f : Firing) (ws : List (Nat × Nat)) : Prop :=
  ∀ w ∈ ws, badWindow (s.actor f) w.1 w.2 = false ∧ isPresent (s.actor f) w.1 w.2 = true ∧ isVoidWord (s.actor f) w.1 w.2 = false

/-- The source fields, in field order, can all be read now. -/
def Reads (s : State) (f : Firing) (srcs : List Nat) : Prop := Readable s f (portReads srcs f.cursors)

/-- A destination field can take a result: a q register names an output port with room for a word more. -/
def Accepts (s : State) (f : Firing) (d : Nat) : Prop := badDest (s.ctxOf f) d = false

/-- The value of source field i of those named. -/
def operand (s : State) (f : Firing) (srcs : List Nat) (i : Nat) : Word64 := src (srcValues f (s.actor f) srcs f.cursors) i

/-- The firing with the window words of its source fields taken. -/
def Firing.pastReads (f : Firing) (srcs : List Nat) : Firing := { f with cursors := cursorsAfter srcs f.cursors }

/-! ### Local accesses (R212, R217) -/

/-- A load of n bytes at local address x, aligned and in SRAM, that its owner permits and that meets no word it cannot read. -/
def LoadOk (s : State) (f : Firing) (n x : Nat) : Prop :=
  x < sramEnd ∧ x % n = 0 ∧ ownerAllows (s.here.place s.focus x) f.slot ((s.actor f).cls == 2) false = true ∧ s.here.badWord x n = none

/-- A store of n bytes at local address x, aligned and in SRAM, that its owner permits and that touches no live barrier slot. -/
def StoreOk (s : State) (f : Firing) (n x : Nat) : Prop :=
  x < sramEnd ∧ x % n = 0 ∧ ownerAllows (s.here.place s.focus x) f.slot ((s.actor f).cls == 2) true = true ∧
    touchesBarrier s.here.barriers x n = false

/-- The place in the tile's service order that a core read of n bytes takes, and the bytes that it finds there (R221, R332; log entry 8). -/
def State.corePlace (s : State) (a n : Nat) : Stamp := s.here.corePlace (Config.stale s.tick s.focus a) a n

def State.coreBytes (s : State) (a n : Nat) : List Byte := s.here.bytesAt (s.corePlace a n) a n

/-- The tile once the core has read n bytes at each of some addresses. -/
def State.coreRead (s : State) (as : List Nat) (n : Nat) : Tile :=
  as.foldl (fun x a => (x.correct a n).seeRead (s.corePlace a n) a n) s.here

/-- A tile and its firing once bs are stored from a up: the store stands after every older core access, its words are clean, and what it
changes of a protected window is to be told to the parity tile (R220 to R223; log entry 8). -/
def State.stored (s : State) (c : Tile × Firing) (a : Nat) (bs : List Byte) : Tile × Firing :=
  let y := c.1.storeAfter s.here.coreSeen (Config.stale s.tick s.focus a) a bs
  (y.cleanWords a bs.length, { c.2 with delta := c.2.delta ++ storeDelta c.1 y a bs.length })

/-! ### Completing (R91, R94, R106, R165) -/

/-- The state after an instruction that leaves the tile in focus as x and its firing as f. -/
def State.after (s : State) (x : Tile) (f : Firing) : State := ({ st := s, t := s.focus, x := x, f := f } : Ctx).retire

/-- The state after a four-byte instruction that has read srcs and written v to field d. -/
def State.wrote (s : State) (f : Firing) (srcs : List Nat) (d : Nat) (v : Word64) : State :=
  s.after s.here (((f.pastReads srcs).writeReg d v).complete 4)

/-- The state after a four-byte instruction that leaves the firing as g and the tile as it was. -/
def State.went (s : State) (g : Firing) : State := s.after s.here (g.complete 4)

/-- The instruction of firing f completed in state t: its firing is there still, and has been charged its tc. -/
def Completed (s : State) (f : Firing) (t : State) (g : Firing) : Prop :=
  (s.tile s.focus).firing = some f ∧ (t.tile s.focus).firing = some g ∧ g.spent = f.spent + 1 + Config.stall s.tick s.focus

/-! ### Lanes (R69, R226, R227) -/

/-- All the flags of a list of results. -/
def allFlags (l : List (Nat × Nat)) : Nat := (l.map (·.2)).foldr (· ||| ·) 0

/-- Elements of w bits, each with its flags, put together as a lane. -/
def packed (w : Nat) (r : Nat → Nat × Nat) : Nat × Nat :=
  (((List.range (32 / w)).map fun i => (r i).1 % 2 ^ w * 2 ^ (w * i)).sum, allFlags ((List.range (32 / w)).map r))

/-- Element i, of n bits, of lane j of register v. -/
def Firing.element (f : Firing) (n v i j : Nat) : Nat := bitField (f.laneNat v j) (n * i) n

/-- The state after a vector instruction: each enabled lane of vd holds what r gives it, any other is 0 or as it was, and the flags of the
enabled lanes are added to CW.FFLAGS. -/
def State.lanes (s : State) (f : Firing) (d m : Nat) (z : Bool) (r : Nat → Nat × Nat) : State :=
  s.went { f.writeV d (lanes16.map fun j => if f.enabled m j then BitVec.ofNat 32 (r j).1 else if z then 0 else lane (f.vreg d) j) with
    fflags := f.fflags ||| allFlags ((lanes16.filter (f.enabled m)).map r) }

/-! ### Matrix instructions (R248, R253, R266, R267, R272) -/

/-- CW.MCTL.SATF binds an instruction of the array pipe (R248). -/
def Firing.strict (f : Firing) (pipe : MPipe) : Bool := f.mctl % 2 == 1 && decide (pipe = .array)

/-- A matrix instruction of a pipe issues: the queue has an entry left, and one that is serialising finds no older one (R248, R267). -/
structure MatIssues (s : State) (f : Firing) (pipe : MPipe) (serial : Bool) : Prop where
  issues : Issues s f 4
  room : (s.here.matOps.filter fun o => !o.started).length < 4
  alone : (serial || f.strict pipe) = true → s.here.matOps = []

/-- The state after a matrix instruction that leaves the tile as x and the firing as g: it stands in the queue, and a serialising one holds
what follows until it completes. -/
def State.queues (s : State) (f : Firing) (pipe : MPipe) (acc : Nat) (uses defs : List Nat) (serial clamped : Bool) (x : Tile)
    (g : Firing) : State :=
  s.after
    { x with matOps := x.matOps ++ [{ pipe := pipe, acc := acc, started := false, uses := uses, defs := defs,
                                      clamped := f.strict pipe && clamped, mflags := (g.acc acc).mflags, pc := f.pc }] }
    { g.complete 4 with phase := if serial || f.strict pipe then .waiting .matrixDone else g.phase }

/-- A transfer of these ranges of bytes passes the checks of R253 to R256 that follow the shape's. -/
def TransferOk (s : State) (f : Firing) (store : Bool) (ranges : List (Nat × Nat)) : Prop :=
  (∀ r ∈ ranges, ∀ w ∈ wordsTouched r.1 r.2, w < sramEnd ∧
    ownerAllows (s.here.place s.focus w) f.slot ((s.actor f).cls == 2) store = true ∧ (store = false → s.here.badWord w 4 = none)) ∧
  (store = true → ∀ r ∈ ranges, touchesBarrier s.here.barriers r.1 r.2 = false)

/-! ### Answers -/

/-- An instruction completes, and the state that it leaves has a property. -/
def Answers (o : Out) (P : State → Prop) : Prop := ∃ t, o = .next t ∧ P t

/-- The state after a four-byte instruction that works on the whole state u, which holds the tile and the firing. -/
def State.onward (u : State) (g : Firing) : State := u.after (u.tile u.focus) (((u.tile u.focus).firing.getD g).complete 4)

/-- The state with the firing of the tile in focus put back as g. -/
def State.withFiring (s : State) (g : Firing) : State := s.setTile s.focus { s.here with firing := some g }

/-- The number that a finite exact value stands for. -/
def Exact.number : Exact → Rat
  | .fin neg n d e => (if neg then -1 else 1) * ((n : Rat) / (d : Rat)) * (2 : Rat) ^ e
  | _ => 0

/-! ### Packets (R115, R136, R145, R148) -/

/-- A packet in flight, with what its sender had before it, the number of the firing that sent it, and that firing's swatch and scope. -/
def packet (src dst : Nat) (cls : TrafficClass) (body : PacketBody) (v : View) (batch : Nat) (who : Nat × Nat) : Packet :=
  { src := src, dst := dst, cls := cls, body := body, view := v, batch := batch, sender := who }

/-- A packet has this source, destination, class and body. -/
def Packet.is (q : Packet) (src dst : Nat) (cls : TrafficClass) (body : PacketBody) : Prop :=
  q.src = src ∧ q.dst = dst ∧ q.cls = cls ∧ q.body = body

/-- Packet p is the first of its source, destination and class, rest are the other packets; no move of an actor holds it back, and its tile
is there and awake. -/
structure Arrives (s : State) (p : Packet) (rest : List Packet) : Prop where
  first : takePacket p.src p.dst p.cls s.net = some (p, rest)
  free : s.heldBack p = false
  present : s.hostLost p.dst = false
  awake : (s.tile p.dst).gating = .running

/-! ### Host packets (R389 to R392, R395) -/

/-- A packet that comes by queue q is taken: the queue serves, and the module has started, or it is in recovery and the command is one that
recovery takes. -/
structure Taken (s : State) (h : Hdr) (q : HostQueue) (c : CmdClass) : Prop where
  queue : s.queueOf h = some q
  serving : q.deleting = []
  up : s.coldNext = true → s.recovery = true ∧ c = .start

/-- A packet that has been taken is not refused: its tag is not barred, it is the next of its queue, its header is one for the command, and
its class may be carried out where it arrived. -/
structure PacketOk (s : State) (h : Hdr) (q : HostQueue) (c : Cmd) : Prop where
  taken : Taken s h q c.cls
  unbarred : h.tag ∈ s.host.barred → c.cls = .unbar
  inOrder : ∀ n ∈ q.lastSeq, h.seq = (n + 1) % 2 ^ 64
  header : headerOk h q c = true
  allowed : s.classOk h q c.cls = true

/-- The state once the packet is noted as the latest of its queue. -/
def State.took (s : State) (h : Hdr) (q : HostQueue) : State :=
  { s with host := { s.host with queues := Map.set s.host.queues (queueKey h.adapter h.queue) { q with lastSeq := some h.seq } } }

/-- The completion entry of a packet: its status and its result. -/
def entryOf (h : Hdr) (status result : Nat) : Completion :=
  { adapter := h.adapter, queue := h.queue, seq := h.seq, status := status, b9 := 0, b10 := 0, result := result }

/-- The debugger has halted a firing (R360). -/
def Firing.isHalted (f : Firing) : Bool :=
  match f.phase with
  | .halted _ => true
  | _ => false

/-! ### What an instruction of the tile core may change (R86, R87, R103, R107, R226, R246, R260) -/

/-- The scalar registers that an instruction writes: its destination field, or the link register of JAL. -/
def scalarDests : Instr → List Nat
  | .jal _ => [23]
  | .cwr d _ | .waitev d _ | .rdcyc d | .add d _ _ | .sub d _ _ | .and d _ _ | .or d _ _ | .xor d _ _ | .andn d _ _ | .orn d _ _
  | .xnor d _ _ | .sll d _ _ | .srl d _ _ | .sra d _ _ | .rol d _ _ | .ror d _ _ | .slt d _ _ | .sltn d _ _ | .min d _ _ | .max d _ _
  | .minn d _ _ | .maxn d _ _ | .addw d _ _ | .subw d _ _ | .mul d _ _ | .mulh d _ _ | .mulhn d _ _ | .div d _ _ | .divn d _ _
  | .rem d _ _ | .remn d _ _ | .clz d _ | .ctz d _ | .popc d _ | .bswap d _ | .sextI8 d _ | .sextI16 d _ | .sextI32 d _ | .zextN8 d _
  | .zextN16 d _ | .zextN32 d _ | .addi d _ _ | .andi d _ _ | .ori d _ _ | .xori d _ _ | .slti d _ _ | .sltin d _ _ | .lih d _ _
  | .slli d _ _ | .srli d _ _ | .srai d _ _ | .rori d _ _ | .extr d _ _ _ | .insr d _ _ _ | .addsh d _ _ _ | .jalr d _ _ | .ldsB d _ _
  | .ldsBn d _ _ | .ldsH d _ _ | .ldsHn d _ _ | .ldsW d _ _ | .ldsWn d _ _ | .ldsD d _ _ | .pcnt d _ | .pfree d _ | .peek d _ _
  | .pscale d _ | .pismark d _ | .gauge d _ | .nptr d _ | .fctr d | .taken d _ | .made d _ | .scope d _
  | .ordinal d | .vext d _ _ | .vmsk d _ | .sstat d _ | .msgcnt d | .semrd d _ | .btest d _ _ => [d]
  | .mread _ s | .mflags _ s => [s]
  | _ => []

/-- The vector registers that an instruction writes by its destination field. -/
def vectorDests : Instr → List Nat
  | .vld d _ _ | .vlds d _ _ | .vldz d _ _ | .vldb d _ _ | .vldx d _ _ _ _ _ | .vtake d _ | .vfadd d _ _ _ _ _ | .vfsub d _ _ _ _ _
  | .vfmul d _ _ _ _ _ | .vfdiv d _ _ _ _ _ | .vfsqrt d _ _ _ _ | .vfmin d _ _ _ _ _ | .vfmax d _ _ _ _ _ | .vfabs d _ _ _ _
  | .vfneg d _ _ _ _ | .vfclass d _ _ _ _ | .vfmaVfp d _ _ _ _ _ | .vfmsVfp d _ _ _ _ _ | .vfnmaVfp d _ _ _ _ _ | .vfnmsVfp d _ _ _ _ _
  | .vfmaV4 d _ _ _ _ _ | .vfmsV4 d _ _ _ _ _ | .vfnmaV4 d _ _ _ _ _ | .vfnmsV4 d _ _ _ _ _ | .vadd d _ _ _ _ _ | .vsub d _ _ _ _ _
  | .vmul d _ _ _ _ _ | .vmulhI d _ _ _ _ _ | .vmulhN d _ _ _ _ _ | .vand d _ _ _ _ _ | .vor d _ _ _ _ _ | .vxor d _ _ _ _ _
  | .vandn d _ _ _ _ _ | .vsll d _ _ _ _ _ | .vsrl d _ _ _ _ _ | .vsra d _ _ _ _ _ | .vminI d _ _ _ _ _ | .vminN d _ _ _ _ _
  | .vmaxI d _ _ _ _ _ | .vmaxN d _ _ _ _ _ | .vaddsI d _ _ _ _ _ | .vaddsN d _ _ _ _ _ | .vsubsI d _ _ _ _ _ | .vsubsN d _ _ _ _ _
  | .vabsdI d _ _ _ _ _ | .vabsdN d _ _ _ _ _ | .vdot4I8 d _ _ _ _ | .vdot4N8 d _ _ _ _ | .vceq d _ _ _ _ _ | .vcne d _ _ _ _ _
  | .vclt d _ _ _ _ _ | .vcle d _ _ _ _ _ | .vcgt d _ _ _ _ _ | .vcge d _ _ _ _ _ | .vcun d _ _ _ _ | .vsel d _ _ _ | .vcvtF32I32 d _ _ _
  | .vcvtF32N32 d _ _ _ | .vcvtI32F32 d _ _ _ | .vcvtN32F32 d _ _ _ | .vpkF16 d _ _ _ _ | .vpkBf16 d _ _ _ _ | .vupkF16 d _ _ _ _
  | .vupkBf16 d _ _ _ _ | .vpkE4m3 d _ _ _ _ | .vpkE5m2 d _ _ _ _ | .vpkE3m2 d _ _ _ _ | .vpkE2m3 d _ _ _ _ | .vpkE2m1 d _ _ _ _
  | .vupkE4m3 d _ _ _ _ | .vupkE5m2 d _ _ _ _ | .vupkE3m2 d _ _ _ _ | .vupkE2m3 d _ _ _ _ | .vupkE2m1 d _ _ _ _ | .vrsum d _ _ _
  | .vrmin d _ _ _ | .vrmax d _ _ _ | .vrand d _ _ _ | .vror d _ _ _ | .vrxor d _ _ _ | .vperm d _ _ _ _ | .vshuf d _ _ _ _
  | .vslideu d _ _ _ _ | .vslided d _ _ _ _ | .vmv d _ _ _ | .vsplat d _ _ _ | .vins d _ _ _ _ | .msgtake d => [d]
  | _ => []

/-- The matrix registers that an instruction writes. -/
def matrixDests : Instr → List Nat
  | .mshape m _ | .mld m _ | .mldT m _ | .mlds m _ | .mldx m _ => [m]
  | _ => []

/-- The accumulators that an instruction writes. -/
def accDests : Instr → List Nat
  | .mzero c | .manch c _ | .madda c _ | .mma c _ _ | .mmaS c _ _ | .mmaQ c _ _ => [c]
  | _ => []

/-- Whether an instruction may change CW.FFLAGS. -/
def addsFlags : Instr → Bool
  | .vfadd _ _ _ _ _ _ | .vfsub _ _ _ _ _ _ | .vfmul _ _ _ _ _ _ | .vfdiv _ _ _ _ _ _ | .vfsqrt _ _ _ _ _ | .vfmin _ _ _ _ _ _
  | .vfmax _ _ _ _ _ _ | .vfmaVfp _ _ _ _ _ _ | .vfmsVfp _ _ _ _ _ _ | .vfnmaVfp _ _ _ _ _ _ | .vfnmsVfp _ _ _ _ _ _
  | .vfmaV4 _ _ _ _ _ _ | .vfmsV4 _ _ _ _ _ _ | .vfnmaV4 _ _ _ _ _ _ | .vfnmsV4 _ _ _ _ _ _ | .vaddsI _ _ _ _ _ _ | .vaddsN _ _ _ _ _ _
  | .vsubsI _ _ _ _ _ _ | .vsubsN _ _ _ _ _ _ | .vceq _ _ _ _ _ _ | .vcne _ _ _ _ _ _ | .vclt _ _ _ _ _ _ | .vcle _ _ _ _ _ _
  | .vcgt _ _ _ _ _ _ | .vcge _ _ _ _ _ _ | .vcun _ _ _ _ _ | .vcvtF32I32 _ _ _ _ | .vcvtF32N32 _ _ _ _ | .vcvtI32F32 _ _ _ _
  | .vcvtN32F32 _ _ _ _ | .vpkF16 _ _ _ _ _ | .vpkBf16 _ _ _ _ _ | .vpkE4m3 _ _ _ _ _ | .vpkE5m2 _ _ _ _ _ | .vpkE3m2 _ _ _ _ _
  | .vpkE2m3 _ _ _ _ _ | .vpkE2m1 _ _ _ _ _ | .vupkF16 _ _ _ _ _ | .vupkBf16 _ _ _ _ _ | .vupkE4m3 _ _ _ _ _ | .vupkE5m2 _ _ _ _ _
  | .vupkE3m2 _ _ _ _ _
  | .vupkE2m3 _ _ _ _ _ | .vupkE2m1 _ _ _ _ _ | .vrsum _ _ _ _ | .vrmin _ _ _ _ | .vrmax _ _ _ _ | .mdrain _ _ _ | .mdrainM _ _ _
  | .cww _ _ | .cwLcWrite _ _ | .cwFflagsWrite _ | .cwRoundWrite _ | .cwMctlWrite _ => true
  | _ => false

/-- Whether an instruction may change the control words of a firing but CW.FFLAGS. -/
def writesControl : Instr → Bool
  | .cww _ _ | .cwLcWrite _ _ | .cwFflagsWrite _ | .cwRoundWrite _ | .cwMctlWrite _ | .trap _ | .tret => true
  | _ => false

/-- Whether an instruction may change the loop levels of its firing, the end check at its last word apart. -/
def changesLevels : Instr → Bool
  | .loop _ _ | .beq _ _ _ | .bne _ _ _ | .blt _ _ _ | .bge _ _ _ | .bltn _ _ _ | .bgen _ _ _ | .jal _ | .jalr _ _ _ => true
  | _ => false

/-- Whether an instruction works on more than its firing, the bytes of its tile and the matrix queue: scopes, streams and copies, the
inbox, semaphores, barriers, fences, control words, the field counter, the debugger. -/
def usesUnits : Instr → Bool
  | .scope _ _ | .seal _ | .sgo _ | .sstop _ | .sbar _ | .creq _ | .msgtake _ | .msgdrop | .scfg _ _ _ _ _ _ | .sdim _ _ _ _
  | .copy _ _ _ _ | .send _ _ _ _ | .aadd _ _ _ _ | .aand _ _ _ _ | .aor _ _ _ _ | .axor _ _ _ _ | .amin _ _ _ _ _ | .amax _ _ _ _ _
  | .aswap _ _ _ _ | .acas _ _ _ _ _ | .axadd _ _ _ _ | .awatch _ _ _ _ _ _ | .seminc _ _ | .semdec _ _ | .semwait _ _ | .semset _ _
  | .fenceCore | .fenceXpath | .fenceStr _ | .fenceLvl _ | .binit _ _ | .arrive _ _ _ | .arrivedrop _ _ _ | .bwait _ _ | .btest _ _ _
  | .bret _ | .bexp _ _ | .cww _ _ | .cwLcWrite _ _ | .cwFflagsWrite _ | .cwRoundWrite _ | .cwMctlWrite _ | .fctr _ | .endF | .voidf
  | .aborts | .brk _ => true
  | _ => false

/-- Whether an instruction that completes now leaves the core running as far as the debugger goes: without EN in CW.DBGCTL, or without STEP and
other than BRK (R343, R360). -/
def State.debugQuiet (s : State) (i : Instr) : Bool :=
  bitField (s.here.cword 0x400) 0 1 == 0 || (bitField (s.here.cword 0x400) 3 1 == 0 && match i with
    | .brk _ => false
    | _ => true)

/-- The bytes of SRAM, as addresses and lengths, that an instruction stores to, or that the barrier words that it changes take up. -/
def storeRanges (s : State) (f : Firing) : Instr → List (Nat × Nat)
  | .stsB d a o => [((operand s f [a, d] 0 + BitVec.ofInt 64 (sextInt 13 o)).toNat, 1)]
  | .stsH d a o => [((operand s f [a, d] 0 + BitVec.ofInt 64 (sextInt 13 o)).toNat, 2)]
  | .stsW d a o => [((operand s f [a, d] 0 + BitVec.ofInt 64 (sextInt 13 o)).toNat, 4)]
  | .stsD d a o => [((operand s f [a, d] 0 + BitVec.ofInt 64 (sextInt 13 o)).toNat, 8)]
  | .vst _ a o => lanes16.map fun j => (((operand s f [a] 0 + BitVec.ofInt 64 (sextInt 13 o)).toNat + 4 * j) % 2 ^ 64, 4)
  | .vsts _ a o => lanes16.map fun j => ((((operand s f [a] 0).toNat + (j : Int) * sextInt 13 o) % 2 ^ 64).toNat, 4)
  | .vstz _ a o => lanes16.map fun j =>
    let x := ((operand s f [a] 0 + BitVec.ofInt 64 (sextInt 13 o)).toNat + 4 * j) % 2 ^ 64
    (x ^^^ (x / 128 % 32 * 4), 4)
  | .vstx _ a b m h => (lanes16.filter (f.enabled m)).map fun j =>
    (((operand s f [a] 0).toNat + (lane (f.vreg b) j).toNat * 2 ^ h) % 2 ^ 64, 4)
  | .mst m a => (List.range (f.mreg m).sh.nr).map fun r => ((operand s f [a] 0).toNat + r * (f.mreg m).sh.p, (f.mreg m).sh.rb)
  | .mdrainM _ a fm =>
    let w := (operand s f [a] 0).toNat
    let row := 4 * containerBits fm.code
    (List.range 32).map fun i => (w % 2 ^ 22 + i * if bitField w 32 20 = 0 then row else bitField w 32 20, row)
  | .binit a b => [((operand s f [a, b] 0).toNat, 16)]
  | .bexp a b => [((operand s f [a, b] 0).toNat, 16)]
  | .bret a => [((operand s f [a] 0).toNat, 16)]
  | .arrive d a b => [((operand s f [a, b, d] 0).toNat, 16)]
  | .arrivedrop d a b => [((operand s f [a, b, d] 0).toNat, 16)]
  | _ => []

/-- The parts of a tile that an instruction leaves alone unless it works on scopes, engines, semaphores, barriers or control words: a load
may count a corrected word in CW.SECNT. -/
def Tile.sameUnits (x y : Tile) : Prop :=
  y.slots = x.slots ∧ y.inbox = x.inbox ∧ y.streams = x.streams ∧ y.runs = x.runs ∧ y.copies = x.copies ∧ y.atomics = x.atomics ∧
    y.sems = x.sems ∧ y.barriers = x.barriers ∧ y.scopeCopy = x.scopeCopy ∧ y.gauge = x.gauge ∧ y.nptr = x.nptr ∧ y.edgeTab = x.edgeTab ∧
    ∀ n, n ≠ 0x07F → y.cword n = x.cword n

/-- The instructions of two words (R33). -/
def longForm : Instr → Bool
  | .scfg _ _ _ _ _ _ | .sdim _ _ _ _ | .copy _ _ _ _ | .send _ _ _ _ | .aadd _ _ _ _ | .aand _ _ _ _ | .aor _ _ _ _ | .axor _ _ _ _
  | .amin _ _ _ _ _ | .amax _ _ _ _ _ | .aswap _ _ _ _ | .acas _ _ _ _ _ | .axadd _ _ _ _ | .awatch _ _ _ _ _ _ => true
  | _ => false

/-! ### Memory -/

/-- Every memory has the canonical form: DRAM, the SRAM of every tile, every parity map, and the pages in flash. -/
def State.memoryOk (s : State) : Prop :=
  Memory.wf s.dram = true ∧ (∀ e ∈ s.tiles, Memory.wf e.2.sram = true) ∧ (∀ e ∈ s.parity, Memory.wf e.2 = true) ∧
    ∀ f ∈ s.flash, Memory.wf f.pages = true

end Sys2Proof.Machine
end

