-- ==== Sys2Proof/Certificates/Slice0/Obligations.lean ====
section
/-! DEFINITION. What is claimed of the machine. A statement about an instruction gives the state in which it completes, for every state and
operands that meet hypotheses on the state and the operands alone. A fault is taken by State.takeFault with cause, unit and detail; Issues,
Reads, Accepts, LoadOk, StoreOk and the states after, wrote and went are those of Safety.lean. -/

open Sys2Proof Sys2Proof.Machine

/-! ### The whole machine -/

/-- R87, R279, R306, R310, R312, R316, R395: after a cold start every tile is empty, with nothing in SRAM, no firing, free inbox entries,
idle streams and zero semaphores, DRAM reads 0, no swatch is live and nothing is on its way; there is no owner, and no queue but the admin
queues; and memory has its canonical form. That SRAM reads 0 is R395's clearing; that no queue but the admin queues, no owner and no
swatch is there is log entry 5, that the stations and actors are 64 is log entry 3, and what the model's own fields begin with is log
entry 19 (DESIGN CHOICE). -/
def Obligations.ResetState : Prop :=
  (∀ t a k, Memory.read (State.reset.tile t).sram a = 0 ∧ (State.reset.tile t).firing = none ∧ (State.reset.slot t k).stateCode = 0 ∧
    ((State.reset.tile t).entry k).state = .free ∧ strState ((State.reset.tile t).stream k) = 0 ∧ (State.reset.tile t).sem k = 0 ∧
    (State.reset.tile t).barriers = [] ∧ Memory.read State.reset.dram a = 0) ∧
  State.reset.host.owner = none ∧ State.reset.host.queues = [] ∧ (∀ a < Config.adapters, State.reset.queueAt a 0 = some (adminQueue a)) ∧
  State.reset.swatches = [] ∧ State.reset.net = [] ∧ State.reset.parity = [] ∧ State.reset.stations = List.range 64 ∧
  State.reset.actors = List.range 64 ∧ State.reset.memoryOk

/-- R35, R37 to R39, with the words of a few families written out from their encodings, the reserved ones refused. -/
def Obligations.DecodeWords : Prop :=
  decodeWords 0b000000_00000_00000_000000010001_0001 0 = .ok (.trap 17) ∧
  decodeWords 0b000001_00011_00001_00010_00000000000 0 = .ok (.add 3 1 2) ∧
  decodeWords 0b000010_00101_00100_1111111111111111 0 = .ok (.addi 5 4 0xFFFF) ∧
  decodeWords 0b010100_00000_00011_0000000000000100 0 = .ok (.loop 3 4) ∧
  decodeWords 0b010101_00001_00010_101_1111111111100 0 = .ok (.ldsWn 1 2 0x1FFC) ∧
  decodeWords 0b010111_00001_00010_100_00011_010_1_00_01 0 = .ok (.vldx 1 2 3 2 true 1) ∧
  decodeWords 0b100000_00001_00010_00011_001_0_01_00000 0 = .ok (.vfadd 1 2 3 1 false .f16) ∧
  decodeWords 0b100100_00001_00010_00101_000_0_0010100 0 = .ok (.vpkE2m1 1 2 5 0 false) ∧
  decodeWords 0b101110_10_011_100_00000_0000000000001 0 = .ok (.mmaS 2 3 4) ∧
  decodeWords 0b110110_00001_00010_00011_00000000010 0 = .ok (.arrivedrop 1 2 3) ∧
  decodeWords 0b111000_00001_00010_01_01_1000_00000000 0x12345678 = .ok (.scfg 1 2 .dst .dram .i8 0x12345678) ∧
  decodeWords 0b111011_00001_00010_00011_000_0_010_0111 9 = .ok (.acas 1 2 3 .w32 9) ∧
  decodeWords 0b000000_00000_00000_000000000000_0000 0 = .error .badFunc ∧
  decodeWords 0b001011_00000_00000_0000000000000000 0 = .error .badMajor ∧
  decodeWords 0b000001_00011_00001_00010_00000001101 0 = .error .badFunc ∧
  decodeWords 0b000001_00011_00001_00001_00000110010 0 = .error .reservedBits ∧
  decodeWords 0b010100_00000_00011_0000000000000000 0 = .error .badOperand

/-- R33 to R39: decoding the words of a well-formed instruction of the tile core gives it back, and the bytes after it; the four rows that
name a CWW of one control word decode as that CWW. -/
def Obligations.DecodeOfEncode : Prop :=
  ∀ (i : Instr) (rest : List Byte), i.wf = true → i.isCore = true → i ≠ .illegalInstruction →
    decodeBytes ((encode i).flatMap wordBytes ++ rest) = .ok (i.asDecoded, rest)

/-- R34, R38, R39: every word that decodes is the encoding of the instruction that it decodes to, which is well-formed: no bit of it is
left out, a set reserved bit is refused, and no two words of an instruction differ. -/
def Obligations.EncodeOfDecode : Prop :=
  ∀ (w0 w1 : Nat) (i : Instr), w0 < 2 ^ 32 → w1 < 2 ^ 32 → decodeWords w0 w1 = .ok i →
    i.wf = true ∧ encode i = if isLongWord w0 then [w0, w1] else [w0]

/-- R33, R39, R91, R112: when a core has its turn, its firing runs, no breakpoint halts it and the bytes at the program counter can be
fetched, the step is exec of the instruction that they decode to, or of the illegal instruction; an event of the agenda is exec of that
event. Where no write to the bytes waits to be ordered with the fetch, they are those that SRAM holds. Whose turn it is stands in
State.agenda (log entry 1), and which of the latest writes a fetch comes before is open (log entry 8). -/
def Obligations.StepRunsDecoded : Prop :=
  ∀ (s : State) (t : Nat) (f : Firing) (i : Instr) (rest : List Byte) (rests : List Turn),
    let s0 := { s with tick := s.tick + 1, agenda := s.agenda.tail }
    let s1 := { s0 with focus := t }
    let x := s.tile t
    let bytes := x.fetchBytes (Config.stale s0.tick t) f.pc
    let ready := s.agenda = .core t :: rests ∧ x.firing = some f ∧ f.phase = .running ∧
      (x.breaksAt f.pc = false ∨ f.bpPassed = true) ∧ f.pc + 4 ≤ sramEnd ∧ fetchInWindow f.pc (leNat (bytes.take 4)) = true ∧
      x.badWord f.pc bytes.length = none
    (ready → decodeBytes bytes = .ok (i, rest) → step s = exec i (s1.modTile t fun x => x.correct f.pc bytes.length)) ∧
    (ready → (∀ r, decodeBytes bytes ≠ .ok r) → step s = exec .illegalInstruction (s1.modTile t fun x => x.correct f.pc bytes.length)) ∧
    ((∀ e ∈ x.order.hist, e.touches 0 f.pc 8 = false) →
      bytes = Memory.readN x.sram f.pc (if isLongWord (leNat (Memory.readN x.sram f.pc 4)) then 8 else 4)) ∧
    (s.agenda = .event i :: rests → i.isCore = false → step s = exec i s0) ∧
    (s.agenda = .event i :: rests → i.isCore = true → step s = .next s0)

/-- Memory keeps its canonical form (sorted by address, no repeats, no cell equal to the byte that an unlisted address reads as) in every
step of the machine, from every state that has it: DRAM, every tile's SRAM, every parity map and the pages in flash. The canonical form is
the model's (log entry 19). -/
def Obligations.MemoryStaysCanonical : Prop :=
 ∀ s t : State, s.memoryOk → step s = .next t → t.memoryOk

/-- The frame of the registers: an instruction of the tile core that completes leaves every register unchanged but those of its
destination fields (JAL: the link register s23), CW.FFLAGS unless it is a floating, saturating or drain form, CW.ROUND, CW.MCTL, CW.TVEC,
CW.TPC, CW.TSTAT, the event deadline and the saved loop levels unless it is CWW, TRAP or TRET, the loop levels (control words 0x010 to
0x016) unless it is one of those, LOOP, a branch or a jump, or ends at the innermost LE, and CW.EVPEND unless it is WAITEV or works on a
unit that raises events; and, unless the debugger halts the core by it, every other tile's firing. Stores to the register windows are no
destinations: they are left to LocalAccessResults. -/
def Obligations.RegisterFrame : Prop :=
  ∀ (s t : State) (f g : Firing) (i : Instr), i.isCore = true → (∀ r ∈ storeRanges s f i, r.1 < sramEnd) → exec i s = .next t →
    Completed s f t g →
    (∀ r, r ∉ scalarDests i → g.sreg r = f.sreg r) ∧ (∀ r, r ∉ vectorDests i → g.vreg r = f.vreg r) ∧
    (∀ r, r ∉ matrixDests i → g.mreg r = f.mreg r) ∧ (∀ r, r ∉ accDests i → g.acc r = f.acc r) ∧ (addsFlags i = false → g.fflags = f.fflags) ∧
    (writesControl i = false → g.round = f.round ∧ g.mctl = f.mctl ∧ g.tvec = f.tvec ∧ g.tpc = f.tpc ∧ g.tstat = f.tstat ∧ g.evdl = f.evdl ∧
      g.savedLevels = f.savedLevels) ∧
    (writesControl i = false → changesLevels i = false → (∀ l ∈ f.levels.head?, l.le ≠ f.pc + (if longForm i = true then 4 else 0)) →
      g.levels = f.levels) ∧
    (writesControl i = false → usesUnits i = false → (∀ d a, i ≠ .waitev d a) → g.evpend = f.evpend) ∧
    g.slot = f.slot ∧ g.uid = f.uid ∧ (s.debugQuiet i = true → ∀ u, u ≠ s.focus → (t.tile u).firing = (s.tile u).firing)

/-- The frame of memory: an instruction of the tile core that completes leaves DRAM, every other tile, and every byte of its own tile
outside the ranges that it stores to, at the addresses that its operands give; and an instruction that works on no unit of the tile leaves
them all. One that halts the core for the debugger may stop the swatch, slots of other tiles with it (R343, R360). -/
def Obligations.MemoryFrame : Prop :=
  ∀ (s t : State) (f g : Firing) (i : Instr), i.isCore = true → exec i s = .next t → Completed s f t g →
    t.dram = s.dram ∧ (s.debugQuiet i = true → ∀ u, u ≠ s.focus → t.tile u = s.tile u) ∧
    (∀ a, (∀ r ∈ storeRanges s f i, a < r.1 ∨ r.1 + r.2 ≤ a) → Memory.read (t.tile s.focus).sram a = Memory.read (s.tile s.focus).sram a) ∧
    (usesUnits i = false → s.debugQuiet i = true → (∀ r ∈ storeRanges s f i, r.1 < sramEnd) →
      s.here.sameUnits (t.tile s.focus) ∧ t.net = s.net ∧ t.swatches = s.swatches ∧ t.host = s.host ∧ t.memReqs = s.memReqs ∧
      t.parity = s.parity ∧ t.focus = s.focus)

/-! ### Scalar instructions and control flow -/

/-- R96: the results of the arithmetic and logical register forms; A and B are the values of fields a and b, read in that order. R96:
compares give 1 or 0; minimum and maximum give one of the operands, as signed numbers or, in the n forms, as unsigned ones. -/
def Obligations.ScalarArithmeticResults : Prop :=
  (∀ (s : State) (f : Firing) (d a b : Nat), Issues s f 4 → Reads s f [a, b] → Accepts s f d →
     let A := operand s f [a, b] 0
     let B := operand s f [a, b] 1
     let done := fun v : Word64 => (Host.Outcome.next (s.wrote f [a, b] d v) : Out)
     exec (.add d a b) s = done (BitVec.ofNat 64 (A.toNat + B.toNat)) ∧
     exec (.sub d a b) s = done (BitVec.ofInt 64 ((A.toNat : Int) - B.toNat)) ∧
     exec (.addw d a b) s = done (BitVec.ofInt 64 (sextInt 32 (A.toNat + B.toNat))) ∧
     exec (.subw d a b) s = done (BitVec.ofInt 64 (sextInt 32 (A.toNat + 2 ^ 64 - B.toNat))) ∧
     (∃ v, exec (.and d a b) s = done v ∧ ∀ i, v.getLsbD i = (A.getLsbD i && B.getLsbD i)) ∧
     (∃ v, exec (.or d a b) s = done v ∧ ∀ i, v.getLsbD i = (A.getLsbD i || B.getLsbD i)) ∧
     (∃ v, exec (.xor d a b) s = done v ∧ ∀ i, v.getLsbD i = (A.getLsbD i != B.getLsbD i)) ∧
     (∃ v, exec (.andn d a b) s = done v ∧ ∀ i, v.getLsbD i = (A.getLsbD i && !B.getLsbD i)) ∧
     (∃ v, exec (.orn d a b) s = done v ∧ ∀ i < 64, v.getLsbD i = (A.getLsbD i || !B.getLsbD i)) ∧
     (∃ v, exec (.xnor d a b) s = done v ∧ ∀ i < 64, v.getLsbD i = (A.getLsbD i == B.getLsbD i))) ∧
  (∀ (s : State) (f : Firing) (d a b : Nat), Issues s f 4 → Reads s f [a, b] → Accepts s f d →
     let A := operand s f [a, b] 0
     let B := operand s f [a, b] 1
     let done := fun v : Word64 => (Host.Outcome.next (s.wrote f [a, b] d v) : Out)
     exec (.slt d a b) s = done (if A.toInt < B.toInt then 1 else 0) ∧
     exec (.sltn d a b) s = done (if A.toNat < B.toNat then 1 else 0) ∧
     (∃ v, exec (.min d a b) s = done v ∧ v.toInt = Min.min A.toInt B.toInt) ∧
     (∃ v, exec (.max d a b) s = done v ∧ v.toInt = Max.max A.toInt B.toInt) ∧
     (∃ v, exec (.minn d a b) s = done v ∧ v.toNat = Min.min A.toNat B.toNat) ∧
     (∃ v, exec (.maxn d a b) s = done v ∧ v.toNat = Max.max A.toNat B.toNat))

/-- R96, R99: shifts and rotations by the low six bits of B, or by the count h below 64 that the word holds. R96: counts of bits, the byte
swap and the extensions. -/
def Obligations.ScalarShiftAndBitResults : Prop :=
  (∀ (s : State) (f : Firing) (d a b h : Nat), Issues s f 4 → Reads s f [a, b] → Reads s f [a] → Accepts s f d → h < 64 →
     let A := operand s f [a, b] 0
     let k := (operand s f [a, b] 1).toNat % 64
     let done := fun v : Word64 => (Host.Outcome.next (s.wrote f [a, b] d v) : Out)
     let C := operand s f [a] 0
     let doneI := fun v : Word64 => (Host.Outcome.next (s.wrote f [a] d v) : Out)
     exec (.sll d a b) s = done (BitVec.ofNat 64 (A.toNat * 2 ^ k)) ∧
     exec (.srl d a b) s = done (BitVec.ofNat 64 (A.toNat / 2 ^ k)) ∧
     exec (.sra d a b) s = done (BitVec.ofInt 64 (A.toInt / 2 ^ k)) ∧
     exec (.rol d a b) s = done (BitVec.ofNat 64 (A.toNat * 2 ^ k + A.toNat / 2 ^ (64 - k))) ∧
     exec (.ror d a b) s = done (BitVec.ofNat 64 (A.toNat / 2 ^ k + A.toNat * 2 ^ (64 - k))) ∧
     exec (.slli d a h) s = doneI (BitVec.ofNat 64 (C.toNat * 2 ^ h)) ∧
     exec (.srli d a h) s = doneI (BitVec.ofNat 64 (C.toNat / 2 ^ h)) ∧
     exec (.srai d a h) s = doneI (BitVec.ofInt 64 (C.toInt / 2 ^ h)) ∧
     exec (.rori d a h) s = doneI (BitVec.ofNat 64 (C.toNat / 2 ^ h + C.toNat * 2 ^ (64 - h)))) ∧
  (∀ (s : State) (f : Firing) (d a : Nat), Issues s f 4 → Reads s f [a] → Accepts s f d →
     let A := operand s f [a] 0
     let done := fun v : Word64 => (Host.Outcome.next (s.wrote f [a] d v) : Out)
     (∃ n ≤ 64, exec (.clz d a) s = done (BitVec.ofNat 64 n) ∧ A.toNat < 2 ^ (64 - n) ∧ (n < 64 → 2 ^ (63 - n) ≤ A.toNat)) ∧
     (∃ n ≤ 64, exec (.ctz d a) s = done (BitVec.ofNat 64 n) ∧ (∀ i < n, A.getLsbD i = false) ∧ (n < 64 → A.getLsbD n = true)) ∧
     exec (.popc d a) s = done (BitVec.ofNat 64 ((List.range 64).filter A.getLsbD).length) ∧
     (∃ v, exec (.bswap d a) s = done v ∧ ∀ i < 8, bitField v.toNat (8 * i) 8 = bitField A.toNat (8 * (7 - i)) 8) ∧
     exec (.sextI8 d a) s = done (BitVec.ofInt 64 (sextInt 8 A.toNat)) ∧
     exec (.sextI16 d a) s = done (BitVec.ofInt 64 (sextInt 16 A.toNat)) ∧
     exec (.sextI32 d a) s = done (BitVec.ofInt 64 (sextInt 32 A.toNat)) ∧
     exec (.zextN8 d a) s = done (BitVec.ofNat 64 (A.toNat % 2 ^ 8)) ∧
     exec (.zextN16 d a) s = done (BitVec.ofNat 64 (A.toNat % 2 ^ 16)) ∧
     exec (.zextN32 d a) s = done (BitVec.ofNat 64 (A.toNat % 2 ^ 32)))

/-- R97: products, and quotients and remainders by a divisor that is not 0; division truncates toward zero, and the remainder has the sign
of the dividend. R97: a divisor of 0 raises fault 0x09 in all four forms of the divide group. The detail of a fault record, where R152
leaves open which of its three contents it is, is the address of the instruction (log entry 20, DEDUCED). -/
def Obligations.MultiplyDivideResults : Prop :=
  (∀ (s : State) (f : Firing) (d a b : Nat), Issues s f 4 → Reads s f [a, b] → Accepts s f d →
     let A := operand s f [a, b] 0
     let B := operand s f [a, b] 1
     let done := fun v : Word64 => (Host.Outcome.next (s.wrote f [a, b] d v) : Out)
     exec (.mul d a b) s = done (BitVec.ofNat 64 (A.toNat * B.toNat)) ∧
     exec (.mulh d a b) s = done (BitVec.ofInt 64 (A.toInt * B.toInt / 2 ^ 64)) ∧
     exec (.mulhn d a b) s = done (BitVec.ofNat 64 (A.toNat * B.toNat / 2 ^ 64)) ∧
     (B ≠ 0 →
       exec (.div d a b) s = done (BitVec.ofInt 64 (A.toInt.tdiv B.toInt)) ∧
       exec (.rem d a b) s = done (BitVec.ofInt 64 (A.toInt.tmod B.toInt)) ∧
       exec (.divn d a b) s = done (BitVec.ofNat 64 (A.toNat / B.toNat)) ∧
       exec (.remn d a b) s = done (BitVec.ofNat 64 (A.toNat % B.toNat)))) ∧
  (∀ (s : State) (f : Firing) (d a b : Nat), Issues s f 4 → Reads s f [a, b] → Accepts s f d → operand s f [a, b] 1 = 0 →
     ∀ i ∈ [Instr.div d a b, .divn d a b, .rem d a b, .remn d a b], exec i s = .next (s.takeFault s.focus 0x09 0 f.pc))

/-- R98: the immediate forms; the immediate is sign-extended in ADDI and the compares, and zero-extended in the logical forms. R100: EXTR
takes a field, INSR replaces the bits of sd in a field by the low bits of A and may not name a q register, and ADDSH adds a shifted
operand. The detail of a fault record, where R152 leaves open which of its three contents it is, is the address of the instruction (log
entry 20, DEDUCED). -/
def Obligations.ScalarImmediateResults : Prop :=
  (∀ (s : State) (f : Firing) (d a i : Nat), Issues s f 4 → Reads s f [a] → Accepts s f d → i < 2 ^ 16 →
     let A := operand s f [a] 0
     let done := fun v : Word64 => (Host.Outcome.next (s.wrote f [a] d v) : Out)
     exec (.addi d a i) s = done (BitVec.ofInt 64 (A.toNat + sextInt 16 i)) ∧
     exec (.andi d a i) s = done (BitVec.ofNat 64 (A.toNat &&& i)) ∧
     exec (.ori d a i) s = done (BitVec.ofNat 64 (A.toNat ||| i)) ∧
     exec (.xori d a i) s = done (BitVec.ofNat 64 (A.toNat ^^^ i)) ∧
     exec (.slti d a i) s = done (if A.toInt < sextInt 16 i then 1 else 0) ∧
     exec (.sltin d a i) s = done (if (A.toNat : Int) < sextInt 16 i % 2 ^ 64 then 1 else 0) ∧
     exec (.lih d a i) s = done (BitVec.ofNat 64 (A.toNat * 2 ^ 16 + i))) ∧
  (∀ (s : State) (f : Firing) (d a b p l h : Nat), Issues s f 4 → p + l < 64 → h < 8 →
     (Reads s f [a] → Accepts s f d →
       exec (.extr d a p l) s = .next (s.wrote f [a] d (BitVec.ofNat 64 ((operand s f [a] 0).toNat / 2 ^ p % 2 ^ (l + 1))))) ∧
     (Reads s f [a, d] → d < 24 →
       ∃ v, exec (.insr d a p l) s = .next (s.wrote f [a, d] d v) ∧
         ∀ i < 64, v.getLsbD i = if p ≤ i ∧ i ≤ p + l then (operand s f [a, d] 0).getLsbD (i - p) else (operand s f [a, d] 1).getLsbD i) ∧
     (24 ≤ d → exec (.insr d a p l) s = .next (s.takeFault s.focus 0x06 0 f.pc)) ∧
     (Reads s f [a, b] → Accepts s f d →
       exec (.addsh d a h b) s =
         .next (s.wrote f [a, b] d (BitVec.ofNat 64 ((operand s f [a, b] 0).toNat + (operand s f [a, b] 1).toNat * 2 ^ h)))))

/-- R102, R103, R107: each branch compares its two operands; one that is taken goes to pc + 4 x off16, checked only then, and leaves the
loops whose bodies it leaves; one that is not taken goes on. R104, R107: JAL links in s23 and is a call; JALR reads sa before it links in
sd, and is a call where d is not 0; a target outside the window raises 0x04, another that is not a multiple of 4 0x03. R107: a transfer
that is a call leaves the loop levels as they are; another pops each level whose body holds the place it comes from and not the one it
goes to, and no other. The detail of a fault record, where R152 leaves open which of its three contents it is, is the address of the
instruction (log entry 20, DEDUCED). -/
def Obligations.BranchAndJumpResults : Prop :=
  (∀ (s : State) (f : Firing) (a b o : Nat), Issues s f 4 → Reads s f [a, b] →
     let A := operand s f [a, b] 0
     let B := operand s f [a, b] 1
     let T : Int := (f.pc : Int) + 4 * sextInt 16 o
     let does := fun (i : Instr) (c : Prop) =>
       (¬ c → exec i s = .next (s.went (f.pastReads [a, b]))) ∧
       (c → 0 ≤ T → T < 0x300000 → T % 4 = 0 → exec i s = .next (s.after s.here ((f.pastReads [a, b]).transfer T.toNat false))) ∧
       (c → ¬ (0 ≤ T ∧ T < 0x300000) → exec i s = .next (s.takeFault s.focus 0x04 0 f.pc)) ∧
       (c → 0 ≤ T → T < 0x300000 → T % 4 ≠ 0 → exec i s = .next (s.takeFault s.focus 0x03 0 f.pc))
     does (.beq a b o) (A = B) ∧ does (.bne a b o) (A ≠ B) ∧ does (.blt a b o) (A.toInt < B.toInt) ∧ does (.bge a b o) (B.toInt ≤ A.toInt) ∧
       does (.bltn a b o) (A.toNat < B.toNat) ∧ does (.bgen a b o) (B.toNat ≤ A.toNat)) ∧
  (∀ (s : State) (f : Firing) (d a i o : Nat), Issues s f 4 →
     let link : Word64 := BitVec.ofNat 64 (f.pc + 4)
     let T : Int := (f.pc : Int) + 4 * sextInt 26 o
     (0 ≤ T → T < 0x300000 → T % 4 = 0 → exec (.jal o) s = .next (s.after s.here ((f.writeReg 23 link).transfer T.toNat true))) ∧
     (¬ (0 ≤ T ∧ T < 0x300000) → exec (.jal o) s = .next (s.takeFault s.focus 0x04 0 f.pc)) ∧
     (0 ≤ T → T < 0x300000 → T % 4 ≠ 0 → exec (.jal o) s = .next (s.takeFault s.focus 0x03 0 f.pc)) ∧
     (Reads s f [a] → Accepts s f d →
       let U := (operand s f [a] 0 + BitVec.ofInt 64 (sextInt 16 i)).toNat
       (U < 0x300000 → U % 4 = 0 →
         exec (.jalr d a i) s = .next (s.after s.here (((f.pastReads [a]).writeReg d link).transfer U (d != 0)))) ∧
       (0x300000 ≤ U → exec (.jalr d a i) s = .next (s.takeFault s.focus 0x04 0 f.pc)) ∧
       (U < 0x300000 → U % 4 ≠ 0 → exec (.jalr d a i) s = .next (s.takeFault s.focus 0x03 0 f.pc)))) ∧
  (∀ (f : Firing) (T : Nat),
     f.transfer T true = { f with pc := T } ∧
     ∃ ls, f.transfer T false = { f with pc := T, levels := ls } ∧ ls.Sublist f.levels ∧
       ∀ l ∈ f.levels, (l ∈ ls ↔ (l.ls ≤ f.pc ∧ f.pc ≤ l.le → l.ls ≤ T ∧ T ≤ l.le)))

/-- R105: LOOP pushes a level whose body is the l words that follow, or skips the body where the count is 0, as if an instruction had
completed at its last word; a third level, an LE beyond the window and a body that outlasts the enclosing one fault. R33, R106: an
instruction that completes without a transfer goes to the next word, unless its last word is the innermost LE: then the count falls and
the body starts again, or at the last pass the level is left and the level around it is checked at the same word. The detail of a fault
record, where R152 leaves open which of its three contents it is, is the address of the instruction (log entry 20, DEDUCED). -/
def Obligations.LoopResults : Prop :=
  (∀ (s : State) (f : Firing) (a l : Nat), Issues s f 4 → Reads s f [a] →
     let n := (operand s f [a] 0).toNat % 2 ^ 32
     let le := f.pc + 4 * l
     let g := f.pastReads [a]
     let inside := ∀ v ∈ f.levels.head?, v.ls ≤ f.pc ∧ f.pc ≤ v.le → le ≤ v.le
     (2 ≤ f.levels.length → exec (.loop a l) s = .next (s.takeFault s.focus 0x01 0 f.pc)) ∧
     (f.levels.length < 2 → 0x2FFFFC < le → exec (.loop a l) s = .next (s.takeFault s.focus 0x04 0 f.pc)) ∧
     (f.levels.length < 2 → le ≤ 0x2FFFFC → ¬ inside → exec (.loop a l) s = .next (s.takeFault s.focus 0x01 0 f.pc)) ∧
     (f.levels.length < 2 → le ≤ 0x2FFFFC → inside → n ≠ 0 →
       exec (.loop a l) s =
         .next (s.after s.here { g with pc := f.pc + 4, levels := { ls := f.pc + 4, le := le, lc := n } :: f.levels })) ∧
     (f.levels.length < 2 → le ≤ 0x2FFFFC → inside → n = 0 →
       exec (.loop a l) s = .next (s.went { g with pc := le }))) ∧
  (∀ (f : Firing) (n : Nat), 4 ≤ n →
     ((∀ l ∈ f.levels.head?, l.le ≠ f.pc + n - 4) → f.complete n = { f with pc := f.pc + n }) ∧
     (∀ l ls, f.levels = l :: ls → l.le = f.pc + n - 4 → 1 < l.lc →
       f.complete n = { f with pc := l.ls, levels := { l with lc := l.lc - 1 } :: ls }) ∧
     (∀ l ls, f.levels = l :: ls → l.le = f.pc + n - 4 → l.lc ≤ 1 → f.complete n = { f with levels := ls }.complete n))

/-! ### Local memory -/

/-- R221, R332: a core read finds its bytes whole, as the tile's writes up to one place of its service order left them: the place that
everything which comes before the read has reached, or the place of one of the writes to these bytes that stand after it; where there is
no such write, the read finds what SRAM holds. R212, R220, R222, R223: a store in SRAM leaves the core's next access after it, cleans the
words that it writes whole, and tells the parity tile what it changed of a protected window; where no write to its bytes is kept, SRAM
holds what it stored. R213, R214, R88, R89: a load reads n bytes at sa + sext(13, o), in SRAM or in a register window, extends them and
writes sd. R213, R214, R88, R89, R222: a store puts the low n bytes of sd at sa + sext(13, o), in SRAM or in a register window; a store to
the window of s0 changes nothing. Which place in the service order a read or a store takes is open (log entry 8). -/
def Obligations.LocalAccessResults : Prop :=
  (∀ (s : State) (a n : Nat),
     let later := s.here.order.writesAfter s.here.coreSeen 0 a n
     s.coreBytes a n = s.here.bytesAt (s.corePlace a n) a n ∧ (s.corePlace a n = s.here.coreSeen ∨ s.corePlace a n ∈ later) ∧
     (later = [] → s.coreBytes a n = Memory.readN s.here.sram a n)) ∧
  (∀ (s : State) (x : Tile) (g : Firing) (a : Nat) (bs : List Byte), a % 4 = 0 → bs.length = 4 →
     let r := s.stored (x, g) a bs
     r.2 = { g with delta := g.delta ++ ((List.range 4).filter fun i => x.isProtected (a + i)).map fun i =>
       (a + i, Memory.read x.sram (a + i) ^^^ Memory.read r.1.sram (a + i)) } ∧
     a ∉ r.1.poisoned ∧ a ∉ r.1.uncorrectable ∧ a ∉ r.1.singleError ∧
     ((∀ e ∈ x.order.hist, e.touches 0 a 4 = false) → Memory.readN r.1.sram a 4 = bs)) ∧
  (∀ (s : State) (f : Firing) (d a o : Nat), Issues s f 4 → Reads s f [a] → Accepts s f d →
     let x := (operand s f [a] 0 + BitVec.ofInt 64 (sextInt 13 o)).toNat
     let loads := fun (i : Instr) (n : Nat) (ext : Nat → Int) =>
       let gives := fun (v : Nat) => s.wrote f [a] d (BitVec.ofInt 64 (ext v))
       (LoadOk s f n x → exec i s =
         .next (s.after (s.coreRead [x] n) (((f.pastReads [a]).writeReg d (BitVec.ofInt 64 (ext (leNat (s.coreBytes x n))))).complete 4))) ∧
       (x % n = 0 → 0x3FF000 ≤ x → x < 0x3FF0C0 →
         exec i s = .next (gives (bitField (f.sreg ((x - 0x3FF000) / 8)).toNat (8 * (x % 8)) (8 * n)))) ∧
       (x % n = 0 → 0x3FE000 ≤ x → x < 0x3FE800 →
         exec i s = .next (gives (leNat ((List.range n).map fun j => vectorByte f (x - 0x3FE000 + j))))) ∧
       (n = 4 → x % 4 = 0 → 0x3FD000 ≤ x → x < 0x3FE000 → cwAssigned ((x - 0x3FD000) / 4) = true →
         exec i s = .next (gives ((s.ctxOf f).cwRead ((x - 0x3FD000) / 4))))
     loads (.ldsB d a o) 1 (sextInt 8) ∧ loads (.ldsBn d a o) 1 (fun v => v) ∧ loads (.ldsH d a o) 2 (sextInt 16) ∧
       loads (.ldsHn d a o) 2 (fun v => v) ∧ loads (.ldsW d a o) 4 (sextInt 32) ∧ loads (.ldsWn d a o) 4 (fun v => v) ∧
       loads (.ldsD d a o) 8 (fun v => v)) ∧
  (∀ (s : State) (f : Firing) (d a o : Nat), Issues s f 4 → Reads s f [a, d] →
     let x := (operand s f [a, d] 0 + BitVec.ofInt 64 (sextInt 13 o)).toNat
     let g := f.pastReads [a, d]
     let stores := fun (i : Instr) (n : Nat) =>
       let bs := leBytes n (operand s f [a, d] 1).toNat
       (StoreOk s f n x → let r := s.stored (s.here, g) x bs; exec i s = .next (s.after r.1 (r.2.complete 4))) ∧
       (x % n = 0 → 0x3FF008 ≤ x → x < 0x3FF0C0 →
         exec i s = .next (s.went { g with sregs := Map.set f.sregs ((x - 0x3FF000) / 8) (BitVec.ofNat 64
           (setBitField (f.sreg ((x - 0x3FF000) / 8)).toNat (8 * (x % 8)) (8 * n) (leNat bs))) })) ∧
       (x % n = 0 → 0x3FF000 ≤ x → x < 0x3FF008 → exec i s = .next (s.went g)) ∧
       (x % n = 0 → 0x3FE000 ≤ x → x < 0x3FE800 → exec i s = .next (s.went (storeVector g (x - 0x3FE000) bs)))
     stores (.stsB d a o) 1 ∧ stores (.stsH d a o) 2 ∧ stores (.stsW d a o) 4 ∧ stores (.stsD d a o) 8)

/-- R217: the checks of a local access in their order, the address being the detail of the record: no window 0x04, alignment 0x03, the
window 0x05, the owner 0x11, then for a store a live barrier slot 0x19, and for a load a word that cannot be read. R215, R217, R89: the
checks of a vector load or store over its enabled lanes, in the order of a scalar access; each check that fails does so for the lowest
lane that fails it, whose address is the detail. In the third, every lane must lie in SRAM, or in unit mode at a multiple of 64 all in the
vector window; where lanes lie in two windows, the first that lies in another than the lowest enabled lane fails (log entry 32). That the
detail is the address of the lowest failing lane, of the contents that R152 allows, is log entry 20 (DEDUCED). -/
def Obligations.LocalAccessFaults : Prop :=
  (∀ (s : State) (f : Firing) (d a o : Nat), Issues s f 4 →
     let checked := fun (i : Instr) (n x : Nat) (store : Bool) =>
       let raises := fun cause => exec i s = .next (s.takeFault s.focus cause 0 x)
       (¬ (x < 0x300000 ∨ (0x3FD000 ≤ x ∧ x < 0x3FE800) ∨ (0x3FF000 ≤ x ∧ x < 0x3FF100)) → raises 0x04) ∧
       (x < 0x300000 ∨ (0x3FD000 ≤ x ∧ x < 0x3FE800) ∨ (0x3FF000 ≤ x ∧ x < 0x3FF100) → x % n ≠ 0 → raises 0x03) ∧
       (x % n = 0 → 0x3FF0C0 ≤ x → x < 0x3FF100 → raises 0x05) ∧
       (x % n = 0 → 0x3FD000 ≤ x → x < 0x3FE000 → (n ≠ 4 ∨ cwAssigned ((x - 0x3FD000) / 4) = false) → raises 0x05) ∧
       (x < 0x300000 → x % n = 0 → ownerAllows (s.here.place s.focus x) f.slot ((s.actor f).cls == 2) store = false → raises 0x11) ∧
       (store = true → x < 0x300000 → x % n = 0 → ownerAllows (s.here.place s.focus x) f.slot ((s.actor f).cls == 2) true = true →
         touchesBarrier s.here.barriers x n = true → raises 0x19) ∧
       (store = false → x < 0x300000 → x % n = 0 → ownerAllows (s.here.place s.focus x) f.slot ((s.actor f).cls == 2) false = true →
         ∀ w, s.here.badWord x n = some w → exec i s = .next (s.takeBadWord s.focus w 8 x))
     (Reads s f [a] → Accepts s f d →
       let x := (operand s f [a] 0 + BitVec.ofInt 64 (sextInt 13 o)).toNat
       checked (.ldsB d a o) 1 x false ∧ checked (.ldsBn d a o) 1 x false ∧ checked (.ldsH d a o) 2 x false ∧
         checked (.ldsHn d a o) 2 x false ∧ checked (.ldsW d a o) 4 x false ∧ checked (.ldsWn d a o) 4 x false ∧
         checked (.ldsD d a o) 8 x false) ∧
     (Reads s f [a, d] →
       let x := (operand s f [a, d] 0 + BitVec.ofInt 64 (sextInt 13 o)).toNat
       checked (.stsB d a o) 1 x true ∧ checked (.stsH d a o) 2 x true ∧ checked (.stsW d a o) 4 x true ∧ checked (.stsD d a o) 8 x true)) ∧
  (∀ (s : State) (f : Firing) (d a b m o h : Nat) (z : Bool), Issues s f 4 → Reads s f [a] →
     let A := operand s f [a] 0
     let base := (A + BitVec.ofInt 64 (sextInt 13 o)).toNat
     let named := fun x : Nat => x < 0x300000 ∨ (0x3FD000 ≤ x ∧ x < 0x3FE800) ∨ (0x3FF000 ≤ x ∧ x < 0x3FF100)
     let checked := fun (i : Instr) (mask : Nat) (unit_ store : Bool) (at_ : Nat → Nat) =>
       let on_ := fun j => j < 16 ∧ f.enabled mask j = true
       let ok := fun P : Nat → Prop => ∀ j, on_ j → P (at_ j)
       let raises := fun (cause : Nat) (P : Nat → Prop) =>
         ∀ j, on_ j → ¬ P (at_ j) → (∀ k < j, on_ k → P (at_ k)) → exec i s = .next (s.takeFault s.focus cause 0 (at_ j))
       let aligned := fun x : Nat => x % 4 = 0
       let inSram := fun x : Nat => x < 0x300000
       let owned := fun x : Nat => ownerAllows (s.here.place s.focus x) f.slot ((s.actor f).cls == 2) store = true
       let inRegs := unit_ = true ∧ 0x3FE000 ≤ at_ 0 ∧ at_ 0 < 0x3FE800 ∧ at_ 0 % 64 = 0
       raises 0x04 named ∧ (ok named → raises 0x03 aligned) ∧
       (ok named → ok aligned → ∀ j, on_ j → (∀ k < j, ¬ on_ k) → (inSram (at_ j) → raises 0x05 inSram) ∧
         (¬ inSram (at_ j) → ¬ inRegs → exec i s = .next (s.takeFault s.focus 0x05 0 (at_ j)))) ∧
       (ok inSram → ok aligned → raises 0x11 owned) ∧
       (ok inSram → ok aligned → ok owned → store = true → raises 0x19 fun x => touchesBarrier s.here.barriers x 4 = false) ∧
       (ok inSram → ok aligned → ok owned → store = false → ∀ j, on_ j → (∀ k < j, on_ k → s.here.badWord (at_ k) 4 = none) →
         ∀ w ∈ s.here.badWord (at_ j) 4, exec i s = .next (s.takeBadWord s.focus w 8 (at_ j)))
     let unit_ := fun j => (base + 4 * j) % 2 ^ 64
     let strided := fun j : Nat => (((A.toNat : Int) + j * sextInt 13 o) % 2 ^ 64).toNat
     let swizzled := fun j => let x := (base + 4 * j) % 2 ^ 64; x ^^^ (x / 128 % 32 * 4)
     let indexed := fun j => (A.toNat + (lane (f.vreg b) j).toNat * 2 ^ h) % 2 ^ 64
     checked (.vld d a o) 0 true false unit_ ∧ checked (.vlds d a o) 0 false false strided ∧ checked (.vldz d a o) 0 false false swizzled ∧
       checked (.vldb d a o) 0 false false (fun _ => base) ∧ checked (.vldx d a b m z h) m false false indexed ∧
       checked (.vst d a o) 0 true true unit_ ∧ checked (.vsts d a o) 0 false true strided ∧ checked (.vstz d a o) 0 false true swizzled ∧
       checked (.vstx d a b m h) m false true indexed)

/-- R89: a store of B, H or W to the vector window changes only the bytes it names. R215, R216, R227: a vector load writes each enabled
lane with the word at its address (unit, strided, XOR-swizzled, one address, or sa plus an index shifted by h) and leaves or clears the
others. R215, R216, R222: a vector store puts the enabled lanes at their addresses, lane 0 first; in the vector window it writes a
register. -/
def Obligations.VectorMemoryResults : Prop :=
  (∀ (f : Firing) (p : Nat) (bs : List Byte), p + bs.length ≤ 0x800 → (∀ i, (f.vreg i).length = 16) →
     (∀ q < 0x800, vectorByte (storeVector f p bs) q = if p ≤ q ∧ q < p + bs.length then bs.getD (q - p) 0 else vectorByte f q) ∧
     (∀ r, (storeVector f p bs).sreg r = f.sreg r) ∧ (∀ i, ((storeVector f p bs).vreg i).length = 16)) ∧
  (∀ (s : State) (f : Firing) (d a b m o h : Nat) (z : Bool), Issues s f 4 → Reads s f [a] →
     let A := operand s f [a] 0
     let base := (A + BitVec.ofInt 64 (sextInt 13 o)).toNat
     let loads := fun (i : Instr) (mask : Nat) (zero : Bool) (at_ : Nat → Nat) =>
       (∀ j < 16, f.enabled mask j = true → LoadOk s f 4 (at_ j)) →
         exec i s = .next (s.after (s.coreRead ((lanes16.filter (f.enabled mask)).map at_) 4)
           (((f.pastReads [a]).writeV d (lanes16.map fun j =>
             if f.enabled mask j then BitVec.ofNat 32 (leNat (s.coreBytes (at_ j) 4)) else if zero then 0 else lane (f.vreg d) j)).complete 4))
     loads (.vld d a o) 0 false (fun j => (base + 4 * j) % 2 ^ 64) ∧
     loads (.vlds d a o) 0 false (fun j => (((A.toNat : Int) + j * sextInt 13 o) % 2 ^ 64).toNat) ∧
     loads (.vldz d a o) 0 false (fun j => let x := (base + 4 * j) % 2 ^ 64; x ^^^ (x / 128 % 32 * 4)) ∧
     loads (.vldb d a o) 0 false (fun _ => base) ∧
     loads (.vldx d a b m z h) m z (fun j => (A.toNat + (lane (f.vreg b) j).toNat * 2 ^ h) % 2 ^ 64) ∧
     (base % 64 = 0 → 0x3FE000 ≤ base → base < 0x3FE800 → (f.vreg ((base - 0x3FE000) / 64)).length = 16 →
       exec (.vld d a o) s = .next (s.went ((f.pastReads [a]).writeV d (f.vreg ((base - 0x3FE000) / 64)))))) ∧
  (∀ (s : State) (f : Firing) (d a b m o h : Nat), Issues s f 4 → Reads s f [a] →
     let A := operand s f [a] 0
     let base := (A + BitVec.ofInt 64 (sextInt 13 o)).toNat
     let stores := fun (i : Instr) (mask : Nat) (at_ : Nat → Nat) =>
       (∀ j < 16, f.enabled mask j = true → StoreOk s f 4 (at_ j)) →
         let put := fun (c : Tile × Firing) (j : Nat) => s.stored c (at_ j) (leBytes 4 (lane (f.vreg d) j).toNat)
         let r := (lanes16.filter (f.enabled mask)).foldl put (s.here, f.pastReads [a])
         exec i s = .next (s.after r.1 (r.2.complete 4))
     stores (.vst d a o) 0 (fun j => (base + 4 * j) % 2 ^ 64) ∧
     stores (.vsts d a o) 0 (fun j => (((A.toNat : Int) + j * sextInt 13 o) % 2 ^ 64).toNat) ∧
     stores (.vstz d a o) 0 (fun j => let x := (base + 4 * j) % 2 ^ 64; x ^^^ (x / 128 % 32 * 4)) ∧
     stores (.vstx d a b m h) m (fun j => (A.toNat + (lane (f.vreg b) j).toNat * 2 ^ h) % 2 ^ 64) ∧
     (base % 64 = 0 → 0x3FE000 ≤ base → base < 0x3FE800 →
       exec (.vst d a o) s = .next (s.went ((f.pastReads [a]).writeV ((base - 0x3FE000) / 64) (f.vreg d)))))

/-! ### Ports, firings and the system instructions -/

/-- R119, R120, R122, R124, R171: what is read of a port; an undeclared port raises 0x06. R120, R121, R122, R124: PSKIP moves the cursor
past whole tokens; VTAKE and VPUT move sixteen words; PMARK marks the token staged last; PSCALEW stages a scale. R35, R114 to R117: a
source field that names a window word of an undeclared port or past the window, and a destination that names an output port without room,
raise 0x06; then the first window word that is not there is waited for; then the first of a void token voids the firing. That what a
destination or a window may not name is found before any wait, and that every wait comes before a void, is log entry 29 (DEDUCED). The
detail of a fault record, where R152 leaves open which of its three contents it is, is the address of the instruction (log entry 20,
DEDUCED). -/
def Obligations.PortResults : Prop :=
  (∀ (s : State) (f : Firing) (d a p : Nat), Issues s f 4 → Accepts s f d →
     let sl := s.actor f
     let cur := Map.get 0 f.cursors p
     let done := fun v : Word64 => (Host.Outcome.next (s.wrote f [] d v) : Out)
     let bad : Out := .next (s.takeFault s.focus 0x06 0 f.pc)
     (if sl.inDecl p then exec (.pcnt d p) s = done (BitVec.ofNat 64 (sl.inQueue p).toks.length) else exec (.pcnt d p) s = bad) ∧
     (if sl.outDecl p then exec (.pfree d p) s = done (BitVec.ofNat 64 (sl.free p - f.stagedCount p / sl.outWidth p))
       else exec (.pfree d p) s = bad) ∧
     (if sl.inDecl p then exec (.taken d p) s = done (BitVec.ofNat 64 (ceilDiv cur (sl.inWidth p))) else exec (.taken d p) s = bad) ∧
     (if sl.outDecl p then exec (.made d p) s = done (BitVec.ofNat 64 (f.stagedCount p / sl.outWidth p)) else exec (.made d p) s = bad) ∧
     (Readable s f [(p, cur)] →
       exec (.pismark d p) s = done (if ((sl.inQueue p).toks[cur / sl.inWidth p]?).any (·.mark) then 1 else 0) ∧
       (∀ sc ∈ scaleOfToken (sl.inQueue p) (cur / sl.inWidth p), sl.inScaled p = true → sc.void = false →
         exec (.pscale d p) s = done (BitVec.ofNat 64 sc.word.toNat)) ∧
       (sl.inScaled p = false → exec (.pscale d p) s = bad)) ∧
     (Reads s f [a] →
       let k := (operand s f [a] 0).toNat % 2 ^ 32
       (sl.inDecl p = true → Readable s f [(p, k)] →
         exec (.peek d a p) s = .next (s.wrote f [a] d (BitVec.ofNat 64 (windowWord sl p k).toNat))) ∧
       ((sl.inDecl p = false ∨ sl.inMax p * sl.inWidth p ≤ k) → exec (.peek d a p) s = bad))) ∧
  (∀ (s : State) (f : Firing) (d a p : Nat), Issues s f 4 →
     let sl := s.actor f
     let cur := Map.get 0 f.cursors p
     let bad : Out := .next (s.takeFault s.focus 0x06 0 f.pc)
     (Reads s f [a] → sl.inDecl p = true →
       let g := f.pastReads [a]
       let w := sl.inWidth p
       let last := ceilDiv (Map.get 0 g.cursors p) w * w + w * ((operand s f [a] 0).toNat % 2 ^ 32)
       (last ≤ sl.inMax p * w → Readable s f ((List.range (last / w)).map fun i => (p, i * w)) →
         exec (.pskip a p) s = .next (s.went { g with cursors := Map.set g.cursors p last })) ∧
       (sl.inMax p * w < last → exec (.pskip a p) s = bad)) ∧
     (Readable s f (lanes16.map fun j => (p, cur + j)) →
       exec (.vtake d p) s =
         .next (s.went { f.writeV d (lanes16.map fun j => windowWord sl p (cur + j)) with cursors := Map.set f.cursors p (cur + 16) })) ∧
     (sl.outDecl p = true → f.stagedCount p + 16 ≤ sl.outMax p * sl.outWidth p →
       exec (.vput d p) s = .next (s.went (f.stage p (lanes16.map (lane (f.vreg d)))))) ∧
     (sl.outMax p * sl.outWidth p < f.stagedCount p + 16 → exec (.vput d p) s = bad) ∧
     (sl.outDecl p = true → 0 < f.stagedCount p →
       let i := (f.stagedCount p - 1) / sl.outWidth p
       let ms := Map.get [] f.marks p
       exec (.pmark p) s = .next (s.went { f with marks := Map.set f.marks p (if i ∈ ms then ms else i :: ms) })) ∧
     (f.stagedCount p = 0 → exec (.pmark p) s = bad) ∧
     (Reads s f [a] → sl.outDecl p = true → sl.outScaled p = true →
       let sc := Map.get [] f.scales p
       (sc.length < sl.outMax p → exec (.pscalew a p) s =
         .next (s.went { f.pastReads [a] with scales := Map.set f.scales p (sc ++ [(operand s f [a] 0).toNat % 2 ^ 20]) })) ∧
       (sl.outMax p ≤ sc.length → exec (.pscalew a p) s = bad))) ∧
  (∀ (s : State) (f : Firing) (d a b k p l h o : Nat), Issues s f 4 → p + l < 64 → h < 8 →
     let checked := fun (i : Instr) (srcs : List Nat) (dst : Option Nat) =>
       let ws := portReads srcs f.cursors
       let bad := (∃ w ∈ ws, badWindow (s.actor f) w.1 w.2 = true) ∨ ∃ e ∈ dst, ¬ Accepts s f e
       let there := fun (w : Nat × Nat) => isPresent (s.actor f) w.1 w.2 = true
       let void := fun (w : Nat × Nat) => isVoidWord (s.actor f) w.1 w.2 = true
       (bad → exec i s = .next (s.takeFault s.focus 0x06 0 f.pc)) ∧
       (¬ bad → ∀ before w after, ws = before ++ w :: after → (∀ v ∈ before, there v) → ¬ there w →
         exec i s = .next (s.setWaiting s.focus f (.token w.1 (tokenOf (s.actor f) w.1 w.2)))) ∧
       (¬ bad → (∀ v ∈ ws, there v) → ∀ before w after, ws = before ++ w :: after → (∀ v ∈ before, ¬ void v) → void w →
         exec i s = .next (s.voidCommit s.focus (some (w.1, tokenOf (s.actor f) w.1 w.2))))
     (∀ i ∈ [Instr.add d a b, .sub d a b, .and d a b, .or d a b, .xor d a b, .andn d a b, .orn d a b, .xnor d a b, .sll d a b, .srl d a b,
         .sra d a b, .rol d a b, .ror d a b, .slt d a b, .sltn d a b, .min d a b, .max d a b, .minn d a b, .maxn d a b, .addw d a b,
         .subw d a b, .mul d a b, .mulh d a b, .mulhn d a b, .div d a b, .divn d a b, .rem d a b, .remn d a b, .addsh d a h b],
       checked i [a, b] (some d)) ∧
     (∀ i ∈ [Instr.clz d a, .ctz d a, .popc d a, .bswap d a, .sextI8 d a, .sextI16 d a, .sextI32 d a, .zextN8 d a, .zextN16 d a, .zextN32 d a,
         .addi d a k, .andi d a k, .ori d a k, .xori d a k, .slti d a k, .sltin d a k, .lih d a k, .slli d a l, .srli d a l, .srai d a l,
         .rori d a l, .extr d a p l, .jalr d a k, .ldsB d a o, .ldsBn d a o, .ldsH d a o, .ldsHn d a o, .ldsW d a o, .ldsWn d a o,
         .ldsD d a o],
       checked i [a] (some d)) ∧
     (∀ i ∈ [Instr.beq a b k, .bne a b k, .blt a b k, .bge a b k, .bltn a b k, .bgen a b k], checked i [a, b] none) ∧
     (∀ i ∈ [Instr.stsB d a o, .stsH d a o, .stsW d a o, .stsD d a o], checked i [a, d] none))

/-- R126, R161, R345: the gauge entry and CW.NPTR of a direction (0x80 and 0 where the mesh ends), the field counter, the cycle count and
the firing's ordinal. R172, R173, R346: SCOPE returns the tile's copy of a scope's words, which is what the words were after one of their
updates and never goes back; SEAL stages a seal or raises 0x11 where the copy shows the scope free; HALTQ stages its request. How far a
field counter has moved is open (log entry 2), and so is how many of the latest updates of a scope's words have not reached the tile's
copy (log entry 9). The detail of a fault record, where R152 leaves open which of its three contents it is, is the address of the
instruction (log entry 20, DEDUCED). -/
def Obligations.PlaceTimeAndScopeResults : Prop :=
  (∀ (s : State) (f : Firing) (d r : Nat), Issues s f 4 → Accepts s f d →
     let done : Nat → Out := fun v => .next (s.wrote f [] d (BitVec.ofNat 64 v))
     let t := s.focus
     let inMesh := (r = 0 → 0 < tileY t) ∧ (r = 1 → tileX t + 1 < meshW s.variant) ∧ (r = 2 → tileY t + 1 < 200) ∧ (r = 3 → 0 < tileX t)
     (r < 4 → inMesh → exec (.gauge d r) s = done (s.gaugeOf t r).toNat ∧ exec (.nptr d r) s = done (s.nptrOf t r).toNat) ∧
     (r < 4 → ¬ inMesh → exec (.gauge d r) s = done 0x80 ∧ exec (.nptr d r) s = done 0) ∧
     exec (.rdcyc d) s = done s.here.cycles ∧
     exec (.ordinal d) s = done (s.actor f).ordinal ∧
     (let s1 := s.advanceField (s.fieldOf t);
       exec (.fctr d) s =
         .next (s1.after s.here ((f.writeReg d (BitVec.ofNat 64 (Map.get 0 s1.fieldCtr (s.fieldOf t)))).complete 4)))) ∧
  (∀ (s : State) (f : Firing) (d a : Nat), Issues s f 4 →
     (Reads s f [a] →
       let sc := (operand s f [a] 0).toNat % 256
       let v := (s.ctxOf f).scopeView sc
       let n := (s.ctxOf f).scopePlace sc
       let trail := ((s.swatch (s.actor f).swatch).scope sc).trail
       let seen := Map.get 0 s.here.scopeCopy (256 * (s.actor f).swatch + sc)
       let x := { s.here with scopeCopy := Map.set s.here.scopeCopy (256 * (s.actor f).swatch + sc) n }
       (seen ≤ trail.length → seen ≤ n ∧ n ≤ trail.length) ∧ (0 < n → v = trail.getD (n - 1) 0) ∧
       (Accepts s f d → exec (.scope d a) s = .next (s.after x (((f.pastReads [a]).writeReg d v).complete 4))) ∧
       (v.toNat % 8 ≠ 0 → exec (.seal a) s = .next (s.after x ({ f.pastReads [a] with seals := f.seals ++ [sc] }.complete 4))) ∧
       (v.toNat % 8 = 0 → exec (.seal a) s = .next (s.takeFault s.focus 0x11 0 f.pc))) ∧
     exec .haltq s = .next (s.went { f with haltq := true }))

/-- R167, R168, R169, R175, R270: END asks for the commit once the matrix unit is idle, and its checks raise 0x07 and 0x19; VOIDF commits
the firing as void; ABORTS commits nothing and drains the scope. R175, R117, R124, R198: the checks that END makes of its ports: whole
tokens, MAX of them on a fixed port, on a scaled port one scale for each block that its tokens start, and from a loop exit one token in
all. R170: JST appends its bytes to the journal after five checks in order: class pure 0x11, alignment 0x03, the protected window 0x11, a
live barrier slot 0x19, more than 256 bytes 0x0A. The detail of a fault record, where R152 leaves open which of its three contents it is,
is the address of the instruction (log entry 20, DEDUCED). -/
def Obligations.FiringEndResults : Prop :=
  (∀ (s : State) (f : Firing), Issues s f 4 →
     let live := ∃ e ∈ f.journal, touchesBarrier s.here.barriers e.addr e.bytes.length = true
     let ended := s.after s.here { f with phase := .committing true }
     (s.here.matOps ≠ [] → ∀ i ∈ [Instr.endF, .voidf, .aborts], exec i s = .next (s.setWaiting s.focus f .matrixIdle)) ∧
     (s.here.matOps = [] →
       (rateOk (s.actor f) f = true → ¬ live → exec .endF s =
         .next (s.after s.here { f with phase := .committing false })) ∧
       (rateOk (s.actor f) f = false → exec .endF s = .next (s.takeFault s.focus 0x07 0 f.pc)) ∧
       (rateOk (s.actor f) f = true → live → exec .endF s = .next (s.takeFault s.focus 0x19 0 f.pc)) ∧
       exec .voidf s = .next (ended.voidCommit s.focus none) ∧
       exec .aborts s = .next (ended.abortFiring s.focus 0))) ∧
  (∀ (sl : Slot) (f : Firing), rateOk sl f = true ↔
     (∀ p < 8, sl.outDecl p = true →
       let n := f.stagedCount p / sl.outWidth p
       let marked := fun i => decide (i ∈ Map.get [] f.marks p)
       let placeOf := fun i => (List.range i).foldl (fun q j => if marked j = true ∨ 31 ≤ q then 0 else q + 1) (sl.outQueue p).pos
       f.stagedCount p % sl.outWidth p = 0 ∧ (sl.outBounded p = false → n = sl.outMax p) ∧
       (sl.outScaled p = true → (Map.get [] f.scales p).length = ((List.range n).filter fun i => placeOf i = 0).length)) ∧
     (sl.isExit = true → f.stagedCount 0 / sl.outWidth 0 + f.stagedCount 1 / sl.outWidth 1 = 1)) ∧
  (∀ (s : State) (f : Firing) (d a : Nat), Issues s f 4 → Reads s f [a, d] →
     let x := (operand s f [a, d] 0).toNat
     let g := f.pastReads [a, d]
     let win := s.here.pwin f.slot
     let checked := fun (i : Instr) (n : Nat) =>
       let raises := fun cause => exec i s = .next (s.takeFault s.focus cause 0 f.pc)
       let inside := winBase win * 1024 ≤ x ∧ x + n ≤ (winBase win + winLen win) * 1024
       let full := 256 < (f.journal.map fun e => e.bytes.length).sum + n
       ((s.actor f).cls = 0 → raises 0x11) ∧
       ((s.actor f).cls ≠ 0 → x % n ≠ 0 → raises 0x03) ∧
       ((s.actor f).cls ≠ 0 → x % n = 0 → ¬ inside → raises 0x11) ∧
       ((s.actor f).cls ≠ 0 → x % n = 0 → inside → touchesBarrier s.here.barriers x n = true → raises 0x19) ∧
       ((s.actor f).cls ≠ 0 → x % n = 0 → inside → touchesBarrier s.here.barriers x n = false → full → raises 0x0A) ∧
       ((s.actor f).cls ≠ 0 → x % n = 0 → inside → touchesBarrier s.here.barriers x n = false → ¬ full →
         exec i s = .next (s.went { g with journal := f.journal ++ [{ addr := x, bytes := leBytes n (operand s f [a, d] 1).toNat }] }))
     checked (.jstW d a) 4 ∧ checked (.jstD d a) 8)

/-- R342: TRAP saves the address that would be fetched next and the loop levels, clears the levels, sets ACTIVE and the code, and goes to
CW.TVEC; TRET checks CW.TPC as a transfer does, and restores them. R343, R39: BRK with debug enabled completes and halts the core, which
then goes on at the next instruction; with debug off it raises 0x28; a word that does not decode raises 0x01. The detail of a fault
record, where R152 leaves open which of its three contents it is, is the address of the instruction (log entry 20, DEDUCED). -/
def Obligations.TrapAndBreakResults : Prop :=
  (∀ (s : State) (f : Firing) (code : Nat), Issues s f 4 →
     let active := f.tstat / 2 ^ 31 % 2 = 1
     let c := f.complete 4
     (f.tvec ≠ 0 → ¬ active → f.tvec < 0x300000 → exec (.trap code) s = .next (s.after s.here
       { c with tpc := c.pc, savedLevels := c.levels, levels := [], tstat := 2 ^ 31 + code * 16, pc := f.tvec })) ∧
     ((f.tvec = 0 ∨ active) → exec (.trap code) s = .next (s.takeFault s.focus 0x29 0 f.pc)) ∧
     (f.tvec ≠ 0 → ¬ active → 0x300000 ≤ f.tvec → exec (.trap code) s = .next (s.takeFault s.focus 0x04 0 f.pc)) ∧
     (active → 0x300000 ≤ f.tpc → exec .tret s = .next (s.takeFault s.focus 0x04 0 f.pc)) ∧
     (active → f.tpc < 0x300000 → f.tpc % 4 ≠ 0 → exec .tret s = .next (s.takeFault s.focus 0x03 0 f.pc)) ∧
     (active → f.tpc < 0x300000 → f.tpc % 4 = 0 → exec .tret s = .next (s.after s.here
       { f with pc := f.tpc, tstat := 0, levels := f.savedLevels.filter fun l => !(inBody l f.pc && !inBody l f.tpc) })) ∧
     (¬ active → exec .tret s = .next (s.takeFault s.focus 0x01 0 f.pc))) ∧
  (∀ (s : State) (f : Firing) (code : Nat), Issues s f 4 →
     (bitField (s.here.cword 0x400) 0 1 = 1 → exec (.brk code) s = .next ((s.went f).halt s.focus 0 ((s.went f).pcOf s.focus))) ∧
     (bitField (s.here.cword 0x400) 0 1 = 1 → bitField (s.here.cword 0x400) 3 1 = 0 → s.here.matOps = [] →
       ((s.swatch (s.actor f).swatch).preempt = none ∨ (s.actor f).cls = 2) →
       (((s.went f).halt s.focus 0 ((s.went f).pcOf s.focus)).tile s.focus).firing.map (·.phase) = some (.halted (f.complete 4).pc)) ∧
     (bitField (s.here.cword 0x400) 0 1 ≠ 1 → exec (.brk code) s = .next (s.takeFault s.focus 0x28 0 f.pc)) ∧
     exec .illegalInstruction s = .next (s.takeFault s.focus 0x01 0 f.pc))

/-- R336, R337, R344: CWR reads a control word; WAITEV returns and clears the pending events that it names, returns 0 where it names none,
and else waits. R336, R337, R72, R73, R89, R109, R248, R344: what a write of each writable control word leaves, by CWW or by STS.W to its
place in the control-word window; a write of any other word raises 0x11. The detail of a fault record, where R152 leaves open which of its
three contents it is, is the address of the instruction (log entry 20, DEDUCED). -/
def Obligations.ControlWordResults : Prop :=
  (∀ (s : State) (f : Firing) (d a n : Nat), Issues s f 4 → Accepts s f d →
     exec (.cwr d n) s = .next (s.wrote f [] d (BitVec.ofNat 64 ((s.ctxOf f).cwRead n))) ∧
     (Reads s f [a] →
       let m := (operand s f [a] 0).toNat % 256
       let hit := f.evpend &&& m
       ((m = 0 ∨ hit ≠ 0) → exec (.waitev d a) s =
         .next (s.went ({ f.pastReads [a] with evpend := f.evpend - hit }.writeReg d (BitVec.ofNat 64 hit)))) ∧
       (m ≠ 0 → hit = 0 → exec (.waitev d a) s = .next (s.setWaiting s.focus f (.events m))))) ∧
  (∀ (s : State) (f : Firing) (a n : Nat), Issues s f 4 →
     let writes := fun (i : Instr) (g : Firing) (v n : Nat) =>
       let done := fun h : Firing => exec i s = .next (s.went h)
       let late := fun dl : Nat => dl ≠ 0 ∧ dl ≤ Map.get 0 s.fieldCtr (s.fieldOf s.focus)
       let deadline := fun dl : Nat => done { g with evdl := dl, evDue := decide (late dl), evpend := if late dl then f.evpend ||| 64 else f.evpend }
       (n = 0x001 → done { g with round := if v % 8 < 5 then v % 8 else 0 }) ∧
       (n = 0x002 → done { g with fflags := v % 64 }) ∧
       (n = 0x011 → done { g with levels := setLevelLc f.levels 0 v }) ∧
       (n = 0x014 → done { g with levels := setLevelLc f.levels 1 v }) ∧
       (n = 0x020 → done { g with mctl := v % 2 }) ∧
       (n = 0x030 → done { g with tvec := v % 2 ^ 22 / 4 * 4 }) ∧
       (n = 0x034 → deadline (f.evdl / 2 ^ 32 * 2 ^ 32 + v)) ∧
       (n = 0x035 → deadline (v * 2 ^ 32 + f.evdl % 2 ^ 32)) ∧
       (n ∉ [0x001, 0x002, 0x011, 0x014, 0x020, 0x030, 0x034, 0x035] → exec i s = .next (s.takeFault s.focus 0x11 0 f.pc))
     (∀ d o, Reads s f [a, d] →
       let x := (operand s f [a, d] 0 + BitVec.ofInt 64 (sextInt 13 o)).toNat
       x = 0x3FD000 + 4 * n → n < 0x400 → cwAssigned n = true →
         writes (.stsW d a o) (f.pastReads [a, d]) ((operand s f [a, d] 1).toNat % 2 ^ 32) n) ∧
     (Reads s f [a] → writes (.cww a n) (f.pastReads [a]) ((operand s f [a] 0).toNat % 2 ^ 32) n) ∧
     exec (.cwRoundWrite a) s = exec (.cww a 0x001) s ∧ exec (.cwFflagsWrite a) s = exec (.cww a 0x002) s ∧
     exec (.cwLcWrite 0 a) s = exec (.cww a 0x011) s ∧ exec (.cwLcWrite 1 a) s = exec (.cww a 0x014) s ∧
     exec (.cwMctlWrite a) s = exec (.cww a 0x020) s)

/-! ### Vector instructions and numbers -/

/-- R231 to R234: what the floating-point vector instructions write, element by element in the type's format under CW.ROUND, and the flags
they add. R70, R71, R231, R232, R233, R234: an operation delivers its exact value converted, with the flags of the value, of the operation
and NV for a signalling NaN operand; the root of a positive number is what every mode rounds as it rounds the exact root; a fused form
converts one exact sum of the product and the addend; a minimum or maximum is one of its operands, -0 below +0; a class mask has the bit
of the class. -/
def Obligations.VectorFloatResults : Prop :=
  (∀ (s : State) (f : Firing) (d a b c m : Nat) (z : Bool) (t : FpType), Issues s f 4 →
     let F := fpFmt t
     let lanes := fun (w : Nat) (r : Nat → Nat → Nat × Nat) =>
       (Host.Outcome.next (s.lanes f d m z fun j => packed w fun i => r i j) : Out)
     let at_ := fun (v i j : Nat) => f.element F.width v i j
     let two := fun (op : Nat → Nat → Nat × Nat) => lanes F.width fun i j => op (at_ a i j) (at_ b i j)
     let one := fun (op : Nat → Nat × Nat) => lanes F.width fun i j => op (at_ a i j)
     let three := fun (np na : Bool) => lanes F.width fun i j => fpFused F f.round np na (at_ a i j) (at_ b i j) (at_ d i j)
     let four := fun (np na : Bool) => lanes 32 fun _ j => fpFused fmtF32 f.round np na (f.laneNat a j) (f.laneNat b j) (f.laneNat c j)
     exec (.vfadd d a b m z t) s = two (fun x y => deliver F f.round [x, y] (exactAdd f.round (F.value x) (F.value y))) ∧
     exec (.vfsub d a b m z t) s = two (fun x y => deliver F f.round [x, y] (exactAdd f.round (F.value x) (F.value y).neg)) ∧
     exec (.vfmul d a b m z t) s = two (fun x y => deliver F f.round [x, y] (exactMul (F.value x) (F.value y))) ∧
     exec (.vfdiv d a b m z t) s = two (fun x y => deliver F f.round [x, y] (exactDiv (F.value x) (F.value y))) ∧
     exec (.vfsqrt d a m z t) s = one (fun x => deliver F f.round [x] (exactSqrt (F.value x))) ∧
     exec (.vfmin d a b m z t) s = two (fpMinMax F false) ∧
     exec (.vfmax d a b m z t) s = two (fpMinMax F true) ∧
     exec (.vfabs d a m z t) s = one (fun x => (x % 2 ^ (F.width - 1), 0)) ∧
     exec (.vfneg d a m z t) s = one (fun x => ((x + 2 ^ (F.width - 1)) % 2 ^ F.width, 0)) ∧
     exec (.vfclass d a m z t) s = one (fun x => (fpClass F x, 0)) ∧
     exec (.vfmaVfp d a b m z t) s = three false false ∧ exec (.vfmsVfp d a b m z t) s = three false true ∧
     exec (.vfnmaVfp d a b m z t) s = three true false ∧ exec (.vfnmsVfp d a b m z t) s = three true true ∧
     exec (.vfmaV4 d a b c m z) s = four false false ∧ exec (.vfmsV4 d a b c m z) s = four false true ∧
     exec (.vfnmaV4 d a b c m z) s = four true false ∧ exec (.vfnmsV4 d a b c m z) s = four true true) ∧
  ((∀ (F : Fmt) (mode fl : Nat) (v : Exact) (ops : List Nat),
     deliver F mode ops (v, fl) =
       ((convert F mode v).1, (convert F mode v).2 ||| fl ||| if ∃ c ∈ ops, F.isSnan c = true then 16 else 0)) ∧
   (∀ (n : Nat) (e : Int), 0 < n → n < 2 ^ 64 →
     (∀ s, exactSqrt (.fin s 0 1 e) = (.fin s 0 1 0, 0)) ∧ exactSqrt (.fin true n 1 e) = (.nan, 16) ∧
     exactSqrt (.inf false) = (.inf false, 0) ∧ exactSqrt (.inf true) = (.nan, 16) ∧
     ∃ (m : Nat) (q : Int), exactSqrt (.fin false n 1 e) = (.fin false m 1 q, 0) ∧ 2 ^ 90 ≤ m ∧
       let x : Rat := (n : Rat) * 2 ^ e
       ((m : Rat) * 2 ^ q) ^ 2 = x ∨
         (m % 2 = 1 ∧ (((m : Rat) - 1) * 2 ^ q) ^ 2 < x ∧ x < (((m : Rat) + 1) * 2 ^ q) ^ 2)) ∧
   (∀ F ∈ [fmtF32, fmtF16, fmtBf16], ∀ (mode a b c : Nat) (np na : Bool), a < 2 ^ F.width → b < 2 ^ F.width → c < 2 ^ F.width →
     let top := 2 ^ (F.width - 1)
     let mag := c % top
     let product := exactMul (F.value a) (F.value b)
     let sum := exactAdd mode (if np then product.1.neg else product.1) (if na then (F.value c).neg else F.value c)
     let order := fun x => if x < top then (x : Int) else -((x - top : Nat) : Int) - 1
     let flag := if F.isSnan a = true ∨ F.isSnan b = true then 16 else 0
     (F.isNan c = true ↔ F.maxCode + 1 < mag) ∧ (F.isSnan c = true ↔ F.maxCode + 1 < mag ∧ c.testBit (F.frac - 1) = false) ∧
     fpFused F mode np na a b c = deliver F mode [a, b, c] (sum.1, sum.2 ||| product.2) ∧
     (∀ s, F.value a = .inf s → b % top = 0 → fpFused F mode np na a b c = (F.nanCode, 16)) ∧
     (∀ max, (F.isNan a = true → F.isNan b = true → fpMinMax F max a b = (F.nanCode, flag)) ∧
       (F.isNan a = true → F.isNan b = false → fpMinMax F max a b = (b, flag)) ∧
       (F.isNan a = false → F.isNan b = true → fpMinMax F max a b = (a, flag))) ∧
     (F.isNan a = false → F.isNan b = false →
       fpMinMax F false a b = (if order b < order a then b else a, 0) ∧ fpMinMax F true a b = (if order a < order b then b else a, 0)) ∧
     fpClass F c = 2 ^ (
       if F.isSnan c = true then 8 else if F.isNan c = true then 9 else if mag = F.maxCode + 1 then (if c < top then 7 else 0)
       else if mag = 0 then (if c < top then 4 else 3) else if mag < 2 ^ F.frac then (if c < top then 5 else 2)
       else if c < top then 6 else 1)))

/-- R235, R236: what the integer vector instructions write: each element the exact integer result, wrapped to the width or saturated with
the flag SAT. -/
def Obligations.VectorIntegerResults : Prop :=
  ∀ (s : State) (f : Firing) (d a b m : Nat) (z : Bool) (w : IntWidth), Issues s f 4 →
    let n := intBits w
    let gives : (Nat → Nat → Nat × Nat) → Out := fun r => .next (s.lanes f d m z fun j => packed n fun i => r i j)
    let A := fun (i j : Nat) => f.element n a i j
    let B := fun (i j : Nat) => f.element n b i j
    let As := fun (i j : Nat) => sextInt n (f.element n a i j)
    let Bs := fun (i j : Nat) => sextInt n (f.element n b i j)
    let wraps := fun (r : Nat → Nat → Int) => gives fun i j => (wrapInt n (r i j), 0)
    let clamps := fun (lo hi : Int) (r : Nat → Nat → Int) =>
      gives fun i j => (wrapInt n (max lo (min hi (r i j))), if r i j < lo ∨ hi < r i j then 32 else 0)
    let signed := clamps (-(2 ^ (n - 1))) (2 ^ (n - 1) - 1)
    let unsigned := clamps 0 (2 ^ n - 1)
    exec (.vadd d a b m z w) s = wraps (fun i j => A i j + B i j) ∧
    exec (.vsub d a b m z w) s = wraps (fun i j => (A i j : Int) - B i j) ∧
    exec (.vmul d a b m z w) s = wraps (fun i j => A i j * B i j) ∧
    exec (.vmulhI d a b m z w) s = wraps (fun i j => As i j * Bs i j / 2 ^ n) ∧
    exec (.vmulhN d a b m z w) s = wraps (fun i j => (A i j * B i j / 2 ^ n : Nat)) ∧
    exec (.vand d a b m z w) s = gives (fun i j => (A i j &&& B i j, 0)) ∧
    exec (.vor d a b m z w) s = gives (fun i j => (A i j ||| B i j, 0)) ∧
    exec (.vxor d a b m z w) s = gives (fun i j => (A i j ^^^ B i j, 0)) ∧
    exec (.vandn d a b m z w) s = gives (fun i j => (A i j ^^^ (A i j &&& B i j), 0)) ∧
    exec (.vsll d a b m z w) s = wraps (fun i j => (A i j * 2 ^ (B i j % n) : Nat)) ∧
    exec (.vsrl d a b m z w) s = wraps (fun i j => (A i j / 2 ^ (B i j % n) : Nat)) ∧
    exec (.vsra d a b m z w) s = wraps (fun i j => As i j / 2 ^ (B i j % n)) ∧
    exec (.vminI d a b m z w) s = wraps (fun i j => min (As i j) (Bs i j)) ∧
    exec (.vmaxI d a b m z w) s = wraps (fun i j => max (As i j) (Bs i j)) ∧
    exec (.vminN d a b m z w) s = wraps (fun i j => (min (A i j) (B i j) : Nat)) ∧
    exec (.vmaxN d a b m z w) s = wraps (fun i j => (max (A i j) (B i j) : Nat)) ∧
    exec (.vaddsI d a b m z w) s = signed (fun i j => As i j + Bs i j) ∧
    exec (.vaddsN d a b m z w) s = unsigned (fun i j => A i j + B i j) ∧
    exec (.vsubsI d a b m z w) s = signed (fun i j => As i j - Bs i j) ∧
    exec (.vsubsN d a b m z w) s = unsigned (fun i j => (A i j : Int) - B i j) ∧
    exec (.vabsdI d a b m z w) s = wraps (fun i j => ((As i j - Bs i j).natAbs : Int)) ∧
    exec (.vabsdN d a b m z w) s = wraps (fun i j => (max (A i j) (B i j) : Int) - (min (A i j) (B i j) : Nat)) ∧
    exec (.vdot4I8 d a b m z) s = .next (s.lanes f d m z fun j =>
      (wrapInt 32 (((List.range 4).map fun i => sextInt 8 (f.element 8 a i j) * sextInt 8 (f.element 8 b i j)).sum), 0)) ∧
    exec (.vdot4N8 d a b m z) s = .next (s.lanes f d m z fun j =>
      (((List.range 4).map fun i => f.element 8 a i j * f.element 8 b i j).sum % 2 ^ 32, 0))

/-- R237, R238: compares write all ones or 0, with NV for a signalling NaN, or in the ordered compares for any NaN; VSEL selects lanes by
the low bit of vk. R237: how two lanes compare: integers as signed or unsigned numbers; f32 by value, +0 equal to -0, and unordered where
one is NaN. -/
def Obligations.VectorCompareResults : Prop :=
  (∀ (s : State) (f : Firing) (d a b k m : Nat) (z : Bool) (t : CmpType), Issues s f 4 →
     let x := f.laneNat a
     let y := f.laneNat b
     let compares := fun (i : Instr) (ty : CmpType) (quiet : Bool) (holds : Comparison → Bool) =>
       exec i s = .next (s.lanes f d m z fun j =>
         (if holds (orderOf ty (x j) (y j)) then 2 ^ 32 - 1 else 0,
           if ty = .f32 ∧ (if quiet then fmtF32.isSnan (x j) || fmtF32.isSnan (y j) else fmtF32.isNan (x j) || fmtF32.isNan (y j)) = true then 16
           else 0))
     compares (.vceq d a b m z t) t true (· == .eq) ∧ compares (.vcne d a b m z t) t true (· != .eq) ∧
       compares (.vclt d a b m z t) t false (· == .lt) ∧ compares (.vcle d a b m z t) t false (fun o => o == .lt || o == .eq) ∧
       compares (.vcgt d a b m z t) t false (· == .gt) ∧ compares (.vcge d a b m z t) t false (fun o => o == .gt || o == .eq) ∧
       compares (.vcun d a b m z) .f32 true (· == .un) ∧
       exec (.vsel d a b k) s = .next (s.went (f.writeV d (lanes16.map fun j =>
         if f.laneNat k j % 2 = 1 then lane (f.vreg a) j else lane (f.vreg b) j)))) ∧
  (∀ (x y : Nat), x < 2 ^ 32 → y < 2 ^ 32 →
     orderOf .i32 x y = (if sextInt 32 x < sextInt 32 y then .lt else if sextInt 32 y < sextInt 32 x then .gt else .eq) ∧
     orderOf .n32 x y = (if x < y then .lt else if y < x then .gt else .eq) ∧
     (orderOf .f32 x y = .un ↔ (0x7F800000 < x % 2 ^ 31 ∨ 0x7F800000 < y % 2 ^ 31)) ∧
     (x % 2 ^ 31 ≤ 0x7F800000 → y % 2 ^ 31 ≤ 0x7F800000 →
       let key := fun c : Nat => if c < 2 ^ 31 then (c : Int) else -((c : Int) - 2 ^ 31)
       orderOf .f32 x y = (if key x < key y then .lt else if key y < key x then .gt else .eq)))

/-- R239, R240, R241: conversions of lanes between f32 and the integers, packs and unpacks of the half formats and of the narrow formats,
and fault 0x02 of the vector unit for a narrow format that the variant lacks. R70, R75, R76: widening to f32 keeps the value of a code and
sets no flag, and narrowing from f32 converts it; a NaN gives the canonical NaN of the target, or 0 with NV where it has none, with NV for
a signalling one. The unit of a vector fault is 1 (log entry 20). The detail of a fault record, where R152 leaves open which of its three
contents it is, is the address of the instruction (log entry 20, DEDUCED). -/
def Obligations.VectorConversionResults : Prop :=
  (∀ (s : State) (f : Firing) (d a b q m : Nat) (z : Bool), Issues s f 4 →
     let gives := fun (r : Nat → Nat × Nat) => (Host.Outcome.next (s.lanes f d m z r) : Out)
     let x := f.laneNat a
     let y := f.laneNat b
     let packHalf := fun (F : Fmt) => gives fun j =>
       let l := narrow fmtF32 F f.round (x j)
       let h := narrow fmtF32 F f.round (y j)
       (l.1 + 2 ^ 16 * h.1, l.2 ||| h.2)
     let unpackHalf := fun (F : Fmt) => gives fun j => widen F fmtF32 (bitField (x j) (16 * q) 16)
     let packNarrow := fun (F : Fmt) (pitch : Nat) => gives fun j =>
       let r := narrow fmtF32 F f.round (x j)
       (setBitField (f.laneNat d j) (pitch * q) pitch r.1, r.2)
     let unpackNarrow := fun (F : Fmt) (pitch : Nat) => gives fun j => widen F fmtF32 (bitField (x j) (pitch * q) F.width)
     let lacks : Out := .next (s.takeFault s.focus 0x02 1 f.pc)
     exec (.vcvtF32I32 d a m z) s = gives (fun j => convert fmtF32 f.round (.ofInt (sextInt 32 (x j)) 0)) ∧
     exec (.vcvtF32N32 d a m z) s = gives (fun j => convert fmtF32 f.round (.ofInt (x j) 0)) ∧
     exec (.vcvtI32F32 d a m z) s = gives (fun j =>
       let r := toInteger f.round (-(2 ^ 31)) (2 ^ 31 - 1) (fmtF32.value (x j))
       (wrapInt 32 r.1, r.2)) ∧
     exec (.vcvtN32F32 d a m z) s = gives (fun j =>
       let r := toInteger f.round 0 (2 ^ 32 - 1) (fmtF32.value (x j))
       (r.1.toNat, r.2)) ∧
     exec (.vpkF16 d a b m z) s = packHalf fmtF16 ∧ exec (.vpkBf16 d a b m z) s = packHalf fmtBf16 ∧
     exec (.vupkF16 d a q m z) s = unpackHalf fmtF16 ∧ exec (.vupkBf16 d a q m z) s = unpackHalf fmtBf16 ∧
     exec (.vpkE4m3 d a q m z) s = packNarrow fmtE4m3 8 ∧ exec (.vupkE4m3 d a q m z) s = unpackNarrow fmtE4m3 8 ∧
     exec (.vpkE5m2 d a q m z) s = packNarrow fmtE5m2 8 ∧ exec (.vupkE5m2 d a q m z) s = unpackNarrow fmtE5m2 8 ∧
     (s.variant ≠ .w2q → exec (.vpkE3m2 d a q m z) s = packNarrow fmtE3m2 8 ∧ exec (.vupkE3m2 d a q m z) s = unpackNarrow fmtE3m2 8 ∧
       exec (.vpkE2m3 d a q m z) s = packNarrow fmtE2m3 8 ∧ exec (.vupkE2m3 d a q m z) s = unpackNarrow fmtE2m3 8 ∧
       exec (.vpkE2m1 d a q m z) s = packNarrow fmtE2m1 4 ∧ exec (.vupkE2m1 d a q m z) s = unpackNarrow fmtE2m1 4) ∧
     (s.variant = .w2q → exec (.vpkE3m2 d a q m z) s = lacks ∧ exec (.vupkE3m2 d a q m z) s = lacks ∧
       exec (.vpkE2m3 d a q m z) s = lacks ∧ exec (.vupkE2m3 d a q m z) s = lacks ∧
       exec (.vpkE2m1 d a q m z) s = lacks ∧ exec (.vupkE2m1 d a q m z) s = lacks)) ∧
  (∀ F ∈ [fmtF16, fmtBf16, fmtE4m3, fmtE5m2, fmtE3m2, fmtE2m3, fmtE2m1], ∀ (mode c w : Nat), mode < 5 → c < 2 ^ F.width → w < 2 ^ 32 →
     let wide := widen F fmtF32 c
     (F.isNan c = true → wide = (fmtF32.nanCode, if F.isSnan c = true then 16 else 0)) ∧
     (F.isNan c = false → wide.2 = 0 ∧
       (∀ s, F.value c = .inf s → fmtF32.value wide.1 = .inf s) ∧
       (∀ s n d e, F.value c = .fin s n d e →
         ∃ n' e', fmtF32.value wide.1 = .fin s n' 1 e' ∧ (fmtF32.value wide.1).number = (F.value c).number)) ∧
     (fmtF32.isNan w = true → narrow fmtF32 F mode w =
       (if F.hasNan then F.nanCode else 0, if fmtF32.isSnan w = true ∨ F.hasNan = false then 16 else 0)) ∧
     (fmtF32.isNan w = false → narrow fmtF32 F mode w = convert F mode (fmtF32.value w)))

/-- R242, R85: a reduction combines the enabled lanes in the fixed tree into lane 0 and clears the others; with no lane enabled it gives
the operation's neutral value. R243, R244, R228: permutes, slides and moves write whole lanes under the mask and change no flag. -/
def Obligations.VectorReductionAndMoveResults : Prop :=
  (∀ (s : State) (f : Firing) (d a m : Nat) (t : CmpType), Issues s f 4 →
     let v := fun j => (lane (f.vreg a) j).toNat
     let isF := t = .f32
     let snan := fun j => if isF ∧ fmtF32.isSnan (v j) = true then 16 else 0
     let pair := fun (op : Nat → Nat → Nat × Nat) (x y : Option (Nat × Nat)) =>
       match x, y with
       | some x, some y => let r := op x.1 y.1; some (r.1, r.2 ||| x.2 ||| y.2)
       | some x, none => some x
       | none, y => y
     let tree := fun (op : Nat → Nat → Nat × Nat) =>
       let l0 := fun j => if f.enabled m j then some (v j, snan j) else none
       let l1 := fun j => pair op (l0 (2 * j)) (l0 (2 * j + 1))
       let l2 := fun j => pair op (l1 (2 * j)) (l1 (2 * j + 1))
       let l3 := fun j => pair op (l2 (2 * j)) (l2 (2 * j + 1))
       pair op (l3 0) (l3 1)
     let reduces := fun (i : Instr) (neutral : Nat) (op : Nat → Nat → Nat × Nat) =>
       let r := (tree op).getD (neutral, 0)
       let x := if isF ∧ fmtF32.isNan r.1 = true then 0x7FC00000 else r.1
       exec i s = .next (s.went { f.writeV d (BitVec.ofNat 32 x :: List.replicate 15 0) with fflags := f.fflags ||| r.2 })
     let num := fun x : Nat => if t = .i32 then sextInt 32 x else (x : Int)
     reduces (.vrsum d a m t) 0 (fun x y => if isF then fpAdd fmtF32 f.round x y else ((x + y) % 2 ^ 32, 0)) ∧
     reduces (.vrmin d a m t) (if isF then 0x7F800000 else if t = .i32 then 0x7FFFFFFF else 0xFFFFFFFF)
       (fun x y => if isF then fpMinMax fmtF32 false x y else (if num x < num y then x else y, 0)) ∧
     reduces (.vrmax d a m t) (if isF then 0xFF800000 else if t = .i32 then 0x80000000 else 0)
       (fun x y => if isF then fpMinMax fmtF32 true x y else (if num x < num y then y else x, 0)) ∧
     reduces (.vrand d a m t) 0xFFFFFFFF (fun x y => (x &&& y, 0)) ∧
     reduces (.vror d a m t) 0 (fun x y => (x ||| y, 0)) ∧
     reduces (.vrxor d a m t) 0 (fun x y => (x ^^^ y, 0))) ∧
  (∀ (s : State) (f : Firing) (d a b k m : Nat) (z : Bool), Issues s f 4 → k < 16 →
     let moves := fun (g : Firing) (r : Nat → Word32) => (Host.Outcome.next (s.went (g.writeV d (lanes16.map fun j =>
       if f.enabled m j then r j else if z then 0 else lane (f.vreg d) j))) : Out)
     let v := fun r j => lane (f.vreg r) j
     let x : Word32 := (operand s f [a] 0).truncate 32
     exec (.vperm d a b m z) s = moves f (fun j => v a (f.laneNat b j % 16)) ∧
     exec (.vshuf d a b m z) s = moves f (fun j =>
       if f.laneNat b j % 32 < 16 then v a (f.laneNat b j % 32) else v d (f.laneNat b j % 32 - 16)) ∧
     exec (.vslideu d a k m z) s = moves f (fun j => if j < k then 0 else v a (j - k)) ∧
     exec (.vslided d a k m z) s = moves f (fun j => if 15 < j + k then 0 else v a (j + k)) ∧
     exec (.vmv d a m z) s = moves f (fun j => v a j) ∧
     (Reads s f [a] → exec (.vsplat d a m z) s = moves (f.pastReads [a]) (fun _ => x)) ∧
     (Reads s f [a] → exec (.vins d a k m z) s = moves (f.pastReads [a]) (fun j => if j = k then x else v d j)) ∧
     (Accepts s f d → exec (.vext d a k) s = .next (s.wrote f [] d (BitVec.ofNat 64 (v a k).toNat))) ∧
     (Accepts s f d → exec (.vmsk d a) s =
       .next (s.wrote f [] d (BitVec.ofNat 64 (((List.range 16).filter fun j => (v a j).getLsbD 0).map (2 ^ ·)).sum))))

/-- R72: the five rounding modes on num / den: to nearest with ties to even, toward zero, down, up, and to nearest with ties away from
zero; the second part says whether anything was left. R68, R70, R75: converting the value of a code to its own format gives the code back
and no flag, or the canonical NaN; an infinity or a NaN without a code of its own in the target gives the largest number with OF, or 0
with NV. R68, R72, R75: the narrowing of a finite number that is not 0. Code k of a format, taken on beyond its largest number as if the
exponent had no limit, stands for grid k; a number from grid k on and below grid (k + 1) becomes one of the two by the mode, with NX where
it is neither, and UF too where it is below the least normal number and stays so when it is rounded to the format's precision alone. A
result beyond the largest number sets OF and NX, and is the largest number or infinity by the mode. R67: a conversion to an integer of the
range lo to hi rounds, clamps with NV, or else flags what it rounded off with NX; a NaN gives 0 and an infinity an end of the range, both
with NV. R71, R231: sums, products and quotients of finite values are exact; a sum that is 0 of operands that differ in sign or are not
both 0 is -0 in the mode RDN and +0 in the others. -/
def Obligations.NumberConversions : Prop :=
  (∀ (mode : Nat) (neg : Bool) (num den : Nat), mode < 5 → 0 < den →
     let r := roundQuot mode neg num den
     (r.2 = true ↔ num % den ≠ 0) ∧
     (mode = 1 → r.1 = num / den) ∧
     (mode = 2 → r.1 = if neg then (num + den - 1) / den else num / den) ∧
     (mode = 3 → r.1 = if neg then num / den else (num + den - 1) / den) ∧
     (mode = 0 → 2 * num ≤ 2 * r.1 * den + den ∧ 2 * r.1 * den ≤ 2 * num + den ∧
       ((2 * num = 2 * r.1 * den + den ∨ 2 * r.1 * den = 2 * num + den) → r.1 % 2 = 0)) ∧
     (mode = 4 → 2 * num < 2 * r.1 * den + den ∧ 2 * r.1 * den ≤ 2 * num + den)) ∧
  (∀ F ∈ [fmtF32, fmtF16, fmtBf16, fmtE4m3, fmtE5m2, fmtE3m2, fmtE2m3, fmtE2m1], ∀ (mode c : Nat) (neg : Bool), mode < 5 → c < 2 ^ F.width →
     (F.isNan c = false → convert F mode (F.value c) = (c, 0)) ∧
     (F.isNan c = true → convert F mode (F.value c) = (F.nanCode, 0)) ∧
     (F.hasNan = false → convert F mode .nan = (0, 16)) ∧
     (F.hasInf = false → convert F mode (.inf neg) = (if neg then 2 ^ (F.width - 1) + F.maxCode else F.maxCode, 4)) ∧
     (F.hasInf = true → convert F mode (.inf neg) = (if neg then 2 ^ (F.width - 1) + F.maxCode + 1 else F.maxCode + 1, 0))) ∧
  (∀ F ∈ [fmtF32, fmtF16, fmtBf16, fmtE4m3, fmtE5m2, fmtE3m2, fmtE2m3, fmtE2m1], ∀ (mode n d k : Nat) (s : Bool) (e : Int),
     mode < 5 → 0 < n → 0 < d →
     let x : Rat := (n : Rat) / d * 2 ^ e
     let unit_ : Rat := 2 ^ (1 - (F.bias : Int) - F.frac)
     let grid := fun j : Nat => (if j < 2 ^ F.frac then (j : Rat) else ((2 ^ F.frac + j % 2 ^ F.frac) * 2 ^ (j / 2 ^ F.frac - 1) : Nat)) * unit_
     let half := (grid k + grid (k + 1)) / 2
     let least := unit_ * 2 ^ F.frac
     let step := least / 2 ^ (F.frac + 1)
     grid k ≤ x → x < grid (k + 1) →
       let up := x ≠ grid k ∧ ((mode = 0 ∧ (half < x ∨ (x = half ∧ k % 2 = 1))) ∨ (mode = 2 ∧ s = true) ∨ (mode = 3 ∧ s = false) ∨
         (mode = 4 ∧ half ≤ x))
       let tiny := x ≤ least - step ∨ (x < least ∧ ((mode = 0 ∨ mode = 4) → x < least - step / 2) ∧ (mode = 2 → s = false) ∧
         (mode = 3 → s = true))
       let gives := fun j : Nat =>
         (j ≤ F.maxCode → convert F mode (.fin s n d e) =
           (if s then 2 ^ (F.width - 1) + j else j, if x = grid k then 0 else if tiny then 3 else 1)) ∧
         (F.maxCode < j → convert F mode (.fin s n d e) =
           ((if s then 2 ^ (F.width - 1) else 0) + F.maxCode +
             if F.hasInf = true ∧ (mode = 0 ∨ mode = 4 ∨ (mode = 2 ∧ s = true) ∨ (mode = 3 ∧ s = false)) then 1 else 0, 5))
       (up → gives (k + 1)) ∧ (¬ up → gives k)) ∧
  (∀ (mode n d : Nat) (neg : Bool) (e lo hi : Int), mode < 5 → 0 < d → lo ≤ 0 → 0 ≤ hi →
     let q := if 0 ≤ e then roundQuot mode neg (n * 2 ^ e.toNat) d else roundQuot mode neg n (d * 2 ^ (-e).toNat)
     let v : Int := if neg then -(q.1 : Int) else q.1
     toInteger mode lo hi (.fin neg n d e) = (max lo (min hi v), if v < lo ∨ hi < v then 16 else if q.2 then 1 else 0) ∧
     toInteger mode lo hi .nan = (0, 16) ∧ toInteger mode lo hi (.inf neg) = (if neg then lo else hi, 16)) ∧
  (∀ (mode : Nat) (s1 s2 : Bool) (n1 n2 d1 d2 : Nat) (e1 e2 : Int), 0 < d1 → 0 < d2 →
     let x := Exact.fin s1 n1 1 e1
     let y := Exact.fin s2 n2 1 e2
     let sum := (exactAdd mode x y).1
     (∃ s n e, sum = .fin s n 1 e ∧ (n = 0 → n1 = 0 → n2 = 0 → s1 = s2 → s = s1) ∧
       (n = 0 → ¬ (n1 = 0 ∧ n2 = 0 ∧ s1 = s2) → s = decide (mode = 2))) ∧
     sum.number = x.number + y.number ∧ (exactAdd mode x y).2 = 0 ∧
     (∀ q, (exactMul (.fin s1 n1 d1 e1) (.fin s2 n2 d2 e2)).1 = q → (∃ n d e, q = .fin (s1 != s2) n d e) ∧
       q.number = Exact.number (.fin s1 n1 d1 e1) * Exact.number (.fin s2 n2 d2 e2)) ∧
     (n2 ≠ 0 → ∀ q, (exactDiv (.fin s1 n1 d1 e1) (.fin s2 n2 d2 e2)).1 = q → (∃ n d e, q = .fin (s1 != s2) n d e) ∧
       q.number = Exact.number (.fin s1 n1 d1 e1) / Exact.number (.fin s2 n2 d2 e2)) ∧
     (n2 = 0 → exactDiv (.fin s1 n1 d1 e1) (.fin s2 n2 d2 e2) = if n1 = 0 then (.nan, 16) else (.inf (s1 != s2), 8)) ∧
     exactAdd mode (.inf s1) (.inf (!s1)) = (.nan, 16) ∧ exactMul (.inf s1) (.fin s2 0 d2 e2) = (.nan, 16))

/-! ### Matrix instructions -/

/-- R250, R260, R261, R262: MSHAPE sets a shape word that it accepts and clears VALID, else 0x0B, and 0x02 for what the W2-Q lacks; MZERO,
MANCH and MADDA act on whole accumulators; MFLAGS and MREAD read one. R253 to R256: a transfer reads its rows, its scale words or its
index bytes from SRAM into the register, each word once and whole, or stores its rows. Its checks come in the order: a shape that suits
it, else 0x0B; then over the words that it touches a window 0x04, its address a multiple of 4, else 0x03, SRAM 0x05, the owner 0x11, for a
store a live barrier slot 0x19, and for a load a word that cannot be read; MLDX then raises 0x0B where an index is bad. The detail of a
transfer's faults is its address (log entry 20), and that its bytes and the places of its words are found when it issues is log entry 8
(DEDUCED). The unit of their faults is 2, and the detail of MSHAPE's and MREAD's is the address of the instruction (log entry 20,
DEDUCED). -/
def Obligations.MatrixTransferResults : Prop :=
  (∀ (s : State) (f : Firing) (m c k a d : Nat),
     let g := f.pastReads [a]
     let w := (operand s f [a] 0).toNat
     let q := s.variant = .w2q ∧ 5 ≤ w % 16 ∧ w % 16 ≤ 7
     let x := f.acc c
     let y := f.acc k
     let top : Int := 2 ^ 127 - 1
     let onGrid := fun (v : BitVec 128) (grid : Int) => toGrid (decide (v.toInt < 0)) v.toInt.natAbs grid
     let anchor := sextInt 16 w
     let moved := fun (v : BitVec 128) => onGrid v x.anchor anchor
     let anchored : Acc := { x with
       elems := x.elems.map fun e => (e.1, if e.2 = marker then marker else BitVec.ofInt 128 (max (-top) (min top (moved e.2))))
       anchor := anchor
       satFlag := x.satFlag || x.elems.any fun e => decide (e.2 ≠ marker ∧ (top < moved e.2 ∨ moved e.2 < -top)) }
     let sums := x.update (Map.keys x.elems ++ (Map.keys y.elems).filter fun e => !(Map.keys x.elems).contains e)
       fun e => if y.elem e = marker then none else some (onGrid (y.elem e) y.anchor x.anchor)
     (Issues s f 4 → Reads s f [a] →
       (shapeOk w = false → exec (.mshape m a) s = .next (s.takeFault s.focus 0x0B 2 f.pc)) ∧
       (shapeOk w = true → q → exec (.mshape m a) s = .next (s.takeFault s.focus 0x02 2 f.pc)) ∧
       (shapeOk w = true → ¬ q →
         exec (.mshape m a) s = .next (s.went (g.setMreg m { f.mreg m with shape := some w, valid := false })))) ∧
     (MatIssues s f .array false →
       exec (.mzero c) s = .next (s.queues f .array c [] [24 + c] false false s.here (f.setAcc c { emptyAcc with anchor := x.anchor })) ∧
       (Reads s f [a] → exec (.manch c a) s = .next (s.queues f .array c [24 + c] [24 + c] false
         (x.elems.any fun e => decide (e.2 ≠ marker ∧ (top < moved e.2 ∨ moved e.2 < -top))) s.here (g.setAcc c anchored))) ∧
       exec (.madda c k) s = .next (s.queues f .array c [24 + c, 24 + k] [24 + c] false sums.2 s.here (f.setAcc c sums.1))) ∧
     (Issues s f 4 →
       let pending := s.here.matOps.any fun o => o.defs.contains (24 + c)
       let i := (f.sreg d).toNat
       let e := (x.elem (i % 1024)).toNat
       (Accepts s f d → pending = false → exec (.mflags c d) s = .next (s.wrote f [] d (BitVec.ofNat 64
         (wrapInt 16 x.anchor + (if x.satFlag then 2 ^ 16 else 0) + (if x.invFlag then 2 ^ 17 else 0))))) ∧
       (Accepts s f d → pending = true → exec (.mflags c d) s = .next (s.setWaiting s.focus f (.accumulator c))) ∧
       (24 ≤ d → exec (.mread c d) s = .next (s.takeFault s.focus 0x06 2 f.pc)) ∧
       (d < 24 → pending = false → exec (.mread c d) s =
         .next (s.wrote f [] d (BitVec.ofNat 64 (if i / 2 ^ 10 % 2 = 1 then e / 2 ^ 64 else e % 2 ^ 64)))) ∧
       (d < 24 → pending = true → exec (.mread c d) s = .next (s.setWaiting s.focus f (.accumulator c))))) ∧
  (∀ (s : State) (f : Firing) (m a : Nat), Reads s f [a] →
     let addr := (operand s f [a] 0).toNat
     let g := f.pastReads [a]
     let reg := f.mreg m
     let h := reg.sh
     let rows := (List.range h.nr).map fun r => (addr + r * h.p, h.rb)
     let turned := (List.range h.nr).flatMap fun r => (List.range h.nc).map fun c =>
       let x := addr + c * h.pT + r * (h.cb / 8)
       (swz (x - x % 4) + x % 4, h.cb / 8)
     let touched := fun ranges : List (Nat × Nat) => ranges.flatMap fun r => wordsTouched r.1 r.2
     let bytes := fun ranges : List (Nat × Nat) => (ranges.flatMap fun r => chunks 4 r.1 r.2).flatMap fun p =>
       s.here.bytesAt (s.corePlace (p.1 / 4 * 4) 4) p.1 p.2
     let read := fun ranges => s.coreRead (touched ranges).eraseDups 4
     let named := fun x : Nat => x < 0x300000 ∨ (0x3FD000 ≤ x ∧ x < 0x3FE800) ∨ (0x3FF000 ≤ x ∧ x < 0x3FF100)
     let checked := fun (i : Instr) (serial store : Bool) (suits : Prop) (ranges : List (Nat × Nat)) =>
       MatIssues s f .transfer serial →
         let ws := touched ranges
         let raises := fun cause => exec i s = .next (s.takeFault s.focus cause 2 addr)
         let inNamed := ∀ w ∈ ws, named w
         let inSram := ∀ w ∈ ws, w < 0x300000
         let owned := ∀ w ∈ ws, ownerAllows (s.here.place s.focus w) f.slot ((s.actor f).cls == 2) store = true
         (¬ suits → raises 0x0B) ∧ (suits → ¬ inNamed → raises 0x04) ∧ (suits → inNamed → addr % 4 ≠ 0 → raises 0x03) ∧
         (suits → addr % 4 = 0 → inNamed → ¬ inSram → raises 0x05) ∧ (suits → addr % 4 = 0 → inSram → ¬ owned → raises 0x11) ∧
         (suits → addr % 4 = 0 → inSram → owned → store = true →
           (∃ r ∈ ranges, touchesBarrier s.here.barriers r.1 r.2 = true) → raises 0x19) ∧
         (suits → addr % 4 = 0 → inSram → owned → store = false → ∀ before w after v, ws = before ++ w :: after →
           (∀ u ∈ before, s.here.badWord u 4 = none) → s.here.badWord w 4 = some v → exec i s = .next (s.takeBadWord s.focus v 2 addr))
     let turns := (h.cb = 8 ∨ h.cb = 16) ∧ h.mode = 0 ∧ h.nc ≤ 512
     let takes := fun (i : Instr) (serial : Bool) (defs : List Nat) (ranges : List (Nat × Nat)) (v : MatReg) =>
       MatIssues s f .transfer serial → TransferOk s f false ranges →
         exec i s = .next (s.queues f .transfer 0 [] defs serial false (read ranges) (g.setMreg m v))
     let nb := h.k / 32
     let scaleRange := [(addr, 4 * (h.lines * nb))]
     let scales := bytesWords (bytes scaleRange)
     let indexRange := [(addr, h.nr * h.sc)]
     let index := bytes indexRange
     checked (.mld m a) false false (reg.shape ≠ none) rows ∧ checked (.mldT m a) false false (reg.shape ≠ none ∧ turns) turned ∧
     checked (.mst m a) false true (reg.shape ≠ none) rows ∧ checked (.mlds m a) false false (reg.shape ≠ none ∧ h.mode = 1) scaleRange ∧
     checked (.mldx m a) true false (reg.shape ≠ none ∧ h.mode = 2) indexRange ∧
     (MatIssues s f .transfer true → TransferOk s f false indexRange → reg.shape ≠ none → addr % 4 = 0 → h.mode = 2 →
       (∃ r < h.nr, indexRowOk h.n (((index.drop (r * h.sc)).take h.sc).map BitVec.toNat) = false) →
         exec (.mldx m a) s = .next (s.takeFault s.focus 0x0B 2 addr)) ∧
     (reg.shape ≠ none → addr % 4 = 0 →
       takes (.mld m a) false [m] rows (reg.fill (bytes rows)) ∧
       (turns → takes (.mldT m a) false [m] turned (reg.fill (bytes turned))) ∧
       (h.mode = 1 → takes (.mlds m a) false [8 + m] scaleRange { reg with
         scales := (List.range (h.lines * nb)).foldl (fun sc i => Map.set sc (16 * (i / nb) + i % nb) (scales.getD i 0 % 2 ^ 20)) reg.scales }) ∧
       (h.mode = 2 → (∀ r < h.nr, indexRowOk h.n (((index.drop (r * h.sc)).take h.sc).map BitVec.toNat) = true) →
         takes (.mldx m a) true [16 + m] indexRange { reg with
           index := (index.zipIdx.map fun e => (e.2, e.1)) ++ reg.index.filter fun e => decide (index.length ≤ e.1), valid := true }) ∧
       (MatIssues s f .transfer false → TransferOk s f true rows →
         let c := (List.range h.nr).foldl (fun c r =>
           c.storeWords s.here.coreSeen (addr + r * h.p) ((reg.bytes (r * h.rb) h.rb).map fun b => if h.fmt = 5 ∨ h.fmt = 6 then b &&& 0x3F#8 else b))
           (s.ctxOf g)
         exec (.mst m a) s = .next (s.queues f .transfer 0 [m] [] false false c.x c.f))))

/-- R257, R258, R259, R81: a product adds to every element of the block the grid products of its row and column; a breach of the operand
rules raises 0x0B, and MMA.S raises 0x02 on the W2-Q. R259: row i of a sparse operand holds its stored element t of group g at 48 g + its
index, and a position that no index names adds nothing, whatever stands opposite it. R81, R82: an element takes the sum of its terms,
saturated to 127 bits with the saturation flag; one that is or meets the marker is the marker, with the invalid flag. The unit of their
faults is 2 (log entry 20). The detail of a fault record, where R152 leaves open which of its three contents it is, is the address of the
instruction (log entry 20, DEDUCED). -/
def Obligations.MatrixProductResults : Prop :=
  (∀ (s : State) (f : Firing) (c a b : Nat), MatIssues s f .array false →
     let ma := f.mreg a
     let mb := f.mreg b
     let x := f.acc c
     let rows := ma.rowsA
     let cols := mb.colsB
     let shaped := fun modeA modeB => ma.shape ≠ none ∧ mb.shape ≠ none ∧ ma.sh.roleB = false ∧ mb.sh.roleB = true ∧ ma.sh.mode = modeA ∧
       mb.sh.mode = modeB ∧ fmtClass ma.sh.fmt = fmtClass mb.sh.fmt ∧ ma.sh.k = mb.sh.k
     let multiplies := fun (i : Instr) (uses : List Nat) (scaled : Bool) =>
       let terms := fun e => productTerms ma mb scaled x.anchor (e / 32) (e % 32) (rows.getD (e / 32) []) (cols.getD (e % 32) [])
       let places := (List.range ma.sh.nr).flatMap fun i => (List.range mb.sh.nc).map fun j => 32 * i + j
       let r := x.update places terms
       exec i s = .next (s.queues f .array c ([a, b, 24 + c] ++ uses) [24 + c] false r.2 s.here (f.setAcc c r.1)) ∧
         r.1.anchor = x.anchor ∧ (∀ e < 1024, r.1.elem e =
           if e / 32 < ma.sh.nr ∧ e % 32 < mb.sh.nc then (accStep (x.elem e) (terms e)).1 else x.elem e)
     let breach : Out := .next (s.takeFault s.focus 0x0B 2 f.pc)
     (shaped 0 0 → multiplies (.mma c a b) [] false) ∧ (¬ shaped 0 0 → exec (.mma c a b) s = breach) ∧
     (shaped 1 1 → fmtClass ma.sh.fmt = 1 → multiplies (.mmaQ c a b) [8 + a, 8 + b] true) ∧
     (¬ (shaped 1 1 ∧ fmtClass ma.sh.fmt = 1) → exec (.mmaQ c a b) s = breach) ∧
     (s.variant ≠ .w2q → shaped 2 0 → ma.valid = true → fmtClass ma.sh.fmt ≠ 0 → multiplies (.mmaS c a b) [16 + a] false) ∧
     (s.variant ≠ .w2q → ¬ (shaped 2 0 ∧ ma.valid = true ∧ fmtClass ma.sh.fmt ≠ 0) → exec (.mmaS c a b) s = breach) ∧
     (s.variant = .w2q → exec (.mmaS c a b) s = .next (s.takeFault s.focus 0x02 2 f.pc))) ∧
  ((∀ (sa sb : Scale) (v : Exact) (anchor : Int), termOf none sa v sb anchor = some 0) ∧
   (∀ (sa sb : Scale) (u v : Exact) (anchor : Int), termOf (some u) sa v sb anchor = gridProduct u sa v sb anchor) ∧
   ∀ (m : MatReg) (i : Nat) (stored : List Exact) (p : Nat), stored.length = m.sh.sc → p < m.sh.nc → 0 < m.sh.n →
     let place := fun t => 48 * (t / m.sh.n) + (Map.get 0 m.index (i * m.sh.sc + t)).toNat % 64
     (m.sparseRow i stored).length = m.sh.nc ∧
     ((∀ t < m.sh.sc, place t ≠ p) → (m.sparseRow i stored)[p]? = some none) ∧
     (∀ t < m.sh.sc, place t = p → (∀ u < m.sh.sc, place u = p → u = t) →
       (m.sparseRow i stored)[p]? = some (some (stored.getD t exactZero)))) ∧
  (∀ (v : BitVec 128) (x : Int),
     let top : Int := 2 ^ 127 - 1
     accStep marker (some x) = (marker, false, true) ∧ accStep v none = (marker, false, true) ∧
     (v ≠ marker → (accStep v (some x)).1.toInt = max (-top) (min top (v.toInt + x)) ∧ (accStep v (some x)).1 ≠ marker ∧
       ((accStep v (some x)).2.1 = true ↔ top < v.toInt + x ∨ v.toInt + x < -top) ∧ (accStep v (some x)).2.2 = false))

/-- R80: a product on the grid is the exact product of elements and scales rounded to a multiple of 2^anchor; a zero block gives 0, and a
NaN block, a NaN or an infinity gives the marker. -/
def Obligations.GridProduct : Prop :=
  ∀ (s1 s2 : Bool) (n1 n2 m1 m2 : Nat) (e1 e2 x1 x2 anchor : Int),
    (∀ (v w : Exact) (p q : Scale), (p = .zero ∨ q = .zero → gridProduct v p w q anchor = some 0) ∧
      (p ≠ .zero → q ≠ .zero → (p = .nan ∨ q = .nan) → gridProduct v p w q anchor = none)) ∧
    (∀ v w : Exact, ((∀ s n d e, v ≠ .fin s n d e) ∨ (∀ s n d e, w ≠ .fin s n d e)) →
      gridProduct v (.mul m1 x1) w (.mul m2 x2) anchor = none) ∧
    ∃ r : Int, gridProduct (.fin s1 n1 1 e1) (.mul m1 x1) (.fin s2 n2 1 e2) (.mul m2 x2) anchor = some r ∧
      let exact : Rat := (if s1 = s2 then 1 else -1) * ((n1 * n2 * m1 * m2 : Nat) : Rat) * (2 : Rat) ^ (e1 + e2 + x1 + x2 - anchor)
      exact - 1 / 2 ≤ r ∧ (r : Rat) ≤ exact + 1 / 2 ∧ ((r : Rat) - 1 / 2 = exact ∨ (r : Rat) + 1 / 2 = exact → r % 2 = 0)

/-- R83, R263, R264, R265: MDRAIN stages a rectangle of the accumulator and MDRAIN.M stores the whole of it, each element rounded to the
format under CW.ROUND with its flags. A format that the variant lacks raises 0x02, a bad word 0x0B; MDRAIN raises 0x0B for rows that are
no whole words and then 0x06 for what its port cannot take, and MDRAIN.M makes the checks of R253 of the words that it stores to. The
detail of MDRAIN.M's faults but 0x02 is the SRAM address (log entry 20). The unit of their faults is 2 (log entry 20, DEDUCED), as R271
counts them all among a matrix instruction's own; that the words are taken at issue is log entry 8. -/
def Obligations.MatrixDrainResults : Prop :=
  ∀ (s : State) (f : Firing) (c a : Nat) (fm : ElemFmt), Reads s f [a] →
    let w := (operand s f [a] 0).toNat
    let g := f.pastReads [a]
    let eb := containerBits fm.code
    let lacks := s.variant = .w2q ∧ (fm = .e3m2 ∨ fm = .e2m3 ∨ fm = .e2m1)
    let x := f.acc c
    let row := fun i j0 n => (List.range n).map fun j => drainElem fm.code f.round x.anchor (x.elem (32 * i + j0 + j))
    let bits := fun (l : List (Nat × Nat)) => (l.zipIdx.map fun e => e.1.1 * 2 ^ (eb * e.2)).sum
    let words := fun (l : List (Nat × Nat)) => (List.range (l.length * eb / 32)).map fun i => BitVec.ofNat 32 (bits l / 2 ^ (32 * i))
    let flagged := fun (h : Firing) (rs : List (List (Nat × Nat))) => { h with fflags := h.fflags ||| allFlags rs.flatten }
    (Issues s f 4 → lacks → exec (.mdrain c a fm) s = .next (s.takeFault s.focus 0x02 2 f.pc) ∧
      exec (.mdrainM c a fm) s = .next (s.takeFault s.focus 0x02 2 f.pc)) ∧
    (MatIssues s f .transfer false → ¬ lacks →
      (let row0 := bitField w 8 5
       let col0 := bitField w 18 5
       let nr := bitField w 13 5 + 1
       let nc := bitField w 23 5 + 1
       let p := w % 8
       let rs := (List.range nr).map fun i => row (row0 + i) col0 nc
       let fits := w < 2 ^ 28 ∧ bitField w 3 5 = 0 ∧ row0 + nr ≤ 32 ∧ col0 + nc ≤ 32 ∧ nc * eb % 32 = 0
       let room := (s.actor f).outDecl p = true ∧ f.stagedCount p + nr * nc * eb / 32 ≤ (s.actor f).outMax p * (s.actor f).outWidth p
       (¬ fits → exec (.mdrain c a fm) s = .next (s.takeFault s.focus 0x0B 2 f.pc)) ∧
       (fits → ¬ room → exec (.mdrain c a fm) s = .next (s.takeFault s.focus 0x06 2 f.pc)) ∧
       (fits → room → exec (.mdrain c a fm) s = .next (s.queues f .transfer c [24 + c] [] false false s.here
           (flagged (g.stage p (rs.flatMap words)) rs)))) ∧
      (let addr := w % 2 ^ 22
       let p := if bitField w 32 20 = 0 then 4 * eb else bitField w 32 20
       let rs := (List.range 32).map fun i => row i 0 32
       let k := rs.zipIdx.foldl (fun k e => k.storeWords s.here.coreSeen (addr + e.2 * p) (leBytes (4 * eb) (bits e.1))) (s.ctxOf g)
       let ranges := (List.range 32).map fun i => (addr + i * p, 4 * eb)
       let ws := ranges.flatMap fun r => wordsTouched r.1 r.2
       let fits := bitField w 22 10 = 0 ∧ bitField w 52 12 = 0 ∧ 4 * eb ≤ p
       let aligned := addr % 4 = 0 ∧ p % 4 = 0
       let inNamed := ∀ x ∈ ws, x < 0x300000 ∨ (0x3FD000 ≤ x ∧ x < 0x3FE800) ∨ (0x3FF000 ≤ x ∧ x < 0x3FF100)
       let inSram := ∀ x ∈ ws, x < 0x300000
       let owned := ∀ x ∈ ws, ownerAllows (s.here.place s.focus x) f.slot ((s.actor f).cls == 2) true = true
       let raises := fun cause => exec (.mdrainM c a fm) s = .next (s.takeFault s.focus cause 2 addr)
       (¬ fits → raises 0x0B) ∧ (fits → ¬ inNamed → raises 0x04) ∧ (fits → inNamed → ¬ aligned → raises 0x03) ∧
       (fits → aligned → inNamed → ¬ inSram → raises 0x05) ∧ (fits → aligned → inSram → ¬ owned → raises 0x11) ∧
       (fits → aligned → inSram → owned → (∃ r ∈ ranges, touchesBarrier s.here.barriers r.1 r.2 = true) → raises 0x19) ∧
       (fits → aligned → TransferOk s f true ranges →
         exec (.mdrainM c a fm) s = .next (s.queues f .transfer c [24 + c] [] false false k.x (flagged k.f rs)))))

/-- R266, R267, R272 to R274, R361: the oldest instruction of a pipe starts when what it reads is settled, on an idle array only after a
grant, and on one about to leave by taking its request back; it leaves the queue when it completes, is logged while the core is halted,
and only a clamped one under SATF changes more, by fault 0x0C; the governor of a field grants its oldest request, at most 256 in 1,000
counts. -/
def Obligations.MatrixTiming : Prop :=
  ∀ (s : State) (t field : Nat) (pipe : MPipe),
    let x := s.tile t;
    (x.nextMatOp pipe = none → exec (.matrixStart t pipe) s = .next s) ∧
    (∀ i ∈ x.nextMatOp pipe, ∀ o ∈ x.matOps[i]?,
      let started := x.matOps.modify i fun o => { o with started := true };
      (o.free (x.matOps.take i) = false → exec (.matrixStart t pipe) s = .next s) ∧
      (o.free (x.matOps.take i) = true → pipe = .array → x.array = .idle →
        exec (.matrixStart t pipe) s = .next { s.setTile t { x with array := .waiting } with requests := s.requests ++ [t] }) ∧
      (o.free (x.matOps.take i) = true → pipe = .array → x.array = .waiting → exec (.matrixStart t pipe) s = .next s) ∧
      (o.free (x.matOps.take i) = true → pipe = .array → x.array = .leaving →
        exec (.matrixStart t pipe) s =
          .next { s.setTile t { x with matOps := started, array := .active } with requests := s.requests.filter fun r => !(r == t) }) ∧
      (o.free (x.matOps.take i) = true → (pipe = .transfer ∨ x.array = .active ∨ x.array = .ramping) →
        exec (.matrixStart t pipe) s = .next (s.setTile t { x with matOps := started }))) ∧
    (∀ i ∈ x.matOps.findIdx? (fun o => o.pipe == pipe && o.started), ∀ o ∈ x.matOps[i]?, ∀ f ∈ x.firing,
      (o.clamped = false → Answers (exec (.matrixComplete t pipe) s) fun u =>
        (u.tile t).matOps = x.matOps.eraseIdx i ∧ (u.tile t).firing = some f ∧ (u.tile t).sram = x.sram) ∧
      (o.clamped = true → Answers (exec (.matrixComplete t pipe) s) fun u =>
        (u.slot t f.slot).lastCause = 0x0C ∧ (u.tile t).firing = none)) ∧
    (x.matOps.findIdx? (fun o => o.pipe == pipe && o.started) = none → exec (.matrixComplete t pipe) s = .next s) ∧
    (let quiet := (∀ o ∈ x.matOps, o.pipe ≠ .array) ∧ (x.array = .active ∨ x.array = .ramping);
      (quiet → exec (.arrayIdle t) s = .next { s.setTile t { x with array := .leaving } with requests := s.requests ++ [t] }) ∧
      (¬ quiet → exec (.arrayIdle t) s = .next s)) ∧
    (let s1 := s.advanceField field
      let now := Map.get 0 s1.fieldCtr field
      let recent := (Map.get [] s1.grants field).filter fun g => decide (now < g + 1000);
      (∀ q ∈ s1.requests.find? (fun q => s1.fieldOf q == field),
        (recent.length < 256 → Answers (exec (.activityGrant field) s) fun u =>
          u.requests = s.requests.erase q ∧ Map.get [] u.grants field = now :: recent ∧
          ((s.tile q).array = .waiting → (u.tile q).array = .ramping) ∧ ((s.tile q).array = .leaving → (u.tile q).array = .idle)) ∧
        (256 ≤ recent.length → exec (.activityGrant field) s = .next s1)) ∧
      (s1.requests.find? (fun q => s1.fieldOf q == field) = none → exec (.activityGrant field) s = .next s1)) ∧
    (let s1 := s.advanceField (s.fieldOf t)
      let over_ := x.array = .ramping ∧ x.rampFrom + 1000 ≤ Map.get 0 s1.fieldCtr (s.fieldOf t);
      (over_ → exec (.rampEnd t) s = .next (s1.setTile t { x with array := .active })) ∧ (¬ over_ → exec (.rampEnd t) s = .next s1))

/-! ### Streams, copies, messages and synchronisation -/

/-- R285, R286: SCFG sets an endpoint, with role src after it clears the record but for its start count, and SDIM a level of the nest; the
stream is then configured and owned by the running slot; a number that is not granted raises 0x11, a busy stream 0x13. R287, R288, R289,
R290: SGO starts a stream that passes its checks or defers it, and waits for an inbox entry; SSTOP stops or cancels it; SSTAT reads its
state; SBAR holds back the next start of the streams it names, and never waits. The detail of a fault record, where R152 leaves open which
of its three contents it is, is the address of the instruction (log entry 20, DEDUCED). -/
def Obligations.StreamInstructionResults : Prop :=
  (∀ (s : State) (f : Firing) (d a l i : Nat) (kind : EpKind) (fm : ElemFmt), Issues s f 8 → Reads s f [a] → l < 4 → i < 2 ^ 32 →
     let x := s.here
     let k := x.strBase f.slot + d
     let r := x.stream k
     let v := (operand s f [a] 0).toNat
     let g := { f.pastReads [a] with evpend := if strState r = 1 then f.evpend else f.evpend ||| 32 }
     let done := fun r' : Words => (Host.Outcome.next (s.after (x.setStream k r') (g.complete 8)) : Out)
     let srcWord := kind.code + 4 * fm.code + 64
     let first := setStrState (Words.setField (Words.setWord (Words.setWord (Words.setDword (clearedRecord r) 2 v) 6 srcWord) 7 i) 0 16 5 f.slot) 1
     let second := setStrState (Words.setField (Words.setWord (Words.setWord (Words.setDword r 4 v) 8 srcWord) 9 i) 0 16 5 f.slot) 1
     let level := setStrState (Words.setWord (Words.setWord r (10 + 2 * l) (v % 2 ^ 24)) (11 + 2 * l) i) 1
     (x.strCount f.slot ≤ d → ∀ j ∈ [Instr.scfg d a .src kind fm i, .scfg d a .dst kind fm i, .sdim d a l i],
       exec j s = .next (s.takeFault s.focus 0x11 0 f.pc)) ∧
     (d < x.strCount f.slot → 2 ≤ strState r → ∀ j ∈ [Instr.scfg d a .src kind fm i, .scfg d a .dst kind fm i, .sdim d a l i],
       exec j s = .next (s.takeFault s.focus 0x13 0 f.pc)) ∧
     (d < x.strCount f.slot → strState r < 2 →
       exec (.scfg d a .src kind fm i) s = done first ∧ exec (.scfg d a .dst kind fm i) s = done second ∧
       exec (.sdim d a l i) s = done level) ∧
     (strState first = 1 ∧ strOwner first = f.slot % 32 ∧ strStart first = strStart r ∧ strSrcBase first = v ∧ strSrcKind first = kind.code ∧
       strSrcFmt first = fm.code ∧ strSrcSet first = true ∧ strSrcParam first = i ∧ strDstSet first = false ∧
       (∀ j < 4, strCount first j = 1 ∧ strStride first j = 0)) ∧
     (strState second = 1 ∧ strOwner second = f.slot % 32 ∧ strDstBase second = v ∧ strDstKind second = kind.code ∧ strDstFmt second = fm.code ∧
       strDstSet second = true ∧ strDstParam second = i ∧ strSrcBase second = strSrcBase r ∧ strSrcSet second = strSrcSet r) ∧
     (strState level = 1 ∧ strCount level l = v % 2 ^ 24 ∧ strStride level l = sextInt 32 i)) ∧
  (∀ (s : State) (f : Firing) (d a : Nat), Issues s f 4 →
     let x := s.here
     let base := x.strBase f.slot
     let count := x.strCount f.slot
     let k := base + a
     let r := x.stream k
     let cause := sgoCause (s.ctxOf f) k
     let late := (s.actor f).cls ≠ 2 ∧ (strDstKind r = 1 ∨ strDstKind r = 2 ∨ strSrcKind r = 2)
     (count ≤ a → exec (.sgo a) s = .next (s.takeFault s.focus 0x11 0 f.pc) ∧ exec (.sstop a) s = .next (s.takeFault s.focus 0x11 0 f.pc)) ∧
     (a < count → cause ≠ 0 → exec (.sgo a) s = .next (s.takeFault s.focus cause 0 f.pc)) ∧
     (a < count → cause = 0 → x.freeEntryNo = none → exec (.sgo a) s = .next (s.setWaiting s.focus f .inboxEntry)) ∧
     (∀ e ∈ x.freeEntryNo, a < count → cause = 0 → Answers (exec (.sgo a) s) fun t =>
       let y := t.here
       strState (y.stream k) = (if late then 4 else 2) ∧ strStart (y.stream k) = (strStart r + 1) % 2 ^ 32 ∧
         strPerformed (y.stream k) = 0 ∧ (y.entry e).state = .reserved ∧ (y.entry e).owner = f.slot ∧ (y.run k).eng.entry = e ∧
         (y.run k).eng.attempt = f.uid ∧ (y.run k).eng.swatch = (s.actor f).swatch ∧ (y.run k).eng.scope = (s.actor f).scopeNo ∧
         (y.run k).eng.reach = x.issueReach ∧ (y.run k).sbar = Map.get [] x.barred k ∧
         y.firing.map (·.deferred) = some (if late then f.deferred ++ [Deferred.stream k] else f.deferred)) ∧
     (a < count → strState r = 4 → Answers (exec (.sstop a) s) fun t => strState (t.here.stream k) = 1 ∧
       (t.here.entry (x.run k).eng.entry).state = .free ∧ t.here.firing.map (·.deferred) = some (f.deferred.filter (· ≠ Deferred.stream k))) ∧
     (a < count → strState r ≠ 4 → exec (.sstop a) s = .next ((s.stopStream s.focus k 0x80 false).onward f)) ∧
     (strState r = 2 → strState ((s.stopStream s.focus k 0x80 false).here.stream k) = 5 ∧
       ((s.stopStream s.focus k 0x80 false).here.run k).stopStatus = 0x80) ∧
     (strState r = 3 → strState ((s.stopStream s.focus k 0x80 false).here.stream k) = 0 ∧
       strLstat ((s.stopStream s.focus k 0x80 false).here.stream k) = 0x80) ∧
     (strState r ≠ 2 → strState r ≠ 3 → s.stopStream s.focus k 0x80 false = s) ∧
     (Accepts s f d →
       (count ≤ a → exec (.sstat d a) s = .next (s.takeFault s.focus 0x11 0 f.pc)) ∧
       (a < count → exec (.sstat d a) s = .next (s.wrote f [] d
         (BitVec.ofNat 64 (strState r + strLstat r * 2 ^ 8 + strPerformed r % 2 ^ 48 * 2 ^ 16))))) ∧
     (Reads s f [a] →
       let live := ((List.range count).filter fun j => decide (2 ≤ strState (x.stream (base + j)))).map fun j =>
         (base + j, strStart (x.stream (base + j)))
       let named := fun j => decide (base ≤ j ∧ j < base + count ∧ j < base + 16) && (operand s f [a] 0).getLsbD (j - base)
       Answers (exec (.sbar a) s) fun t => t.here.firing.map (·.pc) = some (f.complete 4).pc ∧ ∀ j < 16,
         Map.get [] t.here.barred j = (if named j then Map.get [] x.barred j ++ live else Map.get [] x.barred j) ∧
         (t.here.run j).sbar = (if named j ∧ (x.run j).sbar ≠ [] then (x.run j).sbar ++ live.filter (·.1 ≠ j) else (x.run j).sbar) ∧
         Words.field (t.here.stream j) 0 7 1 = (if named j ∧ live ≠ [] then 1 else Words.field (x.stream j) 0 7 1) ∧
         strState (t.here.stream j) = strState (x.stream j)))

/-- R291, R292, R293: COPY and CREQ raise the cause of a bad request, wait for an inbox entry, or issue the copy, deferred where a firing
that is not direct writes DRAM. R129, R132, R309: SEND stages a message of sixteen words; MSGTAKE takes the oldest full entry or gives
zeros, MSGDROP takes it without waiting, MSGCNT counts them, and WAITMSG and MSGTAKE wait while none is full and one is reserved. The
detail of a fault record, where R152 leaves open which of its three contents it is, is the address of the instruction (log entry 20,
DEDUCED). -/
def Obligations.CopyAndMessageResults : Prop :=
  (∀ (s : State) (f : Firing) (d a b i v : Nat),
     let x := s.here
     let direct := (s.actor f).cls == 2
     let issues := fun (j : Instr) (g : Firing) (len kind src dst n tag cause : Nat) =>
       (cause ≠ 0 → exec j s = .next (s.takeFault s.focus cause 0 f.pc)) ∧
       (cause = 0 → x.freeEntryNo = none → exec j s = .next (s.setWaiting s.focus f .inboxEntry)) ∧
       (∀ e ∈ x.freeEntryNo, cause = 0 →
         let wait := !direct && copyDram dst
         let c : Copy := { id := x.nextOp, slot := f.slot, kind := kind, src := src, dst := dst, len := n, tag := tag, packet := [], begun := 0,
                           done := 0, deferred := wait, paused := false, status := 0,
                           eng := { emptyEngine with
                                    attempt := f.uid, entry := e, swatch := (s.actor f).swatch, scope := (s.actor f).scopeNo,
                                    reach := x.issueReach } }
         exec j s = .next (s.after { x.reserve f.slot e (s.actor f).swatch with copies := x.copies ++ [c], nextOp := x.nextOp + 1 }
           (Firing.complete (if wait then { g with deferred := f.deferred ++ [Deferred.copy x.nextOp] } else g) len)))
     (Issues s f 8 → Reads s f [a, b, d] →
       let A := (operand s f [a, b, d] 0).toNat
       let B := (operand s f [a, b, d] 1).toNat
       let D := (operand s f [a, b, d] 2).toNat
       issues (.copy d a b i) (f.pastReads [a, b, d]) 8 0x02 A D B i
         (if 2 ^ 24 ≤ B then 0x14 else copyCause x s.focus f.slot direct A D B)) ∧
     (Issues s f 4 →
       let w := fun j => f.laneNat v j
       let src := w 0 + 2 ^ 32 * w 1
       let dst := w 2 + 2 ^ 32 * w 3
       issues (.creq v) f 4 0x03 src dst (w 4) (w 5)
         (if 2 ^ 24 ≤ w 4 ∨ w 6 ≠ 0 ∨ w 7 ≠ 0 then 0x14 else copyCause x s.focus f.slot direct src dst (w 4)))) ∧
  (∀ (s : State) (f : Firing) (d a tag i : Nat),
     let x := s.here
     let oldest := (s.ctxOf f).oldestMessage
     let taken := fun e => (x.setEntry e { x.entry e with state := .taken }).acquire (x.entry e).reach
     (Issues s f 8 → Reads s f [a] →
       let A := (operand s f [a] 0).toNat % 2 ^ 32
       let raises := fun cause => exec (.send d a tag i) s = .next (s.takeFault s.focus cause 0 f.pc)
       (((s.swatch (s.actor f).swatch).rel s.focus A) = none → raises 0x11) ∧
       (∀ dst ∈ (s.swatch (s.actor f).swatch).rel s.focus A,
         (i % 4 ≠ 0 → raises 0x03) ∧ (i % 4 = 0 → 0x300000 ≤ i → raises 0x04) ∧
         (i % 4 = 0 → i < 0x300000 → 16 ≤ f.messages.length → raises 0x06) ∧
         (i % 4 = 0 → i < 0x300000 → f.messages.length < 16 →
           exec (.send d a tag i) s = .next (s.after x ({ f.pastReads [a] with messages := f.messages ++ [Staged.message dst
             ([BitVec.ofNat 32 i, BitVec.ofNat 32 (0x40 + 2 ^ 24 * f.slot), BitVec.ofNat 32 (tag % 2 ^ 16),
               BitVec.ofNat 32 (packRel (-(sextInt 16 A)) (-(sextInt 16 (A / 2 ^ 16))))] ++
               (List.range 12).map (lane (f.vreg d)))] }.complete 8))))) ∧
     (Issues s f 4 →
       let waits := oldest = none ∧ x.entries f.slot .reserved ≠ []
       (waits → exec .waitmsg s = .next (s.setWaiting s.focus f .message) ∧ exec (.msgtake d) s = .next (s.setWaiting s.focus f .message)) ∧
       (¬ waits → exec .waitmsg s = .next (s.went f)) ∧
       (oldest = none → exec .msgdrop s = .next (s.went f)) ∧
       (oldest = none → x.entries f.slot .reserved = [] → exec (.msgtake d) s = .next (s.went (f.writeV d (List.replicate 16 0)))) ∧
       (∀ e ∈ oldest, exec .msgdrop s = .next (s.after (taken e) (f.complete 4)) ∧
         exec (.msgtake d) s = .next (s.after (taken e) ((f.writeV d ((List.range 16).map fun j => (x.entry e).words.getD j 0)).complete 4))) ∧
       (Accepts s f d → exec (.msgcnt d) s = .next (s.wrote f [] d (BitVec.ofNat 64 (x.entries f.slot .full).length)))))

/-- R312, R314: the semaphore instructions on the effective value, which staged changes of the firing adjust; a change is applied at once
in a direct firing and staged in any other; SEMINC raises 0x1A beyond 32 bits, and SEMDEC and SEMWAIT wait for enough. R223, R224, R317,
R318, R319, R321, R322, R400: the barrier instructions. A change is staged unless the firing is direct; the checks come in the order
alignment 0x03, range 0x04, live 0x19, owner's tag 0x11, words of the slot that can be read, not failed 0x18. R315, R316, R318, R320,
R321, R322: what a change does to the slot's words: BINIT makes it live with EXPECT, an arrival counts or is an over-arrival that fails
the slot, a phase completes when all have arrived and XBYTES is 0, BEXP moves XBYTES, BRET clears the words. The detail of a fault record,
where R152 leaves open which of its three contents it is, is the address of the instruction (log entry 20, DEDUCED). -/
def Obligations.SemaphoreAndBarrierResults : Prop :=
  (∀ (s : State) (f : Firing) (d a b : Nat), Issues s f 4 →
     let x := s.here
     let k := x.semBase f.slot + b
     let v := semEffective x f k
     let direct := (s.actor f).cls = 2
     let changed := fun (g : Firing) (n : Nat) (ch : SemChange) => (Host.Outcome.next
       (if direct then s.after (x.setSem k n) (g.complete 4) else s.went { g with semChanges := f.semChanges ++ [ch] }) : Out)
     let raises := fun (i : Instr) cause => exec i s = .next (s.takeFault s.focus cause 0 f.pc)
     (Reads s f [a] →
       let n := (operand s f [a] 0).toNat % 2 ^ 32
       let g := f.pastReads [a]
       (x.semCount f.slot ≤ b → ∀ i ∈ [Instr.seminc a b, .semdec a b, .semwait a b, .semset a b], raises i 0x11) ∧
       (b < x.semCount f.slot →
         (v + n < 2 ^ 32 → exec (.seminc a b) s = changed g (v + n) (.add k n)) ∧
         (2 ^ 32 ≤ v + n → raises (.seminc a b) 0x1A) ∧
         (n ≤ v → exec (.semdec a b) s = changed g (v - n) (.sub k n) ∧ exec (.semwait a b) s = .next (s.went g)) ∧
         (v < n → exec (.semdec a b) s = .next (s.setWaiting s.focus f (.semaphore k n)) ∧
           exec (.semwait a b) s = .next (s.setWaiting s.focus f (.semaphore k n))) ∧
         exec (.semset a b) s = changed g n (.set k n))) ∧
     (Accepts s f d → (x.semCount f.slot ≤ b → raises (.semrd d b) 0x11) ∧
       (b < x.semCount f.slot → exec (.semrd d b) s = .next (s.wrote f [] d (BitVec.ofNat 64 v))))) ∧
  (∀ (s : State) (f : Firing) (d a b : Nat), Issues s f 4 →
     let x := s.here
     let staged := stagedBarriers f.slot x.barriers f.barChanges
     let tagOf := fun k => (x.slot k).tag
     let tag := (s.actor f).tag
     let direct := (s.actor f).cls = 2
     let fresh := fun y => f.barChanges.any fun ch => match ch with | .init z _ => z == y | _ => false
     let failed := fun y => (x.barrier y).failed = true ∧ fresh y = false
     let live := fun y => x.barriers.any fun b => b.1 == y
     let read := fun y => if live y then x.correct y 16 else x
     let changed := fun (z : Tile) (g : Firing) (ch : BarChange) => (Host.Outcome.next (if direct then
       ((s.setTile s.focus { z with firing := some g }).applyBarChange s.focus f.slot tag ch).onward g
       else s.after z ({ g with barChanges := f.barChanges ++ [ch] }.complete 4)) : Out)
     let raises := fun (i : Instr) cause => exec i s = .next (s.takeFault s.focus cause 0 f.pc)
     let placed := fun (i : Instr) (y : Nat) => (y % 16 ≠ 0 → raises i 0x03) ∧ (y % 16 = 0 → 0x2FFFF0 < y → raises i 0x04)
     let named := fun (i : Instr) (bars : List (Nat × Nat)) (y : Nat) (ok : Prop) =>
       y % 16 = 0 → y ≤ 0x2FFFF0 → ((bars.find? fun e => e.1 == y) = none → raises i 0x19) ∧
         (∀ e ∈ bars.find? fun e => e.1 == y, (tagOf e.2 ≠ tag → raises i 0x11) ∧ (tagOf e.2 = tag →
           (live y = true → ∀ w ∈ x.badWord y 16, exec i s = .next (s.takeBadWord s.focus w 8 y)) ∧
           ((live y = true → x.badWord y 16 = none) → ok)))
     (Reads s f [a, b] →
       let y := (operand s f [a, b] 0).toNat
       let B := (operand s f [a, b] 1).toNat
       let g := f.pastReads [a, b]
       let inside := withinWindow (x.swin f.slot) y 16 = true ∨ (direct ∧ withinWindow (x.pwin f.slot) y 16 = true)
       let n := (x.barrier y).xbytes + sextInt 32 B
       (∀ i ∈ [Instr.binit a b, .bexp a b, .bwait a b], placed i y) ∧
       (y % 16 = 0 → y ≤ 0x2FFFF0 → ¬ inside → raises (.binit a b) 0x11) ∧
       (y % 16 = 0 → y ≤ 0x2FFFF0 → inside → ((∃ e ∈ staged, e.1 = y) ∨ 64 ≤ staged.length) → raises (.binit a b) 0x19) ∧
       (y % 16 = 0 → y ≤ 0x2FFFF0 → inside → (∀ e ∈ staged, e.1 ≠ y) → staged.length < 64 →
         exec (.binit a b) s = changed x g (.init y (B % 2 ^ 24))) ∧
       named (.bexp a b) staged y ((failed y → raises (.bexp a b) 0x18) ∧
         (¬ failed y → direct → (n < -(2 ^ 31) ∨ 2 ^ 31 - 1 < n) → raises (.bexp a b) 0x19) ∧
         (¬ failed y → ¬ (direct ∧ (n < -(2 ^ 31) ∨ 2 ^ 31 - 1 < n)) → exec (.bexp a b) s = changed (read y) g (.exp y (B % 2 ^ 32)))) ∧
       named (.bwait a b) x.barriers y (
         ((x.barrier y).failed = true → raises (.bwait a b) 0x18) ∧
         ((x.barrier y).failed = false → (x.barrier y).phase = B % 256 →
           exec (.bwait a b) s = .next (s.setWaiting s.focus f (.barrier y (B % 256)))) ∧
         ((x.barrier y).failed = false → (x.barrier y).phase ≠ B % 256 →
           exec (.bwait a b) s = .next (s.after ((read y).seePhase y) (g.complete 4)))) ∧
       (Accepts s f d → placed (.btest d a b) y ∧ named (.btest d a b) x.barriers y (
         ((x.barrier y).failed = true → raises (.btest d a b) 0x18) ∧
         ((x.barrier y).failed = false →
           let ended := (x.barrier y).phase ≠ B % 256
           exec (.btest d a b) s = .next (s.after (if ended then (read y).seePhase y else read y) ((g.writeReg d (BitVec.ofNat 64
             ((x.barrier y).arrived + 2 ^ 24 * (x.barrier y).phase + if ended then 2 ^ 32 else 0))).complete 4)))))) ∧
     (Reads s f [a] →
       let y := (operand s f [a] 0).toNat
       placed (.bret a) y ∧
       (y % 16 = 0 → y ≤ 0x2FFFF0 → (staged.find? fun e => e.1 == y).map (·.2) ≠ some f.slot → raises (.bret a) 0x19) ∧
       (y % 16 = 0 → y ≤ 0x2FFFF0 → (staged.find? fun e => e.1 == y).map (·.2) = some f.slot →
         exec (.bret a) s = changed x (f.pastReads [a]) (.ret y))) ∧
     (Reads s f [a, b, d] →
       let y := (operand s f [a, b, d] 0).toNat
       let phase := (operand s f [a, b, d] 1).toNat % 256
       let D := (operand s f [a, b, d] 2).toNat % 2 ^ 32
       let g := f.pastReads [a, b, d]
       let after := fun drop => (s.setTile s.focus { read y with firing := some g }).barArrive s.focus y phase drop false
       let arrives := fun (i : Instr) (drop : Bool) =>
         placed i y ∧
         (y % 16 = 0 → y ≤ 0x2FFFF0 → (s.swatch (s.actor f).swatch).rel s.focus D = none → raises i 0x11) ∧
         (∀ t ∈ (s.swatch (s.actor f).swatch).rel s.focus D,
           (D = 0 → named i staged y ((failed y → raises i 0x18) ∧
             (¬ failed y → direct → (after drop).2 = false → exec i s = .next ((after drop).1.onward g)) ∧
             (¬ failed y → direct → (after drop).2 = true → exec i s = .next ((after drop).1.takeFault s.focus 0x18 0 f.pc)) ∧
             (¬ failed y → ¬ direct → exec i s =
               .next (s.after (read y) ({ g with barChanges := f.barChanges ++ [BarChange.arrive y phase drop] }.complete 4))))) ∧
           (y % 16 = 0 → y ≤ 0x2FFFF0 → D ≠ 0 → 16 ≤ f.messages.length → raises i 0x06) ∧
           (y % 16 = 0 → y ≤ 0x2FFFF0 → D ≠ 0 → f.messages.length < 16 →
             exec i s = .next (s.went { g with messages := f.messages ++ [Staged.arrival t y phase drop] })))
       arrives (.arrive d a b) false ∧ arrives (.arrivedrop d a b) true)) ∧
  (∀ (s : State) (t k a phase n : Nat) (drop : Bool) (y : Int), n < 2 ^ 24 →
     let b := (s.tile t).barrier a
     let read := fun u : State => (u.tile t).barrier a
     let up : Barrier := { b with arrived := b.arrived + 1, drops := if drop then b.drops + 1 else b.drops }
     let due : Barrier → Barrier := fun c => if c.arrived = c.expect ∧ 0 < c.expect ∧ c.xbytes = 0 then
       { c with phase := (c.phase + 1) % 256, arrived := 0, expect := c.expect - c.drops, drops := 0 } else c
     let live := ((s.tile t).barriers.find? fun e => e.1 == a).isSome = true
     (read (s.barInit t k a n) = { failed := false, expect := n, phase := 0, arrived := 0, xbytes := 0, drops := 0 } ∧
       ((s.barInit t k a n).tile t).barriers = (s.tile t).barriers ++ [(a, k)]) ∧
     (live → phase = b.phase → b.expect ≠ 0 → b.arrived < b.expect → b.drops < b.expect →
       (s.barArrive t a phase drop false).2 = false ∧ read (s.barArrive t a phase drop false).1 = due up) ∧
     (live → (phase ≠ b.phase ∨ b.expect = 0 ∨ b.arrived = b.expect) →
       (s.barArrive t a phase drop false).2 = true ∧ read (s.barArrive t a phase drop false).1 = { b with failed := true }) ∧
     (live → b.failed = false → b.drops ≤ b.expect → -(2 ^ 31) ≤ b.xbytes + y → b.xbytes + y ≤ 2 ^ 31 - 1 →
       read (s.barExp t a y) = due { b with xbytes := b.xbytes + y }) ∧
     ((∀ i < 16, Memory.read ((s.barRet t a).tile t).sram (a + i) = 0) ∧
       ∀ e ∈ ((s.barRet t a).tile t).barriers, e.1 ≠ a))

/-- R323, R325, R326: an atomic or a watch that is aligned and in range reserves an inbox entry and is dispatched with a probe of its
page, or deferred in a firing that is not direct; a watch is dispatched at once. R112, R327, R330: after FENCE.CORE the instructions that
follow are fetched after every older core store and after the engine writes that a dequeue has acquired; after FENCE.XPATH the next engine
operation comes after everything that comes before the core's next access. FENCE.STR waits for the accesses that the named streams have
issued and FENCE.LVL for the slot's dispatched operations, then what they waited for comes before everything that the tile does next; a
level that is not declared raises 0x01. R112, R221, R328, R330: where every write to a word comes before the core's next access, and a
dequeue has acquired those that engines made, a fetch after FENCE.CORE finds what SRAM holds; where every write to some bytes comes before
the core's next access, an engine access after FENCE.XPATH does. The end of a fence puts what it waited for before the next core access
and the next engine operation. The detail of a fault record, where R152 leaves open which of its three contents it is, is the address of
the instruction (log entry 20, DEDUCED). -/
def Obligations.AtomicAndFenceResults : Prop :=
  (∀ (s : State) (f : Firing) (d a b i : Nat) (n : Bool) (sz : AtomSize), Issues s f 8 →
     let x := s.here
     let issues := fun (j : Instr) (srcs : List Nat) (op size : Nat) (uns : Bool) (cond : Nat) (D B : Word64) =>
       Reads s f srcs →
         let addr := (operand s f srcs 0).toNat
         let g := f.pastReads srcs
         let bytes := if size = 2 then 4 else if size = 3 then 8 else 16
         let wait := (s.actor f).cls ≠ 2 ∧ op ≠ 9
         let at_ := fun e : Nat =>
           ({ id := x.nextOp, slot := f.slot, op := op, size := size, unsigned_ := uns, cond := cond, addr := addr, d := D, b := B, tag := i,
              deferred := decide wait, paused := false,
              eng := { emptyEngine with
                       attempt := f.uid, entry := e, swatch := (s.actor f).swatch, scope := (s.actor f).scopeNo,
                       reach := x.issueReach } } : Atomic)
         let key := if op = 9 then OpKey.watch x.nextOp else OpKey.atomic x.nextOp
         let probe : XlateProbe :=
           { op := { tile := s.focus, key := key, run := x.nextOp }, tag := (s.actor f).tag, vpage := addr / 4096, write := true,
             atomic := op != 9, watch := op == 9, walking := false }
         (2 ^ 57 ≤ addr → exec j s = .next (s.takeFault s.focus 0x04 0 f.pc)) ∧
         (addr < 2 ^ 57 → addr % bytes ≠ 0 → exec j s = .next (s.takeFault s.focus 0x03 0 f.pc)) ∧
         (addr < 2 ^ 57 → addr % bytes = 0 → x.freeEntryNo = none → exec j s = .next (s.setWaiting s.focus f .inboxEntry)) ∧
         (∀ e ∈ x.freeEntryNo, addr < 2 ^ 57 → addr % bytes = 0 → exec j s = .next
           ((if wait then s else { s with xprobes := s.xprobes ++ [probe] }).after
             { x.reserve f.slot e (s.actor f).swatch with atomics := x.atomics ++ [at_ e], nextOp := x.nextOp + 1 }
             (Firing.complete (if wait then { g with deferred := f.deferred ++ [Deferred.atomic x.nextOp] } else g) 8)))
     let D := operand s f [a, d] 1
     let two := [a, b, d]
     issues (.aadd d a sz i) [a, d] 0 sz.code false 0 D 0 ∧ issues (.aand d a sz i) [a, d] 1 sz.code false 0 D 0 ∧
       issues (.aor d a sz i) [a, d] 2 sz.code false 0 D 0 ∧ issues (.axor d a sz i) [a, d] 3 sz.code false 0 D 0 ∧
       issues (.amin d a n sz i) [a, d] 4 sz.code n 0 D 0 ∧ issues (.amax d a n sz i) [a, d] 5 sz.code n 0 D 0 ∧
       issues (.aswap d a sz i) [a, d] 6 sz.code false 0 D 0 ∧
       issues (.acas d a b sz i) two 7 sz.code false 0 (operand s f two 2) (operand s f two 1) ∧
       issues (.axadd d a b i) two 8 4 false 0 (operand s f two 2) (operand s f two 1) ∧
       issues (.awatch d a b n sz i) [a, d] 9 sz.code n b D 0) ∧
  (∀ (s : State) (f : Firing) (a l : Nat), Issues s f 4 →
     let x := s.here
     let base := x.strBase f.slot
     let level := (s.swatch (s.actor f).swatch).level l
     let ops := (s.ctxOf f).dispatched
     let waits := fun (g : Firing) (w : WaitCond) => (Host.Outcome.next (s.after x { g.complete 4 with phase := .waiting w }) : Out)
     exec .fenceCore s = .next (s.after { x with fetchSeen := x.coreSeen, fetchAcq := x.coreAcq } (f.complete 4)) ∧
     exec .fenceXpath s = .next (s.after { x with engineSeen := x.engineSeen.max x.coreSeen } (f.complete 4)) ∧
     (Reads s f [a] →
       let g := f.pastReads [a]
       let ks := (List.range 16).filter fun k => (operand s f [a] 0).getLsbD k && decide (k < x.strCount f.slot)
       let upTo := ks.map fun k => (OpKey.stream (base + k), (x.run (base + k)).eng.seq)
       let reach := ks.foldl (fun v k => v.join (x.reachOf (base + k))) noReach
       let busy := ∃ k ∈ ks, 2 ≤ strState (x.stream (base + k)) ∧
         ∃ o ∈ (x.run (base + k)).eng.outstanding, o.seq < (x.run (base + k)).eng.seq
       (busy → exec (.fenceStr a) s = waits g (.accesses upTo reach)) ∧
       (¬ busy → exec (.fenceStr a) s = .next (s.after (x.endFence [reach]) (g.complete 4)))) ∧
     (level = none → exec (.fenceLvl l) s = .next (s.takeFault s.focus 0x01 0 f.pc)) ∧
     (level = some 0 → exec (.fenceLvl l) s = exec .fenceXpath s) ∧
     (∀ n ∈ level, n ≠ 0 →
       (ops = [] → exec (.fenceLvl l) s = .next (s.after (x.endFence (x.fenceReach f.slot (.operations []))) (f.complete 4))) ∧
       (ops ≠ [] → exec (.fenceLvl l) s = waits f (.operations ops)))) ∧
  (∀ (x : Tile) (c a n : Nat),
     ((∀ e ∈ x.order.hist, e.touches 0 a 4 = true → x.coreSeen.lt e.stamp = false ∧ (e.core = false → x.coreAcq.lt e.stamp = false)) →
       x.refetch.fetchWord c a = Memory.readN x.sram a 4) ∧
     ((∀ e ∈ x.order.hist, e.touches 0 a n = true → x.coreSeen.lt e.stamp = false) →
       x.crossPath.bytesAt (x.crossPath.enginePlace x.crossPath.engineSeen c a n) a n = Memory.readN x.sram a n) ∧
     ∀ rs : List Reach, ∀ r ∈ rs,
       (x.endFence rs).coreSeen.lt r.sram = false ∧ (x.endFence rs).engineSeen.lt r.sram = false ∧
         (x.endFence rs).engineSeen.lt x.coreSeen = false)

/-! ### Firings, tokens, engines and the memory system -/

/-- R162: an actor is ready when it waits, each of its input ports holds REQ present tokens, or MAX where fixed, each of its output ports
has MAX free, a loop entry is not closed and has permits for the MAX of out0, a loop exit neither waits nor discards, and its launch lets
it fire: the gates open, not parked, the scope neither draining nor aborted. On an unscaled port that no refill holds up every token that
has landed is present. R163, R164, R187, R201: on a running tile that is not lost, with no firing, the ready slot of the lowest priority
number fires, the first after the slot that fired last among equals, a slot of age 64 counting one better; it finds fresh registers at its
handler, and the inbox actor the handler and the inbox settings of its message; one whose required tokens include a void one is over at
once, as a void commit. When a firing ends, its slot's age becomes 0, and every other slot that was ready when it began and still is gains
one. -/
def Obligations.FiringStart : Prop :=
  (∀ (s : State) (t k : Nat), k < 16 →
     let sl := s.slot t k
     let w := s.swatch sl.swatch
     (s.isReady t k = true ↔
       sl.stateCode = 1 ∧
       (∀ p < 8, sl.inDecl p = true → (if sl.inBounded p = true then sl.inReq p else sl.inMax p) ≤ sl.presentCount p) ∧
       (∀ p < 8, sl.outDecl p = true → sl.outMax p ≤ sl.free p) ∧
       (sl.loopK ≠ 0 → sl.loopClosed = false ∧ sl.outMax 0 ≤ sl.permits) ∧
       (sl.isExit = true → sl.loopWait = false ∧ sl.discard = 0) ∧
       w.gates = true ∧ w.parked = false ∧ (w.scope sl.scopeNo).stateCode ≠ 5 ∧ (w.scope sl.scopeNo).stateCode ≠ 6) ∧
     ∀ p, (sl.inQueue p).refilling = [] → sl.inScaled p = false → sl.presentCount p = (sl.inQueue p).toks.length) ∧
  (∀ (s : State) (t : Nat),
     let place := fun k => (k + 16 * ((s.tile t).lastFired + 1)) % 17
     let others := fun k => (List.range 17).filter fun j => s.isReady t j && j != k
     (((s.tile t).firing.isSome = true ∨ (s.tile t).gating ≠ .running ∨ s.hostLost t = true) → exec (.firingStart t) s = .next s) ∧
     ((s.tile t).firing = none → (s.tile t).gating = .running → s.selected t = none → exec (.firingStart t) s = .next s) ∧
     (∀ k ∈ s.selected t, s.isReady t k = true ∧ k < 17 ∧ (∀ j < 17, s.isReady t j = true → s.selectPrio t k ≤ s.selectPrio t j) ∧
       (∀ j < 17, s.isReady t j = true → s.selectPrio t j = s.selectPrio t k → place k ≤ place j)) ∧
     (∀ k < 16, s.selectPrio t k = if 64 ≤ (s.slot t k).age then (s.slot t k).prio - 1 else (s.slot t k).prio) ∧
     (s.selected t = none → ∀ j < 17, s.isReady t j = false) ∧
     (∀ k ∈ s.selected t, (s.tile t).firing = none → (s.tile t).gating = .running → s.hostLost t = false →
       exec (.firingStart t) s = .next (s.startFiring t k (if k = 16 then s.handlerMessage t else none))) ∧
     (∀ k < 16, (s.slot t k).requiresVoid = false →
       (((s.startFiring t k none).tile t).firing = some (freshFiring k (s.tile t).nextUid (s.slot t k).handler (others k) none)) ∧
       ((s.startFiring t k none).slot t k).stateCode = 3) ∧
     (∀ k < 16, (s.slot t k).requiresVoid = true → ((s.startFiring t k none).tile t).firing = none ∧
       ((s.startFiring t k none).slot t k).voidedCount = min ((s.slot t k).voidedCount + 1) 0xFFFFFFFF ∧
       ((s.startFiring t k none).slot t k).lastCause = (s.slot t k).lastCause) ∧
     (∀ i ∈ s.handlerMessage t,
       let e := (s.tile t).entry i
       let w := s.swatch e.swatch
       let sl := (s.startFiring t 16 (some i)).slot t 16
       (∀ p < 8, (s.slot t 16).inDecl p = false) →
         ((s.startFiring t 16 (some i)).tile t).firing =
           some (freshFiring 16 (s.tile t).nextUid ((e.words.getD 0 0).toNat % 2 ^ 22) (others 16) (some i)) ∧
         sl.stateCode = 3 ∧ sl.swatch = e.swatch ∧ sl.tag = w.tag % 2 ^ 13 ∧ Words.word sl.record 1 = Words.word w.launch 9) ∧
     (∀ (f : Firing) (code : Nat), (s.tile t).firing = some f →
       let u := s.endFiring t code
       (u.tile t).firing = none ∧ (u.tile t).lastFired = f.slot ∧ (u.slot t f.slot).age = 0 ∧
         ∀ j ≠ f.slot, (u.slot t j).age = (s.slot t j).age + if s.isReady t j = true then f.readyAtStart.count j else 0) ∧
     (∀ k uid pc ready msg r, let f := freshFiring k uid pc ready msg
       f.sreg r = 0 ∧ f.vreg r = zeroLanes ∧ f.pc = pc ∧ f.spent = 0 ∧ f.levels = [] ∧ f.phase = .running ∧ f.round = 0 ∧ f.fflags = 0))

/-- R176: a firing that has asked for its commit commits once the parity tile has acknowledged its delta, or at once where it writes no
protected byte: no store in place, no journal, no token to retain. The parity tile applies the delta of the stores and of the journal.
Where it has staged a change of a barrier, its tokens and messages go out first, and the change takes effect in a step of its own (R379,
log entry 26). R161, R173, R175, R176, R314: what a normal commit does. The firing is over; the journal's bytes are in SRAM, the staged
tokens are on their way in order with their marks, and so are the messages; the deferred operations are dispatched; the tokens entered are
popped, MAX of them at a fixed port; seals take effect on open scopes; AFLAGS takes the flags; the fired count and the ordinal gain one.
The journal's bytes are stored as core stores are, in SRAM where every earlier write comes before them (log entry 8). R178, R186, R187: a
void commit ends the firing, discards the operations that it deferred, adds one to the voided count, to the ordinal and to the void count
of its scope, leaves the fired count, pushes voids alone, MAX of them on each output port but none on out0 and one on out1 of a loop exit,
and pops MAX at a fixed port, REQ at a bounded one, and what was read up to the void token where one was. -/
def Obligations.CommitResults : Prop :=
  (∀ (s : State) (t : Nat) (f : Firing), (s.tile t).firing = some f →
     let plain := f.delta = [] ∧ f.journal = [] ∧ ∀ e ∈ f.staged, e.2 = []
     let d := journalDelta (Config.stale s.tick t) (s.tile t) f.journal
     (∀ acked, f.phase = .committing acked → (acked = true ∨ plain) → f.barChanges = [] → exec (.commitPoint t) s = .next (s.commit t f)) ∧
     (∀ acked, f.phase = .committing acked → (acked = true ∨ plain) → f.barChanges ≠ [] → Answers (exec (.commitPoint t) s) fun u =>
       (∃ g, (u.tile t).firing = some g ∧ g.phase = .released ∧ g.slot = f.slot ∧ g.barChanges = f.barChanges ∧ g.seals = f.seals) ∧
         (u.tile t).barriers = (s.tile t).barriers ∧ (u.slot t f.slot).firedCount = (s.slot t f.slot).firedCount ∧
         exec (.commitPoint t) u = .next (u.completeCommit t ((u.tile t).firing.getD f)) ∧ s.commit t f = (s.release t f).completeCommit t f) ∧
     (f.phase = .committing false → ¬ plain → exec (.commitPoint t) s = .next s) ∧
     (f.phase = .released → exec (.commitPoint t) s = .next (s.completeCommit t f)) ∧
     ((∀ acked, f.phase ≠ .committing acked) → f.phase ≠ .released → exec (.commitPoint t) s = .next s) ∧
     (f.phase = .committing false → ¬ plain → Answers (exec (.parityDelta t) s) fun u =>
       u.parity = (s.parityDelta t (f.delta ++ d)).parity ∧ (u.tile t).firing = some { f with delta := d, phase := .committing true } ∧
         (∀ k, u.slot t k = s.slot t k) ∧ (u.tile t).sram = (s.tile t).sram ∧ u.net = s.net) ∧
     ((f.phase ≠ .committing false ∨ plain) → exec (.parityDelta t) s = .next s)) ∧
  (∀ (s : State) (t : Nat) (f : Firing), (s.tile t).firing = some f →
     let sl := s.slot t f.slot
     let w := s.swatch sl.swatch
     let u := s.commit t f
     let after := u.slot t f.slot
     (u.tile t).firing = none ∧ after.firedCount = (sl.firedCount + 1) % 2 ^ 64 ∧ after.ordinal = sl.ordinal + 1 ∧
     after.voidedCount = sl.voidedCount ∧ after.handler = sl.handler ∧ after.aflags = (sl.aflags ||| f.fflags) % 64 ∧
     (f.barChanges = [] → (∀ e ∈ (s.tile t).order.hist, (s.tile t).coreSeen.lt e.stamp = false) → (u.tile t).sram = f.journal.foldl (fun m e => Memory.writeN m e.addr e.bytes) (s.tile t).sram) ∧
     (∀ p, sl.outDecl p = true → (after.outQueue p).pushed = (sl.outQueue p).pushed + f.stagedCount p / sl.outWidth p) ∧
     (∀ p, sl.outDecl p = true → (s.tile t).edgeFlags f.slot (sl.outEdge p) = 0 → sl.outHost p = false → w.paged = false →
       ∀ dst ∈ w.rel t (sl.dest p), dst < selvage →
       (∀ q, sl.outDecl q = true → q ≠ p → (w.rel t (sl.dest q), sl.dslot q, sl.dport q) ≠ (some dst, sl.dslot p, sl.dport p)) →
         let sent := fun (n : List Packet) => n.filterMap fun q => match q.body with
           | .token k port tok => if q.src = t ∧ q.dst = dst ∧ k = sl.dslot p ∧ port = sl.dport p then some tok else none
           | _ => none
         let n := sl.outWidth p
         sent u.net = sent s.net ++ (List.range (f.stagedCount p / n)).map fun i =>
           { words := ((Map.get [] f.staged p).drop (i * n)).take n, void := false, mark := (Map.get [] f.marks p).contains i, tag := sl.tag }) ∧
     (∀ dst words, Staged.message dst words ∈ f.messages →
       ∃ q ∈ u.net, q.src = t ∧ q.dst = dst ∧ q.cls = tokenClass w ∧ q.body = .message sl.swatch words) ∧
     (after.stateCode ≠ 5 → ∀ p, sl.inDecl p = true →
       let n := min (sl.inQueue p).toks.length
         (if sl.inBounded p = true then ceilDiv (Map.get 0 f.cursors p) (sl.inWidth p) else sl.inMax p)
       after.inQueue p = (sl.inQueue p).pop n ∧ after.popped p = (sl.popped p + n) % 2 ^ 32) ∧
     (after.stateCode ≠ 5 → f.haltq = false →
       (∀ k, Deferred.stream k ∈ f.deferred → strState ((s.tile t).stream k) = 4 → strState ((u.tile t).stream k) = 2) ∧
       (∀ c ∈ (s.tile t).copies, Deferred.copy c.id ∈ f.deferred →
         ∃ r, { c with deferred := false, eng := { c.eng with reach := r } } ∈ (u.tile t).copies) ∧
       (∀ a ∈ (s.tile t).atomics, Deferred.atomic a.id ∈ f.deferred →
         (∃ r, { a with deferred := false, eng := { a.eng with reach := r } } ∈ (u.tile t).atomics) ∧
         ∃ p ∈ u.xprobes, p.op = { tile := t, key := if a.op = 9 then .watch a.id else .atomic a.id, run := a.id })) ∧
     (∀ sc, ((u.swatch sl.swatch).scope sc).stateCode =
       if sc ∈ f.seals ∧ (w.scope sc).stateCode = 1 then 2 else (w.scope sc).stateCode)) ∧
  (∀ (s : State) (t : Nat) (f : Firing) (v : Option (Nat × Nat)), (s.tile t).firing = some f →
     let sl := s.slot t f.slot
     let u := s.voidCommit t v
     let after := u.slot t f.slot
     let pushes := fun p => if sl.isExit = true then (if p = 0 then 0 else if p = 1 then 1 else sl.outMax p) else sl.outMax p
     let pops := fun p => min (sl.inQueue p).toks.length (if sl.inBounded p = false then sl.inMax p
       else match v with | some (q, upTo) => if q = p then upTo + 1 else sl.inReq p | none => sl.inReq p)
     (u.tile t).firing = none ∧ after.voidedCount = min (sl.voidedCount + 1) 0xFFFFFFFF ∧ after.ordinal = sl.ordinal + 1 ∧
       after.firedCount = sl.firedCount ∧ after.lastCause = sl.lastCause ∧
       (let e := (s.swatch sl.swatch).scope sl.scopeNo;
         ((u.swatch sl.swatch).scope sl.scopeNo).voids =
           if e.stateCode = 0 ∨ e.stateCode = 5 then e.voids else min (e.voids + 1) 0xFFFFFFFF) ∧
       (∀ k, Deferred.stream k ∈ f.deferred → strState ((s.tile t).stream k) = 4 → strState ((u.tile t).stream k) = 1) ∧
       (∀ id, Deferred.copy id ∈ f.deferred → ∀ c ∈ (u.tile t).copies, c.id ≠ id) ∧
       (∀ id, Deferred.atomic id ∈ f.deferred → ∀ a ∈ (u.tile t).atomics, a.id ≠ id) ∧
       (∀ p ∈ u.net, p ∈ s.net ∨ (∀ k q tok, (p.body = .token k q tok ∨ p.body = .paged k q tok) → tok.void = true)) ∧
       (∀ p, sl.outDecl p = true → (after.outQueue p).pushed = (sl.outQueue p).pushed + pushes p) ∧
       (∀ p, sl.outDecl p = true → after.free p = (sl.free p - pushes p) % 2 ^ 16) ∧
       (after.stateCode ≠ 5 → ∀ p, sl.inDecl p = true →
         after.inQueue p = (sl.inQueue p).pop (pops p) ∧ after.popped p = (sl.popped p + pops p) % 2 ^ 32))

/-- R182, R185: a hardware cause that strikes a firing that is not direct, short of its third retry, abandons the attempt with a record of
flag 1; every other fault follows the disposition: void commit, abort of the scope, or stop of the swatch, with the cause in the record.
-/
def Obligations.FaultDisposition : Prop :=
  ∀ (s : State) (t cause unit_ detail : Nat) (f : Firing), (s.tile t).firing = some f →
    let k := f.slot
    let sl := s.slot t k
    let retried := (cause = 0x20 ∨ cause = 0x21 ∨ cause = 0x22) ∧ sl.cls ≠ 2 ∧ sl.attempts < 3
    let logged := (s.writeError t cause unit_ k (if sl.disp = 0 then 8 else 0) sl.tag 0 detail).modSlot t k fun sl => sl.setCause cause
    (retried → s.takeFault t cause unit_ detail = (s.writeError t cause unit_ k 1 sl.tag 0 detail).abandon t ∧
      ((s.takeFault t cause unit_ detail).tile t).firing.map (·.phase) = some .abandoned) ∧
    (¬ retried → sl.disp = 0 → s.takeFault t cause unit_ detail = logged.voidCommit t none) ∧
    (¬ retried → sl.disp = 1 → s.takeFault t cause unit_ detail = logged.abortFiring t cause) ∧
    (¬ retried → sl.disp ≠ 0 → sl.disp ≠ 1 → ((s.takeFault t cause unit_ detail).tile t).firing = none ∧
      ((s.takeFault t cause unit_ detail).slot t k).stateCode = 6 ∧
      ((s.swatch sl.swatch).stop = none → (s.swatch sl.swatch).phase ≠ .bindingOff →
        ((s.takeFault t cause unit_ detail).swatch sl.swatch).gates = false)) ∧
    (¬ retried → ((s.takeFault t cause unit_ detail).slot t k).lastCause = cause % 256 ∧
      ((s.takeFault t cause unit_ detail).tile t).firing = none)

/-- R91, R106, R164, R165, R182, R183, R344, R353: an instruction issues only within the budget, a long one not across the innermost LE;
the count that runs out faults, or abandons an attempt while its swatch is being pre-empted; a new attempt starts from the same inputs
once the operations of the old one have ended and no sooner; a wait ends when what it waits for has come about, and its time counts; a
deadline sets event 6 once. R17, R148: a tile with no firing and no ready actor is clock-gated or power-gated; it runs again when waking
ends or an actor is ready. How far a field counter has moved is open (log entry 2). The detail of a fault record, where R152 leaves open
which of its three contents it is, is the address of the instruction (log entry 20, DEDUCED). -/
def Obligations.FiringProgress : Prop :=
  (∀ (s : State) (t : Nat) (f : Firing), (s.tile t).firing = some f →
     let sl := s.slot t f.slot
     let w := s.swatch sl.swatch
     let under := f.phase = .running ∨ ∃ c, f.phase = .waiting c
     let limit := sl.budget * 256
     let used := f.spent + Config.stall s.tick t
     let ended : State := if w.preempt.isSome = true ∧ sl.cls ≠ 2 then s.abandon t else s.takeFault t 0x08 0 f.pc
     (s.focus = t → f.phase = .running →
       (limit ≤ f.spent → ∀ i : Instr, i.isCore = true → exec i s = .next ended) ∧
       (f.spent < limit → (∃ l ∈ f.levels.head?, l.le = f.pc) → ∀ i : Instr, longForm i = true →
         exec i s = .next (s.takeFault t 0x01 0 f.pc))) ∧
     (under → limit ≤ used → exec (.budgetExceeded t) s = .next ended) ∧
     ((¬ under ∨ used < limit) → exec (.budgetExceeded t) s = .next s) ∧
     (f.phase = .abandoned → (s.tile t).attemptBusy f.uid = false → w.preempt = none → w.phase ≠ .bindingOff → s.power.failing = false →
       Answers (exec (.firingRetry t) s) fun u =>
         (u.tile t).firing = some (freshFiring f.slot (s.tile t).nextUid sl.handler f.readyAtStart f.msgEntry) ∧
         (u.slot t f.slot).attempts = sl.attempts + 1 ∧ (u.slot t f.slot).retries = min (sl.retries + 1) 0xFFFF ∧
         (u.slot t f.slot).inq = sl.inq ∧ (u.slot t f.slot).ordinal = sl.ordinal) ∧
     ((f.phase ≠ .abandoned ∨ (s.tile t).attemptBusy f.uid = true ∨ w.preempt ≠ none ∨ w.phase = .bindingOff ∨ s.power.failing = true) →
       exec (.firingRetry t) s = .next s) ∧
     (((∃ e ∈ (s.tile t).runs, e.2.eng.orphan = true ∧ e.2.eng.attempt = f.uid ∧ 2 ≤ strState ((s.tile t).stream e.1)) ∨
         (∃ c ∈ (s.tile t).copies, c.eng.orphan = true ∧ c.eng.attempt = f.uid) ∨
         (∃ a ∈ (s.tile t).atomics, a.eng.orphan = true ∧ a.eng.attempt = f.uid)) ↔ (s.tile t).attemptBusy f.uid = true) ∧
     (∀ c, f.phase = .waiting c → waitOver (s.tile t) f c = false → exec (.instructionWaitEnd t) s = .next s) ∧
     (∀ c, f.phase = .waiting c → waitOver (s.tile t) f c = true →
       ((issuedWait c = false ∨ bitField ((s.tile t).cword 0x400) 0 1 ≠ 1 ∨ bitField ((s.tile t).cword 0x400) 3 1 ≠ 1) →
         exec (.instructionWaitEnd t) s = .next (s.modTile t fun x =>
           { (if fenceWait c = true then x.endFence (x.fenceReach f.slot c) else x) with
             cycles := (x.cycles + Config.stall s.tick t) % 2 ^ 64, firing := some { f with phase := .running, spent := used } })) ∧
       exec (.instructionWaitEnd t) s = .next (s.endWait t f c)) ∧
     (let s1 := s.advanceField (s.fieldOf t);
       let now := Map.get 0 s1.fieldCtr (s.fieldOf t)
       (f.evdl ≠ 0 → f.evDue = false → f.evdl ≤ now → exec (.eventDeadline t) s =
         .next (s1.modTile t fun x => { x with firing := some { f with evpend := f.evpend ||| 64, evDue := true } })) ∧
       ((f.evdl = 0 ∨ f.evDue = true ∨ now < f.evdl) → exec (.eventDeadline t) s = .next s1))) ∧
  (∀ (s : State) (t : Nat) (power : Bool),
     let x := s.tile t
     let ready := ∃ k < 17, s.isReady t k = true
     (x.firing = none → ¬ ready → x.gating ≠ .waking →
       exec (.tileGating t power) s = .next (s.setTile t { x with gating := if power then .powerGated else .clockGated })) ∧
     ((x.firing ≠ none ∨ ready ∨ x.gating = .waking) → exec (.tileGating t power) s = .next s) ∧
     ((x.gating = .waking ∨ ready) → exec (.tileWake t) s = .next (s.setTile t { x with gating := .running })) ∧
     (x.gating ≠ .waking → ¬ ready → exec (.tileWake t) s = .next s))

/-- R115, R123, R125, R177, R191, R206, R344: the first token between two nodes joins its queue and shows as event 1 to a firing of its
slot; a draining actor pops at once; a paged token, like its scale, finds the resident consumer of its edge, or waits; a sleeping tile
keeps it and wakes, and a lost one keeps it. The tokens of one commit to its own tile land together: none is left in flight but those held
back for a moving actor. R123, R158, R161, R206: the record of the consumer that a paged token waits for is put in an empty slot with
empty queues, resting as its swatch has it, and its ordinal from its counts; else in place of the paged slot, of whichever launch, that
may be evicted and fired least recently, which is emptied. One that may be evicted holds a fetched record and waits, not ready, with empty
queues, no retained copies and no outstanding copy or atomic. How a fetched record ranks that has not fired is log entry 31 (DESIGN
CHOICE). -/
def Obligations.TokenLandings : Prop :=
  (∀ (s : State) (src dst k q sw edge n : Nat) (tok : Token) (sc : ScaleTok) (v : View) (who : Nat × Nat) (rest : List Packet),
     let p := packet src dst .token (.token k q tok) v n who
     let landed := ({ s with net := rest } : State).landToken dst k q tok v
     (src ≠ dst → Arrives s p rest → exec (.tokenLanding src dst) s = .next landed) ∧
     (src = dst → Arrives s p rest → Answers (exec (.tokenLanding src dst) s) fun u =>
       (u = landed ∨ u = landed.landBatch dst .token n) ∧
       (n ≠ 0 → ∀ e ∈ u.net, e.src = dst → e.dst = dst → e.cls = .token → e.batch = n →
         (∃ k' q' tok', e.body = .token k' q' tok') → u.heldBack e = true)) ∧
     ((s.slot dst k).inDecl q = true →
       (s.discards dst k = false → landed.net = rest ∧ ((landed.slot dst k).inQueue q).toks = ((s.slot dst k).inQueue q).toks ++ [tok] ∧
         (∀ t' k' q', (t', k', q') ≠ (dst, k, q) → (landed.slot t' k').inQueue q' = (s.slot t' k').inQueue q') ∧
         (landed.tile dst).firing = (s.tile dst).firing.map fun f => if f.slot = k then { f with evpend := f.evpend ||| 2 } else f) ∧
       (s.discards dst k = true → ((landed.slot dst k).inQueue q).toks = (((s.slot dst k).inQueue q).toks ++ [tok]).drop 1 ∧
         (landed.slot dst k).popped q = ((s.slot dst k).popped q + 1) % 2 ^ 32)) ∧
     (src ≠ dst → Arrives s (packet src dst .token (.scale k q sc) v n who) rest → Answers (exec (.tokenLanding src dst) s) fun u =>
       u.net = rest ∧ ((u.slot dst k).inQueue q).scales = ((s.slot dst k).inQueue q).scales ++ [sc] ∧
       ((u.slot dst k).inQueue q).toks = ((s.slot dst k).inQueue q).toks) ∧
     (s.tokenFirst src dst .token = false →
       (Arrives s (packet src dst .paged (.paged edge sw tok) v n who) rest →
         (∀ c ∈ s.pagedConsumer dst sw edge, src ≠ dst →
           exec (.tokenLanding src dst) s = .next (({ s with net := rest } : State).landToken dst c.1 c.2 tok v)) ∧
         (s.pagedConsumer dst sw edge = none → exec (.tokenLanding src dst) s = .next s)) ∧
       (Arrives s (packet src dst .paged (.pagedScale edge sw sc) v n who) rest →
         (∀ c ∈ s.pagedConsumer dst sw edge, src ≠ dst →
           exec (.tokenLanding src dst) s = .next (({ s with net := rest } : State).landScale dst c.1 c.2 sc)) ∧
         (s.pagedConsumer dst sw edge = none → exec (.tokenLanding src dst) s = .next s))) ∧
     (takePacket src dst .token s.net = some (p, rest) → (s.heldBack p = true ∨ s.hostLost dst = true) →
       exec (.tokenLanding src dst) s = .next s) ∧
     (takePacket src dst .token s.net = some (p, rest) → s.heldBack p = false → s.hostLost dst = false → (s.tile dst).gating ≠ .running →
       exec (.tokenLanding src dst) s = .next (s.modTile dst Tile.wakeRequest))) ∧
  (∀ (s : State) (t sw edge i k p : Nat) (r : Words),
     (s.pagedMiss t = none → exec (.recordFetch t) s = .next s) ∧
     (s.pagedMiss t = some (sw, edge) → s.pagedEntry (s.swatch sw) edge = none → exec (.recordFetch t) s = .next s) ∧
     (s.pagedMiss t = some (sw, edge) → s.pagedEntry (s.swatch sw) edge = some (i, r, p) →
       ((∀ j < k, (s.slot t j).stateCode ≠ 0) → k < 16 → (s.slot t k).stateCode = 0 →
         exec (.recordFetch t) s = .next (s.placeRecord sw t k i r)) ∧
       ((∀ j < 16, (s.slot t j).stateCode ≠ 0) →
         (∀ j ∈ s.evictee t, exec (.recordFetch t) s = .next ((s.evict t j).placeRecord sw t j i r)) ∧
         (s.evictee t = none → exec (.recordFetch t) s = .next s))) ∧
     (∀ j, s.mayEvict t j = true →
       (∃ e ∈ (s.swatch (s.slot t j).swatch).recordTable, e.1 = t ∧ e.2.1 = j) ∧ s.isReady t j = false ∧ (s.slot t j).stateCode = 1 ∧
       (∀ e ∈ (s.slot t j).inq, e.2.toks = [] ∧ e.2.scales = []) ∧ (∀ e ∈ (s.slot t j).outq, e.2.retained = [] ∧ e.2.local_ = []) ∧
       (∀ c ∈ (s.tile t).copies, c.slot ≠ j) ∧ ∀ a ∈ (s.tile t).atomics, a.slot ≠ j) ∧
     (let may := fun j => j < 16 ∧ s.mayEvict t j = true;
       (s.evictee t = none → ∀ j, ¬ may j) ∧
       ∀ j ∈ s.evictee t, may j ∧ ∀ l, may l → (s.slot t j).lastUid ≤ (s.slot t l).lastUid) ∧
     ((∃ e ∈ (s.swatch (s.slot t k).swatch).recordTable, e.1 = t ∧ e.2.1 = k) →
       (s.evict t k).slot t k = emptySlot ∧ (∀ j, j ≠ k → (s.evict t k).slot t j = s.slot t j) ∧
       ∀ e ∈ ((s.evict t k).swatch (s.slot t k).swatch).recordTable, ¬ (e.1 = t ∧ e.2.1 = k)) ∧
     (let u := s.placeRecord sw t k i r
       let sl := u.slot t k
       let w := s.swatch sw
       sl.swatch = sw ∧ Words.field sl.record 2 16 4 = k % 16 ∧ sl.handler = Words.word r 0 % 2 ^ 22 ∧
       (s.scopeEnded sl = false → w.phase ≠ .bindingOff → (∀ m ∈ s.rebinds, ¬ (m.tile = t ∧ m.slot = k)) → w.preempt = none →
         sl.stateCode = if w.parked then 7 else 1) ∧
       sl.ordinal = sl.firedCount + sl.voidedCount ∧ (∀ q, sl.inQueue q = emptyInQueue) ∧
       (∀ q, sl.outDecl q = true → (sl.outQueue q).retained = [] ∧ (sl.outQueue q).pos = Map.get 0 w.edgePos (sl.outEdge q)) ∧
       (t, k, i) ∈ (u.swatch sw).recordTable))

/-- R131, R306, R309, R320, R330: an active message takes the lowest free entry as full, in landing order, and its words; where none is
free it is discarded with fault 0x1B against the inbox actor. A remote arrival changes its barrier, or leaves a record where no barrier of
its tag is live there; the words of the slot are read first, and one bit in error in a word is corrected. What an overflow does where no
firing runs is log entry 25 (DEDUCED), and that an arrival is discarded that finds a word which cannot be read is log entry 13 (DESIGN
CHOICE). -/
def Obligations.MessageLandings : Prop :=
  ∀ (s : State) (src dst sw a phase k0 tag n : Nat) (drop : Bool) (words : List Word32) (v : View) (who : Nat × Nat) (rest : List Packet)
    (cls : TrafficClass),
    (s.channelOf src dst (landMessage dst) = cls → Arrives s (packet src dst cls (.message sw words) v n who) rest →
      (∀ i ∈ (s.tile dst).freeEntryNo, Answers (exec (.activeMessageLanding src dst) s) fun u =>
        u.net = rest ∧
        (u.tile dst).entry i = { state := .full, owner := 16, stamp := (s.tile dst).stamp, attempt := 0, swatch := sw,
                                 reach := { noReach with dram := v }, words := words } ∧
        (∀ j, j ≠ i → (u.tile dst).entry j = (s.tile dst).entry j) ∧ (∀ j < i, ((s.tile dst).entry j).state ≠ .free)) ∧
      ((s.tile dst).freeEntryNo = none → Answers (exec (.activeMessageLanding src dst) s) fun u =>
        u = ({ s with net := rest } : State).inboxOverflow dst sw ∧ (u.slot dst 16).lastCause = 0x1B)) ∧
    (∀ p, takePacket src dst .token s.net = some (p, rest) → p.body = .message sw words →
      s.channelOf src dst (landMessage dst) = .token) ∧
    (s.channelOf src dst (landArrival dst) = cls → Arrives s (packet src dst cls (.arrival a phase drop k0 tag) v n who) rest →
      exec (.remoteArrival src dst) s = .next (({ s with net := rest } : State).applyArrival dst a phase drop tag v true)) ∧
    (∀ p, takePacket src dst .token s.net = some (p, rest) → p.body = .arrival a phase drop k0 tag →
      s.channelOf src dst (landArrival dst) = .token) ∧
    ((s.tile dst).barrierOwner a = none →
      s.applyArrival dst a phase drop tag v true = s.writeError dst 0x19 5 0xFF 0 tag 0 a) ∧
    (∀ k ∈ (s.tile dst).barrierOwner a,
      ((s.slot dst k).tag ≠ tag → s.applyArrival dst a phase drop tag v true = s.writeError dst 0x11 5 k 0 tag 0 a) ∧
      ((s.slot dst k).tag = tag → (s.tile dst).badWord a 16 = none →
        let r := (wordsTouched a 16).foldl (fun s w => s.modTile dst fun x => x.correct w 4) s
        (((s.tile dst).barrier a).failed = true → s.applyArrival dst a phase drop tag v true = r.writeError dst 0x18 5 k 0 tag 0 a) ∧
        (((s.tile dst).barrier a).failed = false →
          s.applyArrival dst a phase drop tag v true = ((r.modTile dst fun x => x.noteArrival a v).barArrive dst a phase drop true).1)) ∧
      ((s.slot dst k).tag = tag → (s.readSlot dst a k).2 = false → s.applyArrival dst a phase drop tag v true = (s.readSlot dst a k).1))

/-- R161, R181, R199, R344: slot returns advance FREE and RETBASE and free the retained copies; a permit adds one permit, a close adds
one, sets CLOSED and is answered with k less the permits; CLOSED falls when every permit is back; a reply sets DISCARD and ends WAIT; a
loop exit discards a token for each DISCARD and returns its permit. -/
def Obligations.ReturnsAndLoops : Prop :=
  ∀ (s : State) (src dst k p n et es b : Nat) (v : View) (who : Nat × Nat) (rest : List Packet),
    let from_ := fun (node : Nat) (body : PacketBody) => packet src node .slotReturn body v b who
    (Arrives s (from_ dst (.slotReturn k p n)) rest → dst ≠ selvage → p < 8 → Answers (exec (.slotReturn src dst) s) fun u =>
      u.net = rest ∧ (u.slot dst k).free p = ((s.slot dst k).free p + n) % 2 ^ 16 ∧
      (u.slot dst k).retBase p = ((s.slot dst k).retBase p + n) % 2 ^ 32 ∧
      ((u.slot dst k).outQueue p).retained = ((s.slot dst k).outQueue p).retained.drop n ∧
      (u.tile dst).firing = (s.tile dst).firing.map fun f => if f.slot = k then { f with evpend := f.evpend ||| 4 } else f) ∧
    (Arrives s (from_ selvage (.slotReturn k p n)) rest → s.admits (s.swatch k) = false →
      Answers (exec (.slotReturn src selvage) s) fun u =>
        u.net = rest ∧ Map.get 0 (u.swatch k).hostFree p = Map.get 0 (s.swatch k).hostFree p + n) ∧
    (Arrives s (from_ dst (.permit k)) rest →
      ((s.tile dst).runs_ k = false → Answers (exec (.permitReturn src dst) s) fun u =>
        u.net = rest ∧ (u.slot dst k).permits = ((s.slot dst k).permits + 1) % 256 ∧
        ((u.slot dst k).loopClosed = true ↔
          (s.slot dst k).loopClosed = true ∧ ((s.slot dst k).permits + 1) % 256 ≠ (s.slot dst k).loopK)) ∧
      ((s.tile dst).runs_ k = true → exec (.permitReturn src dst) s = .next s)) ∧
    (Arrives s (from_ dst (.close k et es)) rest →
      ((s.tile dst).runs_ k = false → Answers (exec (.loopClose src dst) s) fun u =>
        let back := ((s.slot dst k).permits + 1) % 256
        (∃ q, u.net = rest ++ [q] ∧ q.is dst et .slotReturn (.closeReply es ((s.slot dst k).loopK - back))) ∧ (u.slot dst k).permits = back ∧
        ((u.slot dst k).loopClosed = true ↔ back ≠ (s.slot dst k).loopK)) ∧
      ((s.tile dst).runs_ k = true → exec (.loopClose src dst) s = .next s)) ∧
    (Arrives s (from_ dst (.closeReply k n)) rest → Answers (exec (.closeReply src dst) s) fun u =>
      u.net = rest ∧ (u.slot dst k).discard = n % 256 ∧ Words.field (u.slot dst k).record 3 26 1 = 0) ∧
    (let sl := s.slot dst k
      let ready := (s.tile dst).firing = none ∧ (s.tile dst).gating = .running ∧ sl.stateCode = 1 ∧ sl.isExit = true ∧ 0 < sl.discard ∧
        0 < sl.presentCount 0 ∧ (s.swatch sl.swatch).gates = true
      (ready → Answers (exec (.loopDiscard dst k) s) fun u =>
        (u.slot dst k).discard = sl.discard - 1 ∧ (u.slot dst k).popped 0 = (sl.popped 0 + 1) % 2 ^ 32 ∧
        (u.slot dst k).firedCount = sl.firedCount ∧ (u.slot dst k).voidedCount = sl.voidedCount ∧
        (∀ e ∈ (s.swatch sl.swatch).rel dst (sl.dest 0), ∃ q ∈ u.net, q.is dst e .slotReturn
          (if (s.swatch sl.swatch).paged = true then .pagedPermit (sl.outEdge 0) sl.swatch else .permit (sl.dslot 0)))) ∧
      (¬ ready → exec (.loopDiscard dst k) s = .next s))

/-- R27, R28, R181, R188, R191, R195, R390, R394: a token for the host is delivered and its slot returned; a void one is not delivered but
logged in the scope of its actor, by its edge and its ordinal there, and past 64 entries the log only says so; one of an edge bound to a
peer goes to the gateway, void or not, which sends it on as it has credits; a sealed scope with nothing outstanding becomes complete, or
complete-with-voids; a draining one becomes aborted when it and its descendants are empty. How many credits a gateway begins with is free
(log entry 26). -/
def Obligations.HostSinksAndScopeEnds : Prop :=
  ∀ (s : State) (src k p sw sc b : Nat) (tok : Token) (v : View) (who : Nat × Nat) (rest : List Packet),
    (takePacket src selvage .token s.net = some (packet src selvage .token (.token k p tok) v b who, rest) →
      let sl := s.slot src k
      let edge := sl.outEdge p;
      (s.peerOf sl.swatch edge = none → Answers (exec (.hostSink src) s) fun u =>
        (∃ q, u.net = rest ++ [q] ∧ q.is selvage src .slotReturn (.slotReturn k p 1)) ∧
        (u.swatch sl.swatch).hostOrdinal edge = (s.swatch sl.swatch).hostOrdinal edge + 1 ∧
        u.host.delivered = (s.host.delivered ++ if tok.void then [] else [⟨sl.swatch, edge, tok⟩]) ∧
        (tok.void = false → (u.swatch sl.swatch).scopes = (s.swatch sl.swatch).scopes) ∧
        (let e := (s.swatch sl.swatch).scope sl.scopeNo
          let e' := (u.swatch sl.swatch).scope sl.scopeNo
          tok.void = true → e.stateCode ≠ 0 → e.stateCode ≠ 5 →
            (e.log.length < 64 → e'.log = e.log ++ [(edge, (s.swatch sl.swatch).hostOrdinal edge)] ∧ Words.field e'.words 2 0 7 = e.log.length + 1) ∧
            (64 ≤ e.log.length → e'.log = e.log ∧ Words.field e'.words 0 7 1 = 1))) ∧
      (∀ i ∈ s.peerOf sl.swatch edge, Answers (exec (.hostSink src) s) fun u =>
        u.net = rest ∧ u.host.delivered = s.host.delivered ∧ (u.swatch sl.swatch).scopes = (s.swatch sl.swatch).scopes ∧
        u.host.peers = s.host.peers.modify i fun q => ({ q with waiting := q.waiting ++ [tok] } : Peer).cross)) ∧
    (let w := s.swatch sw
      let e := w.scope sc
      let kids := (w.children sc).map fun n => (w.scope n).stateCode
      let done := s.liveSwatch sw = true ∧ e.stateCode = 2 ∧ s.scopeBusy sw sc = false ∧ (∀ c ∈ kids, terminalCode c = true);
      (done → Answers (exec (.scopeComplete sw sc) s) fun u =>
        ((u.swatch sw).scope sc).stateCode = if e.voids = 0 ∧ 4 ∉ kids ∧ 5 ∉ kids then 3 else 4) ∧
      (¬ done → exec (.scopeComplete sw sc) s = .next s)) ∧
    (let w := s.swatch sw
      let under := w.scopeNumbers.filter fun n => w.below sc 257 n
      let done := s.liveSwatch sw = true ∧ (w.scope sc).stateCode = 6 ∧ ∀ n ∈ under, s.scopeBusy sw n = false;
      (done → Answers (exec (.scopeAborted sw sc) s) fun u =>
        ((u.swatch sw).scope sc).stateCode = 5 ∧ ∀ n ∈ under, ((u.swatch sw).scope n).stateCode ≠ 6) ∧
      (¬ done → exec (.scopeAborted sw sc) s = .next s))

/-- R149 to R151: a silent tile sends a probe from each actor that waits on slots, else from each that holds partial input; a probe is
forwarded, dropped, or confirmed at its origin, in send order between two tiles, and dropped at its 65th member; a confirmed knot is
reported once, loosened first where the launch asks; a starved cycle is reported only with nothing in flight in its scopes; reports of one
tile come in send order. When the interval of a tile is over is open (log entry 2). -/
def Obligations.KnotDetection : Prop :=
  ∀ (s : State) (t i : Nat),
    let acts := (s.tile t).actors t
    let knots := acts.filter fun a => !(s.slotWaits a).isEmpty
    let quiet := s.anyReady t = false;
    (quiet → knots ≠ [] → exec (.knotIntervalExpiry t) s =
      .next { s with probes := s.probes ++ knots.flatMap (fun a => s.probesFrom false a a [] [] []) }) ∧
    (quiet → knots = [] → exec (.knotIntervalExpiry t) s =
      .next { s with probes := s.probes ++ (acts.filter fun a => s.holdsPartial a).flatMap fun a => s.probesFrom true a a [] [] [] }) ∧
    (¬ quiet → exec (.knotIntervalExpiry t) s = .next s) ∧
    (∀ starved a origin members edges snap,
      (64 ≤ members.length → s.probesFrom starved a origin members edges snap = []) ∧
      (members.length < 64 → ∀ p ∈ s.probesFrom starved a origin members edges snap,
        p.starved = starved ∧ p.origin = origin ∧ p.members = members ++ [a] ∧ p.confirm = none ∧ ∃ e, p.edges = edges ++ [e] ∧
          (if starved then s.producer (s.slot a.1 a.2).swatch e else s.consumer (s.slot a.1 a.2).swatch e).map (fun n => (n.1, n.2.1)) =
            some p.node)) ∧
    (∀ p ∈ s.probes[i]?,
      exec (if p.starved then .starvedCycleProbe i else .knotProbe i) s = .next (s.probeStep i p) ∧
      exec (if p.starved then .knotProbe i else .starvedCycleProbe i) s = .next s ∧
      let others := s.probes.eraseIdx i
      let same := fun j => some (s.memberView (p.members.getD j (0, 0))) = p.snapshot[j]?
      (isFirst Probe.way s.probes i = false → s.probeStep i p = s) ∧
      (isFirst Probe.way s.probes i = true →
        (p.confirm = none → p.node = p.origin → s.probeStep i p = { s with probes := others ++ [{ p with confirm := some 0 }] }) ∧
        (p.confirm = none → p.node ≠ p.origin →
          s.probeStep i p = { s with probes := others ++ s.probesFrom p.starved p.node p.origin p.members p.edges p.snapshot }) ∧
        (∀ j ∈ p.confirm, j < p.members.length → ¬ same j → s.probeStep i p = { s with probes := others }) ∧
        (∀ j ∈ p.confirm, j < p.members.length → same j →
          s.probeStep i p = { s with probes := others ++ [{ p with confirm := some (j + 1) }] }) ∧
        (∀ j ∈ p.confirm, p.members.length ≤ j → (s.probeStep i p).reports.length = s.reports.length + 1))) ∧
    (∀ r ∈ s.reports[i]?,
      let s1 := { s with reports := s.reports.eraseIdx i }
      let dull := s.standing r = true ∨ s.liveSwatch r.swatch = false
      let busy := ∃ sc ∈ r.members.map (fun a => (s.slot a.1 a.2).scopeNo),
        s.scopeEngines r.swatch sc = true ∨ ((s.swatch r.swatch).scope sc).stateCode = 3 ∨ ((s.swatch r.swatch).scope sc).stateCode = 4
      (isFirst Report.way s.reports i = false → exec (.knotReport i) s = .next s ∧ exec (.starvedCycleReport i) s = .next s) ∧
      (isFirst Report.way s.reports i = true →
      (r.starved = false → dull → exec (.knotReport i) s = .next s1) ∧
      (r.starved = false → ¬ dull → Words.field (s.swatch r.swatch).launch 1 2 1 = 0 → exec (.knotReport i) s = .next (s1.notify (.report r))) ∧
      (r.starved = false → ¬ dull → Words.field (s.swatch r.swatch).launch 1 2 1 = 1 → let a := s1.loosen r.swatch r.edges;
        exec (.knotReport i) s = .next ((a.1.inject r.swatch).notify (.report { r with counts := a.2.1, exhausted := a.2.2 == 0 }))) ∧
      (r.starved = true → (dull ∨ busy) → exec (.starvedCycleReport i) s = .next s1) ∧
      (r.starved = true → ¬ dull → ¬ busy → exec (.starvedCycleReport i) s = .next (s1.notify (.report r)))))

/-- R30, R142, R143, R152, R350: a failing flit is counted, and the eighth failure in a row starts lane diagnosis, whose end leaves a
record of unit 9 on the physical tile; spare lanes make good, half width is left with 128 lanes, below that the link is down, and it is
down where a router at its ends has lost its keep-alive. R133, R137 to R140, R143, R144: a quiesced hop moves to a legal path and to no
other; gauge entries are written whole with a new generation; a path that goes down first loses what was on it, and is then remapped to a
legal path if there is one, else one of its ends is rebound to a spare if one fits, and only else is the hop left down. Which legal path
is taken is open (log entry 10), what was on a path that goes down is log entry 21, that a rebind is one step is log entry 26, and that a
gauge entry's lane state, seam and field are composed afresh is log entry 28. -/
def Obligations.LinkResults : Prop :=
  (∀ (s : State) (link failing p dir : Nat),
     let l := Map.get healthyLink s.links link;
     (l.diagnosing = true → exec (.flitCrcError link) s = .next s) ∧
     (l.diagnosing = false → Answers (exec (.flitCrcError link) s) fun u =>
       ∃ n, (n = 1 ∨ n = l.failing + 1) ∧
         u = { s with links := Map.set s.links link { l with failing := n, diagnosing := decide (8 ≤ n) } }) ∧
     (l.diagnosing = true → Answers (exec (.laneDiagnosis link failing) s) fun u =>
       Map.get healthyLink u.links link = { failing := 0, badLanes := l.badLanes + failing, diagnosing := false } ∧
       (∀ k, k ≠ link → Map.get healthyLink u.links k = Map.get healthyLink s.links k) ∧
       (u.physTile (link / 4)).errorCount = (s.physTile (link / 4)).errorCount + 1 ∧ u.tiles = s.tiles) ∧
     (l.diagnosing = false → exec (.laneDiagnosis link failing) s = .next s) ∧
     ((s.physTile p).keepAliveLost = false → (s.physTile (physStep p dir)).keepAliveLost = false →
       let working := 256 + (if s.crossesSeam p dir then 16 else 4) - (s.link p dir).badLanes
       s.laneState p dir = if 256 ≤ working then 0 else if 128 ≤ working then 1 else 2) ∧
     ((s.physTile p).keepAliveLost = true ∨ (s.physTile (physStep p dir)).keepAliveLost = true → s.laneState p dir = 2)) ∧
  (∀ (s : State) (t dir entry f unc : Nat) (offset drift : Int) (alt : PathAlt),
     let hop := dir < 4 ∧ s.hasNeighbour t dir = true;
     (hop → s.legalPath t dir entry = true → Answers (exec (.remapEntryChange t dir entry) s) fun u =>
       u.gaugeGen = s.gaugeGen + 2 ∧
       (u.gaugeOf t dir).toNat = s.composeGauge t (pathDirs entry) (bitField entry 2 4) % 2 ^ 32 ∧ ∀ e, e ≠ dir → u.gaugeOf t e = s.gaugeOf t e) ∧
     (¬ (hop ∧ s.legalPath t dir entry = true) → exec (.remapEntryChange t dir entry) s = .next s) ∧
     (hop → Answers (exec (.gaugeRefresh t dir entry) s) fun u =>
       u.gaugeGen = s.gaugeGen + 2 ∧
       (u.gaugeOf t dir).toNat = s.composeGauge t (pathDirs (s.gaugeOf t dir).toNat) (bitField entry 2 4) % 2 ^ 32 ∧
       ∀ e, e ≠ dir → u.gaugeOf t e = s.gaugeOf t e) ∧
     (¬ hop → exec (.gaugeRefresh t dir entry) s = .next s) ∧
     (dir < 4 → s.fieldHas f dir = true → Answers (exec (.fieldOffsetMeasurement f dir offset unc drift) s) fun u =>
       u.gaugeGen = s.gaugeGen + 2 ∧ Map.get (0, 0, 0) u.offsets (4 * f + dir) = (offset, unc % 2 ^ 32, drift)) ∧
     (¬ (dir < 4 ∧ s.fieldHas f dir = true) → exec (.fieldOffsetMeasurement f dir offset unc drift) s = .next s) ∧
     (let down := hop ∧ s.pathState t (s.gaugeOf t dir).toNat = 2
       let s1 := (s.writeError t 0x21 9 0xFF 0 0 dir 0).loseFlits t dir
       let paths := s1.legalDirs (s1.physOf t) (s1.physOf (neighbour t dir));
       (¬ down → exec (.pathDown t dir alt) s = .next s) ∧
       (down → s1.legalPath t dir entry = true →
         exec (.pathDown t dir (.remap entry)) s = .next (s1.setHop t dir (pathDirs entry) (bitField entry 2 4))) ∧
       (down → paths ≠ [] → Answers (exec (.pathDown t dir alt) s) fun u => ∃ ds ∈ paths, ∃ band, u = s1.setHop t dir ds band) ∧
       (down → paths = [] → ∀ p, s1.chooseSpare t (altSpare alt) = some p →
         exec (.pathDown t dir alt) s = .next (s1.rebindTile t p) ∧ s1.spareOk t p = true) ∧
       (down → paths = [] → s1.chooseSpare t (altSpare alt) = none → ∀ p, s1.chooseSpare (neighbour t dir) (altSpare alt) = some p →
         exec (.pathDown t dir alt) s = .next (s1.rebindTile (neighbour t dir) p) ∧ s1.spareOk (neighbour t dir) p = true) ∧
       (down → paths = [] → s1.chooseSpare t (altSpare alt) = none → s1.chooseSpare (neighbour t dir) (altSpare alt) = none →
         exec (.pathDown t dir alt) s = .next (s1.hopDown t dir))))

/-- R152, R211, R222 to R225: the scrubber corrects a single-bit error and counts it; an uncorrectable word under parity, or a poisoned
one, is rebuilt, in a protected window as the parity byte XOR the other members' bytes; elsewhere it is left poisoned, or refilled in the
system region; a record of unit 8 is written and no fault taken; where a second word of the group is bad or a node of it lost, the word is
not rebuilt and the swatch stops, in the retention area every swatch with an actor on the tile. R304: how the operations of a lost tile
begin again. A live stream starts at the element at which it resumes, with nothing outstanding and no request of its old course left; one
that runs no more has the record that the retention area kept; a copy starts from its first word. R11, R13, R14, R17, R147, R152, R153,
R304, R350, R351: the physical tile of a lost node hosts nothing more. A lost tile is darned onto a spare that may take its coordinate,
whichever one fits, its windows rebuilt from parity and the other members, its firing retried or voided and its engines resumed; a lost
parity tile's node is bound anew and its parity formed again; without a spare, or where another node of the group is lost already, every
swatch with an actor on the affected tiles stops with 0x22 and the firing of the lost tile ends. Retirement marks the physical tile; a
lost regulator phase leaves a record of unit 7, and a tile left too weak for its clock is retired. Which spare is taken is open (log entry
10), that darning is one step is log entry 26, and what the rules leave open of a lost tile and of a failed rebuild is log entries 13 and
14 (DESIGN CHOICE). -/
def Obligations.SoftErrorAndLossResults : Prop :=
  (∀ (s : State) (t a : Nat),
     let w := a / 4 * 4
     let x := s.tile t
     let k := x.windowOwner w
     let bad := w ∈ x.uncorrectable ∨ (w ∈ x.poisoned ∧ s.underParity t w = true)
     let clean := fun (u : State) => w ∉ (u.tile t).uncorrectable ∧ w ∉ (u.tile t).poisoned
     let noted := fun (u : State) => (u.physTile (s.physOf t)).errorCount = (s.physTile (s.physOf t)).errorCount + 1;
     (3 * 2 ^ 20 ≤ w → exec (.scrub t a) s = .next s) ∧
     (w < 3 * 2 ^ 20 → ¬ bad → Answers (exec (.scrub t a) s) fun u =>
       (u.tile t).sram = x.sram ∧ w ∉ (u.tile t).singleError ∧ (u.tile t).firing = x.firing ∧ (u.tile t).poisoned = x.poisoned ∧
       (w ∉ x.singleError → (u.tile t).cword 0x07F = x.cword 0x07F) ∧
       (x.singleError.count w = 1 → (u.tile t).cword 0x07F = min (x.cword 0x07F + 1) 0xFFFFFFFF)) ∧
     (w < 3 * 2 ^ 20 → bad → x.isProtected w = true → s.rebuildFails t w = false → Answers (exec (.scrub t a) s) fun u =>
       clean u ∧ noted u ∧ (∀ i, i < 4 → Memory.read (u.tile t).sram (w + i) = s.rebuiltByte t (w + i)) ∧
       ∀ b, b < w ∨ w + 4 ≤ b → Memory.read (u.tile t).sram b = Memory.read x.sram b) ∧
     (w < 3 * 2 ^ 20 → bad → x.isProtected w = false → s.lostWord t w = false → Answers (exec (.scrub t a) s) fun u =>
       w ∉ (u.tile t).uncorrectable ∧ noted u ∧ (w ∈ (u.tile t).poisoned ↔ x.place t w ≠ .system) ∧ (u.tile t).firing = x.firing ∧
       (u.tile t).sram = x.sram) ∧
     (w < 3 * 2 ^ 20 → bad → s.lostWord t w = true → Answers (exec (.scrub t a) s) fun u =>
       noted u ∧ (w ∈ (u.tile t).uncorrectable ↔ w ∈ x.uncorrectable) ∧
       ∀ n, (s.swatch n).stop = none → (s.swatch n).phase ≠ .bindingOff →
         (if x.isProtected w then n = (x.slot k).swatch else n ∈ Map.keys s.swatches ∧ ∃ b ∈ s.actorsOf n, b.1 = t) → (u.swatch n).gates = false)) ∧
  (∀ (s : State) (t k : Nat),
     let r := (s.tile t).stream k
     let run := (s.tile t).run k
     let u := s.resumeStream t k
     let n := s.resumeFrom t k;
     (strBusy r = true → run.voiding = false →
       ((u.tile t).run k).begun = n ∧ ((u.tile t).run k).eng.outstanding = [] ∧ ((u.tile t).run k).eng.lastReq = [] ∧
       strPerformed ((u.tile t).stream k) = n % 2 ^ 64 ∧ strState ((u.tile t).stream k) = strState r ∧
       (∀ q ∈ u.memReqs, q.op ≠ s.streamRef t k) ∧ (∀ q ∈ u.memReplies, q.op ≠ s.streamRef t k) ∧
       ∀ q ∈ s.memReqs, q.op ≠ s.streamRef t k → q ∈ u.memReqs) ∧
     (strDstKind r ≠ 2 → strState r = 3 → n = run.kept) ∧
     (strDstKind r ≠ 2 → strState r ≠ 3 → atOuter r n = true ∧ n ≤ run.kept) ∧
     (strBusy r = false → ∀ r' ∈ Map.find (s.tile t).keptStreams k, strState ((u.tile t).stream k) = min 1 (strState r')) ∧
     (∀ c ∈ ((s.resumeEngines t).tile t).copies, c.begun = 0 ∧ c.done = 0 ∧ c.eng.outstanding = [] ∧ c.eng.lastReq = []) ∧
     ∀ q ∈ (s.resumeEngines t).memReqs, ∀ id, q.op.key = .copy id → q.op.tile ≠ t) ∧
  (∀ (s : State) (t spare p : Nat) (keep : Bool),
     let m := s.markLost t
     let others := (m.groupNodes t).filter fun n => !(n == t) && m.hostLost n
     (isNode s.variant t = true → exec (.darning t spare) s = .next ((s.recordLoss t 0).loseTile t spare)) ∧
     (isNode s.variant t = false → exec (.darning t spare) s = .next s ∧ exec (.tileRetirement t spare) s = .next s) ∧
     (m.physTile (s.physOf t)).lost = true ∧ (∀ n, m.spareOk n (s.physOf t) = false) ∧
     (others = [] → ∀ q, m.chooseSpare t spare = some q → m.spareOk t q = true ∧
       (t < selvage → s.loseTile t spare = (m.unbuilt t).foldl (fun u k => u.stopSwatch (m.slot t k).swatch 0x20 t k)
           ((((m.darn t).rebindTile t q).loseFirings t).resumeEngines t) ∧
         ((m.darn t).rebindTile t q).physOf t = q) ∧
       (selvage ≤ t → (s.loseTile t spare).physOf t = q ∧
         Map.get [] (s.loseTile t spare).parity (t - parityNode 0) = m.freshParity (t - parityNode 0))) ∧
     (others = [] → m.chooseSpare t spare = none → t < selvage → s.loseTile t spare = (m.stopTile t 0x22).endOnLost t) ∧
     (others = [] → m.chooseSpare t spare = none → selvage ≤ t →
       s.loseTile t spare = (m.groupMembers (t - parityNode 0)).foldl (fun u n => u.stopTile n 0x22) m) ∧
     (others ≠ [] → s.loseTile t spare = others.foldl State.stopNode (m.stopNode t)) ∧
     (∀ a b, s.inOneGroup a b = true → s.input (.twoLost a b) = (((s.markLost a).markLost b).stopNode a).stopNode b) ∧
     (∀ n c, n ∈ Map.keys s.swatches → (∃ b ∈ s.actorsOf n, b.1 = t) → (s.swatch n).stop = none → (s.swatch n).phase ≠ .bindingOff →
       ((s.stopTile t c).swatch n).gates = false ∧ ∃ i ∈ ((s.stopTile t c).swatch n).stop, i.cause = c ∧ i.tile = t ∧ i.slot = 0xFF) ∧
     (∀ a, Memory.read ((s.darn t).tile t).sram a = if a ∈ s.rebuiltAddrs t then s.rebuiltByte t a else 0) ∧
     (isNode s.variant t = true →
       let s1 := s.recordLoss t 4
       let s2 : State := { s1 with phys := Map.set s1.phys (s1.physOf t) { s1.physTile (s1.physOf t) with retired := true } }
       Answers (exec (.tileRetirement t spare) s) fun u => u = s2.loseTile t spare ∧ s2.spareOk t (s.physOf t) = false) ∧
     (inGrid s.variant p = false → exec (.regulatorPhaseLoss p keep) s = .next s) ∧
     (inGrid s.variant p = true →
       let h := s.physTile p
       let s1 := ({ s with phys := Map.set s.phys p { h with
         phasesLost := if keep then h.phasesLost else min 4 (h.phasesLost + 1), keepAliveLost := h.keepAliveLost || keep } } : State).writeErrorAt
           p 0x22 7 0 0 0;
       (s1.physTile p).errorCount = h.errorCount + 1 ∧
       (s1.tooWeak p = false → exec (.regulatorPhaseLoss p keep) s = .next s1) ∧
       (s1.tooWeak p = true → h.retired = false → ∀ n, s1.nodeAt p = some n → exec (.regulatorPhaseLoss p keep) s = .next (s1.retireTile n 0)) ∧
       (s1.tooWeak p = true → s1.nodeAt p = none → Answers (exec (.regulatorPhaseLoss p keep) s) fun u => (u.physTile p).retired = true)))

/-- R189, R278 to R284, R290, R305: a running stream performs its next element, by the kinds of its endpoints; it stands still while it is
held back, marked or at its end, and an empty one that feeds a port with MARK pushes one token of zeros; one that voids what it has not
delivered pushes voids, whatever its state; a stopping one ends at its boundary. R278, R283: a token that a feeding stream pushes is
counted in its record, lands at its port with the tag of the consumer, and is marked where it is the last of a stream with MARK; an empty
stream delivers one token with MARK and none without. R221, R329, R331, R332: what an operation reads in its tile's SRAM it finds piece by
piece, each piece whole at a place of the service order that is not before what the operation has come to; with no write to those bytes
after that, it finds what SRAM holds. What it writes leaves every other byte as it was, and each of its own as it was or as written, the
latter where no other write comes after what the operation has come to. R223, R278, R282, R283, R298, R311, R316: an element from SRAM
moves to SRAM, or to DRAM as a request, or to the token being filled, whose last element pushes it; nothing else in SRAM changes, and the
count of elements begun goes up. What it leaves in SRAM is said for a stream that every write there comes before. R188, R278, R282 to
R284, R290, R298, R311: a stream from DRAM asks for the elements of one 64-byte block, no further than the tokens it may have begun, and
what a reply brings goes to SRAM; a drain of a port takes the elements of valid tokens to SRAM or DRAM, skips a void token whole and logs
it, and takes a token with its last element, from its queue, or first one of those that it takes once more after the loss of its tile,
which is neither logged nor given back again. What it leaves in SRAM is said for a stream that every write there comes before. Which place
in the service order an access takes is open (log entry 8), and how a stream that drains takes tokens once more after the loss of its tile
is log entry 14 (DESIGN CHOICE). -/
def Obligations.StreamSteps : Prop :=
  (∀ (s : State) (t k : Nat),
     let r := (s.tile t).stream k
     let run := (s.tile t).run k
     let sl := s.slot t (paramSlot (strDstParam r))
     let pp := paramPort (strDstParam r)
     let runs := s.power.failing = false
     let active := runs ∧ run.voiding = false ∧ (strState r = 2 ∨ (strState r = 5 ∧ run.outerOnly = true))
     let s1 := s.modTile t fun x => x.endSbar k
     let free := (s.tile t).sbarLeft k = []
     let held := (strState r = 5 ∨ s1.streamHeld t k = true) ∧ atOuter r run.begun = true
     let zeros := List.replicate (sl.inWidth pp) (0 : Word32);
     (runs → strBusy r = true → run.voiding = true →
       let more := strTokens r < feedTotal r (sl.inWidth pp) ∧ (sl.inQueue pp).toks.length < sl.inSlots pp;
       (more → exec (.streamElement t k) s = .next (s.feedToken t k zeros true)) ∧ (¬ more → exec (.streamElement t k) s = .next s)) ∧
     (¬ active → ¬ (runs ∧ strBusy r = true ∧ run.voiding = true) → exec (.streamElement t k) s = .next s) ∧
     (active → ¬ free → exec (.streamElement t k) s = .next s) ∧
     (active → free → run.marked = true → exec (.streamElement t k) s = .next s1) ∧
     (active → free → run.marked = false → strTotal r ≤ run.begun →
       let empty := strDstKind r = 2 ∧ strTotal r = 0 ∧ strTokens r < feedTotal r (sl.inWidth pp) ∧ s1.mayFeed t k = true;
       (empty → exec (.streamElement t k) s = .next (s1.feedToken t k zeros false)) ∧ (¬ empty → exec (.streamElement t k) s = .next s1)) ∧
     (active → free → run.marked = false → run.begun < strTotal r →
       (held → exec (.streamElement t k) s = .next s1) ∧
       (¬ held → exec (.streamElement t k) s =
         .next (if strSrcKind r = 0 then s1.fromSram t k else if strSrcKind r = 1 then s1.fromDram t k else s1.fromPort t k))) ∧
     (let ends := strState r = 5 ∧ run.voiding = false ∧ run.eng.outstanding = [] ∧
         (run.outerOnly = false ∨ run.marked = true ∨ atOuter r run.begun = true ∨ strTotal r ≤ run.begun);
       (ends → Answers (exec (.streamStopBoundary t k) s) fun u =>
         u = s.finishOp (s.streamRef t k) run.stopStatus ∧ strState ((u.tile t).stream k) = 0) ∧
       (¬ ends → exec (.streamStopBoundary t k) s = .next s))) ∧
  (∀ (s : State) (t k : Nat) (words : List Word32) (void : Bool),
     let r := (s.tile t).stream k
     let sl := s.slot t (paramSlot (strDstParam r))
     let pp := paramPort (strDstParam r)
     let w := sl.inWidth pp
     let e := strElem r;
     (strTotal r = 0 → feedTotal r w = if bitField (strDstParam r) 8 1 = 1 then 1 else 0) ∧
     (0 < strTotal r → 0 < 4 * w / e → feedTotal r w = (strTotal r + 4 * w / e - 1) / (4 * w / e)) ∧
     (strTokens r + 1 < 2 ^ 32 → strVoids r + 1 < 2 ^ 32 → ∃ r', s.feedToken t k words void = (s.modTile t fun x => x.setStream k r').landToken t
         (paramSlot (strDstParam r)) pp
         { words := words, void := void, tag := sl.tag,
           mark := !void && strTokens r + 1 == feedTotal r w && bitField (strDstParam r) 8 1 == 1 } [] ∧
       strTokens r' = strTokens r + 1 ∧ strVoids r' = (if void then strVoids r + 1 else strVoids r) ∧ strState r' = strState r)) ∧
  (∀ (s : State) (o : OpRef) (k a n : Nat) (bs : List Byte), 0 < k →
     let x := s.tile o.tile
     let b := s.engineBytes o k a n
     let seen := s.sramSeen o
     let u := s.opWrite o k a bs
     b.1.length = n ∧ (b.2.tile o.tile).sram = x.sram ∧ (b.2.tile o.tile).order.hist = x.order.hist ∧
     (x.order.writesAfter seen 0 a n = [] → b.1 = Memory.readN x.sram a n) ∧
     (0 < n → n ≤ k → ∃ p, p.lt seen = false ∧ b.1 = x.bytesAt p a n ∧
       ∀ g ∈ s.opEngine o, (b.2.sramSeen o).lt p = false) ∧
     (∀ j, j < a ∨ a + bs.length ≤ j → Memory.read (u.tile o.tile).sram j = Memory.read x.sram j) ∧
     (∀ i (h : i < bs.length), Memory.read (u.tile o.tile).sram (a + i) = bs[i] ∨
       Memory.read (u.tile o.tile).sram (a + i) = Memory.read x.sram (a + i)) ∧
     ((∀ e ∈ x.order.hist, seen.lt e.stamp = false) → Memory.readN (u.tile o.tile).sram a bs.length = bs)) ∧
  (∀ (s : State) (t k pa : Nat),
     let x := s.tile t
     let r := x.stream k
     let run := x.run k
     let n := run.begun
     let e := strElem r
     let u := s.fromSram t k
     let bytes := fun (m : Nat) => (s.engineBytes (s.streamRef t k) (min 8 e) (strSrcAddr r n) (m * e)).1
     let settled := ∀ e ∈ x.order.hist, run.eng.reach.sram.lt e.stamp = false
     let m := runLength r (strDstAddr r) n (strTotal r - n)
     let w := (s.slot t (paramSlot (strDstParam r))).inWidth (paramPort (strDstParam r))
     let filled := run.filling ++ bytes 1;
     (strBusy r = true → strDstKind r = 0 → x.badWord (strSrcAddr r n) e = none → touchesBarrier x.barriers (strDstAddr r n) e = false →
       (settled → Memory.readN (u.tile t).sram (strDstAddr r n) e = bytes 1) ∧
       (∀ a, a < strDstAddr r n ∨ strDstAddr r n + e ≤ a → Memory.read (u.tile t).sram a = Memory.read x.sram a) ∧
       ((u.tile t).run k).begun = n + 1) ∧
     (strBusy r = true → strDstKind r = 1 → run.eng.page (strDstAddr r n) true = some pa → x.badWord (strSrcAddr r n) (m * e) = none →
       x.mayRequest run.eng = true →
       u.memReqs = s.memReqs ++
         [{ op := s.streamRef t k, station := s.home (s.opTag (s.streamRef t k)) (strDstAddr r n), seq := run.eng.seq,
            pred := Map.find run.eng.lastReq (s.owner pa), actor := s.owner pa, pa := pa, kind := .write (bytes m), held := false }] ∧
       ((u.tile t).run k).begun = n + m ∧ (u.tile t).sram = x.sram) ∧
     (strBusy r = true → strDstKind r = 2 → x.badWord (strSrcAddr r n) e = none → s.mayFeed t k = true →
       filled.length < 4 * w → n + 1 ≠ strTotal r →
       ((u.tile t).run k).filling = filled ∧ strTokens ((u.tile t).stream k) = strTokens r ∧ (u.tile t).sram = x.sram) ∧
     (strBusy r = true → strDstKind r = 2 → x.badWord (strSrcAddr r n) e = none → s.mayFeed t k = true →
       filled ≠ [] → filled.length ≤ 4 * w → (filled.length = 4 * w ∨ n + 1 = strTotal r) → strTokens r + 1 < 2 ^ 32 →
       strTokens ((u.tile t).stream k) = strTokens r + 1 ∧ ((u.tile t).run k).filling = []) ∧
     (strDstKind r = 2 → s.mayFeed t k = false → u = s) ∧
     (strDstKind r = 1 → run.eng.page (strDstAddr r n) true = none → u = s.probePage (s.streamRef t k) (strDstAddr r n) true)) ∧
  (∀ (s : State) (t k pa : Nat),
     let x := s.tile t
     let r := x.stream k
     let run := x.run k
     let n := run.begun
     let e := strElem r
     let o := s.streamRef t k
     let asks := fun (u : State) (va m : Nat) (kind : MemKind) =>
       u.memReqs = s.memReqs ++
         [{ op := o, station := s.home (s.opTag o) va, seq := run.eng.seq, pred := Map.find run.eng.lastReq (s.owner pa), actor := s.owner pa,
            pa := pa, kind := kind, held := false }] ∧
       ((u.tile t).run k).begun = n + m ∧ (u.tile t).sram = x.sram
     let limit := if strDstKind r = 2 then min (strTotal r) (s.feedLimit t k) - n else strTotal r - n
     let m := runLength r (strSrcAddr r) n limit
     let settled := ∀ e ∈ x.order.hist, run.eng.reach.sram.lt e.stamp = false;
     (m = 0 → s.fromDram t k = s) ∧
     (0 < m → run.eng.page (strSrcAddr r n) false = none → s.fromDram t k = s.probePage o (strSrcAddr r n) false) ∧
     (0 < m → run.eng.page (strSrcAddr r n) false = some pa → x.mayRequest run.eng = false → s.fromDram t k = s) ∧
     (0 < m → run.eng.page (strSrcAddr r n) false = some pa → x.mayRequest run.eng = true →
       asks (s.fromDram t k) (strSrcAddr r n) m (.read (m * e))) ∧
     (m ≤ limit ∧ ∀ j, j < m → strSrcAddr r (n + j) / 64 = strSrcAddr r n / 64) ∧
     (∀ q rest, run.eng.outstanding = q :: rest → ∀ bs, q.data = some bs → strBusy r = true → strDstKind r = 0 →
       touchesBarrier x.barriers (strDstAddr r q.first) bs.length = false →
       let u := s.absorbStream t k 1
       (settled → Memory.readN (u.tile t).sram (strDstAddr r q.first) bs.length = bs) ∧ ((u.tile t).run k).eng.outstanding = rest ∧
       ∀ a, a < strDstAddr r q.first ∨ strDstAddr r q.first + bs.length ≤ a → Memory.read (u.tile t).sram a = Memory.read x.sram a) ∧
     (let ps := paramSlot (strSrcParam r)
       let pp := paramPort (strSrcParam r)
       let sl := s.slot t ps
       let q := sl.outQueue pp
       let ept := 4 * sl.outWidth pp / e
       let u := s.fromPort t k
       let left := u.drainQueue t k
       let kept := run.redo ≠ [] → ((u.slot t ps).outQueue pp).local_ = q.local_;
       (s.drainQueue t k = run.redo ++ q.local_) ∧
       (s.drainQueue t k = [] → u = s) ∧
       (∀ tok toks, s.drainQueue t k = tok :: toks → pp < 8 →
         let bytes := (wordsBytes (tok.words.map BitVec.toNat)).drop (run.drained * e);
         (tok.void = true →
           ((u.tile t).run k).begun = n + min (ept - run.drained) (strTotal r - n) ∧ (u.tile t).sram = x.sram ∧ u.memReqs = s.memReqs ∧
           u.swatch sl.swatch =
             (if run.redo = [] then s.logVoid sl.swatch sl.scopeNo (sl.outEdge pp) (sl.headOrdinal pp) else s).swatch sl.swatch ∧
           (run.drained < ept → ept - run.drained ≤ strTotal r - n → strTokens r + 1 < 2 ^ 32 → strVoids r + 1 < 2 ^ 32 →
             left = toks ∧ kept ∧ strTokens ((u.tile t).stream k) = strTokens r + 1 ∧ strVoids ((u.tile t).stream k) = strVoids r + 1)) ∧
         (tok.void = false → strBusy r = true → strDstKind r = 0 → e ≤ bytes.length →
           touchesBarrier x.barriers (strDstAddr r n) e = false →
           (settled → Memory.readN (u.tile t).sram (strDstAddr r n) e = bytes.take e) ∧
           (∀ a, a < strDstAddr r n ∨ strDstAddr r n + e ≤ a → Memory.read (u.tile t).sram a = Memory.read x.sram a) ∧
           ((u.tile t).run k).begun = n + 1 ∧
           (run.drained + 1 < ept → n + 1 < strTotal r → left = tok :: toks ∧ ((u.tile t).run k).drained = run.drained + 1) ∧
           (run.drained + 1 = ept → strTokens r + 1 < 2 ^ 32 →
             left = toks ∧ kept ∧ ((u.tile t).run k).drained = 0 ∧ strTokens ((u.tile t).stream k) = strTokens r + 1 ∧
             ((u.tile t).run k).marked = (run.marked || (tok.mark && bitField (strSrcParam r) 9 1 == 1)))) ∧
         (tok.void = false → strDstKind r = 1 → run.eng.page (strDstAddr r n) true = none → u = s.probePage o (strDstAddr r n) true) ∧
         (tok.void = false → strDstKind r = 1 → run.eng.page (strDstAddr r n) true = some pa → x.mayRequest run.eng = true → ∃ m,
           let all := ((drainable (bitField (strSrcParam r) 9 1 == 1) (s.drainQueue t k)).flatMap fun tok => wordsBytes (tok.words.map BitVec.toNat)).drop
             (run.drained * e)
           m = runLength r (strDstAddr r) n (min (strTotal r - n) (all.length / e)) ∧ asks u (strDstAddr r n) m (.write (all.take (m * e)))))))

/-- R188, R291, R292, R294, R295, R303, R307, R308, R325: a copy within the tile moves a word at a time, which is left where every write
there comes before the copy; a copy request token starts its copy under an entry reserved for the producer, or is dropped where it is
void; an operation that has been performed writes its completion. Which place in the service order an access takes is open (log entry 8).
-/
def Obligations.CopyAndCompletionSteps : Prop :=
  ∀ (s : State) (t k p id : Nat) (tok : Token) (rest : List Token),
    (∀ c ∈ (s.tile t).copy? id,
      let goes := (s.tile t).copyInProgress id = true ∧ c.paused = false ∧ c.status = 0 ∧ s.power.failing = false
      let a := copyAddr c.src + c.begun
      let b := copyAddr c.dst + c.begun;
      (¬ goes → exec (.copyWord t id) s = .next s) ∧
      (goes → copyDram c.src = false → copyDram c.dst = false → c.begun < c.len → (s.tile t).badWord a 4 = none →
        touchesBarrier (s.tile t).barriers b 4 = false → Answers (exec (.copyWord t id) s) fun u =>
          ((∀ e ∈ (s.tile t).order.hist, c.eng.reach.sram.lt e.stamp = false) →
            Memory.readN (u.tile t).sram b 4 = (s.engineBytes (copyRef t id) 4 a 4).1) ∧
          (∀ j, j < b ∨ b + 4 ≤ j → Memory.read (u.tile t).sram j = Memory.read (s.tile t).sram j) ∧
          ∀ d ∈ (u.tile t).copy? id, d.begun = c.begun + 4 ∧ d.done = c.done + 4) ∧
      (goes → (copyDram c.src = true ∨ copyDram c.dst = true) → exec (.copyWord t id) s = .next (s.copyStep t c)) ∧
      (let o := copyRef t id
        let asks := fun (va pa n : Nat) (kind : MemKind) =>
          (s.copyStep t c).memReqs = s.memReqs ++
            [{ op := o, station := s.home (s.opTag o) va, seq := c.eng.seq, pred := Map.find c.eng.lastReq (s.owner pa), actor := s.owner pa,
               pa := pa, kind := kind, held := false }] ∧
          ((s.copyStep t c).tile t).sram = (s.tile t).sram ∧ ∀ d ∈ ((s.copyStep t c).tile t).copy? id, d.begun = c.begun + n
        let room := (s.tile t).mayRequest c.eng = true
        let n := fun (va : Nat) => min (c.len - c.begun) (64 - va % 64);
        (copyDram c.src = false → copyDram c.dst = true → c.begun < c.len → c.eng.page b true = none → s.copyStep t c = s.probePage o b true) ∧
        (copyDram c.src = false → copyDram c.dst = true → c.begun < c.len → (s.tile t).badWord a (n b) = none → room →
          ∀ pa, c.eng.page b true = some pa → asks b pa (n b) (.write (s.engineBytes o 4 a (n b)).1)) ∧
        (copyDram c.src = true → copyDram c.dst = false → c.begun < c.len → c.eng.page a false = none → s.copyStep t c = s.probePage o a false) ∧
        (copyDram c.src = true → copyDram c.dst = false → c.begun < c.len → room → ∀ pa, c.eng.page a false = some pa →
          asks a pa (n a) (.read (n a))) ∧
        (copyDram c.src = true → copyDram c.dst = true → c.eng.outstanding = [] → c.begun < c.len → room → ∀ pa pb,
          c.eng.page a false = some pa → c.eng.page b true = some pb → asks a pa (min (n a) (n b)) (.read (min (n a) (n b)))) ∧
        (copyDram c.src = true → copyDram c.dst = true → ∀ q bs, c.eng.outstanding = [q] → q.data = some bs →
          ∀ pb, c.eng.page (copyAddr c.dst + q.first) true = some pb → asks (copyAddr c.dst + q.first) pb 0 (.write bs)))) ∧
    ((s.tile t).copy? id = none → exec (.copyWord t id) s = .next s) ∧
    (let x := s.tile t
      let sl := x.slot k
      bitField (x.edgeFlags k (sl.outEdge p)) 1 1 = 1 → (sl.outQueue p).local_ = tok :: rest →
        (tok.void = true → Answers (exec (.copyRequestToken t k p) s) fun u =>
          ((u.slot t k).outQueue p).local_ = rest ∧ (u.tile t).copies = x.copies ∧
          (p < 8 → (u.slot t k).free p = (sl.free p + 1) % 2 ^ 16 ∧ (u.slot t k).retBase p = (sl.retBase p + 1) % 2 ^ 32)) ∧
        (tok.void = false → ∀ i ∈ x.freeEntryNo, Answers (exec (.copyRequestToken t k p) s) fun u =>
          ((u.slot t k).outQueue p).local_ = rest ∧
          ((u.tile t).entry i).state = .reserved ∧ ((u.tile t).entry i).owner = k ∧ (u.tile t).copies.length = x.copies.length + 1 ∧
          ∀ c ∈ (u.tile t).copies.getLast?, c.slot = k ∧ c.src = packetSrc tok.words ∧ c.dst = packetDst tok.words ∧
            c.len = packetWord tok.words 4 ∧ c.eng.entry = i ∧ c.eng.swatch = sl.swatch ∧ c.eng.scope = sl.scopeNo ∧
            c.status = packetCause x t k (sl.cls == 2) tok.words) ∧
        (tok.void = false → x.freeEntryNo = none → exec (.copyRequestToken t k p) s = .next s)) ∧
    (∀ st ∈ s.streamEnd t k, exec (.completionMessage t (.stream k)) s = .next (s.finishOp (s.streamRef t k) st)) ∧
    (s.streamEnd t k = none → exec (.completionMessage t (.stream k)) s = .next s) ∧
    (∀ c ∈ (s.tile t).copy? id,
      (c.status ≠ 0 → exec (.completionMessage t (.copy id)) s = .next (s.endFatal (copyRef t id) c.status (c.src % 2 ^ 32))) ∧
      (c.status = 0 → c.deferred = false → c.eng.outstanding = [] → c.len ≤ c.begun → (s.tile t).copyInProgress id = true →
        c.eng.orphan = false → Answers (exec (.completionMessage t (.copy id)) s) fun u =>
          (u.tile t).copy? id = none ∧ ((u.tile t).entry c.eng.entry).state = .full ∧ ((u.tile t).entry c.eng.entry).owner = c.slot ∧
          (((u.tile t).entry c.eng.entry).words.getD 1 0).toNat = (c.kind + 2 ^ 16 * 0x10 + 2 ^ 24 * c.slot) % 2 ^ 32 ∧
          ((u.tile t).entry c.eng.entry).words.getD 2 0 = BitVec.ofNat 32 c.tag ∧
          ((u.tile t).entry c.eng.entry).words.getD 4 0 = BitVec.ofNat 32 c.done)) ∧
    (∀ a ∈ (s.tile t).atomic? id, ∀ v ∈ a.replied,
      exec (.completionMessage t (if a.op = 9 then .watch id else .atomic id)) s = .next (s.modTile t fun x => x.finishAtomic id 0 v.1 v.2))

/-- R298, R299, R301 to R303, R325: a station answers a probe from its cache, drops an entry that refuses for want of a right, and walks
on a miss, 64 at most; a walk answers every probe that shares it and is cached unless it refused; an engine learns the page, or pauses, or
ends on cause 0x12; the owner is told of a standing notice, those of one tile in send order. That a stopping stream which meets a
translation fault ends at once is log entry 30 (DEDUCED). -/
def Obligations.TranslationSteps : Prop :=
  ∀ (s : State) (i : Nat),
    (∀ p ∈ s.xprobes[i]?, p.walking = false → isFirst s.probeWay s.xprobes i = false → exec (.translationProbe i) s = .next s) ∧
    (∀ p ∈ s.xprobes[i]?, p.walking = false → isFirst s.probeWay s.xprobes i = true →
      let st := s.home p.tag p.va;
      (∀ x ∈ s.cached st p.tag p.va,
        (hasRights x.rights p.need = true → exec (.translationProbe i) s = .next { s with
          xprobes := s.xprobes.eraseIdx i, probeReplies := s.probeReplies ++ [p.reply (some ((x.pa + (p.va - x.base)) / 4096)) 0] }) ∧
        (hasRights x.rights p.need = false → Answers (exec (.translationProbe i) s) fun u =>
          u.probeReplies = s.probeReplies ++ [p.reply none 0x11] ∧ u.xprobes = s.xprobes.eraseIdx i ∧ x ∉ Map.get [] u.xlations st)) ∧
      (s.cached st p.tag p.va = none →
        let walks := (p.tag, p.vpage) ∈ s.walking st ∨ (s.walking st).length < 64;
        (walks → exec (.translationProbe i) s = .next { s with xprobes := s.xprobes.modify i fun p => { p with walking := true } }) ∧
        (¬ walks → exec (.translationProbe i) s = .next s))) ∧
    (∀ p ∈ s.xprobes[i]?, p.walking = true →
      let shares := fun (q : XlateProbe) => q.walking && q.tag == p.tag && q.vpage == p.vpage;
      (∀ c, s.walk p.tag p.va = .error c → exec (.pageWalk i) s = .next { s with
        xprobes := s.xprobes.filter fun q => !shares q, probeReplies := s.probeReplies ++ (s.xprobes.filter shares).map fun q => q.reply none c }) ∧
      (∀ x, s.walk p.tag p.va = .ok x → Answers (exec (.pageWalk i) s) fun u =>
        u.xprobes = s.xprobes.filter (fun q => !shares q) ∧
        (u.probeReplies = s.probeReplies ++ (s.xprobes.filter shares).map fun q =>
          if hasRights x.rights q.need then q.reply (some (x.page q.va)) 0 else q.reply none 0x11) ∧
        ((∀ q ∈ s.xprobes, shares q = true → hasRights x.rights q.need = true) → x ∈ Map.get [] u.xlations (s.home p.tag p.va)) ∧
        (¬ (∀ q ∈ s.xprobes, shares q = true → hasRights x.rights q.need = true) → u.xlations = s.xlations))) ∧
    (∀ p ∈ s.probeReplies[i]?, isFirst s.probeReplyWay s.probeReplies i = false → exec (.probeReply i) s = .next s) ∧
    (∀ p ∈ s.probeReplies[i]?, isFirst s.probeReplyWay s.probeReplies i = true →
      let s1 := { s with probeReplies := s.probeReplies.eraseIdx i };
      (s.opEngine p.op = none → exec (.probeReply i) s = .next s1) ∧
      (∀ g ∈ s.opEngine p.op,
        let settled := ∀ q ∈ g.outstanding, q.data.isSome = true
        let s2 := s1.setOpEngine p.op { g with probing := none }
        let va := s.opAddress p.op p.vpage;
        (p.page = none → ¬ settled → exec (.probeReply i) s = .next s) ∧
        (p.page = none → settled → s.voidingStream p.op = true → exec (.probeReply i) s = .next s2) ∧
        (p.page = none → settled → s.voidingStream p.op = false → p.cause = 0x12 → exec (.probeReply i) s = .next (s2.endFatal p.op 0x12 va)) ∧
        (p.page = none → settled → s.voidingStream p.op = false → p.cause ≠ 0x12 → s.stoppingStream p.op = false →
          exec (.probeReply i) s = .next (s2.pauseOp p.op g p.cause va)) ∧
        (∀ k, p.op.key = .stream k → p.page = none → settled → s.voidingStream p.op = false → p.cause ≠ 0x12 → s.stoppingStream p.op = true →
          exec (.probeReply i) s = .next (s2.finishOp p.op ((s.tile p.op.tile).run k).stopStatus)) ∧
        (∀ pg ∈ p.page, (∀ id, p.op.key ≠ .atomic id ∧ p.op.key ≠ .watch id) → exec (.probeReply i) s = .next (s1.setOpEngine p.op
          { g with probing := none,
                   pages := { vpage := p.vpage, ppage := pg, write := p.write } ::
                     g.pages.filter (fun q => !(q.vpage == p.vpage && q.write == p.write)) })) ∧
        (∀ pg ∈ p.page, ∀ id, p.op.key = .atomic id → exec (.probeReply i) s =
          .next (s1.sendAtomic p.op id (pg * 4096 + va % 4096))))) ∧
    (∀ n ∈ s.notices[i]?,
      let first := isFirst Notice.way s.notices i = true;
      (n.stage = 0 → first → exec (.faultNotice i) s = .next { s with
        notices := s.notices.modify i (fun n => { n with stage := 1 }), host := { s.host with notices := s.host.notices ++ [.fault n.id] } }) ∧
      ((n.stage ≠ 0 ∨ ¬ first) → exec (.faultNotice i) s = .next s))

/-- R329, R331, R332: what a request reads it finds access by access, each whole at a place of its memory actor's service order that is
not before what its operation has come to; with no write to those bytes after that, it finds what DRAM holds. R290, R296, R297, R298,
R324, R326, R329, R332: requests, replies and probes between the same ends keep their order; a memory actor performs a request once its
predecessor has been: a read answers bytes, a write stores them, an atomic answers the old value and stores the new, at a place of the
actor's service order, as DRAM holds and keeps them where every write at that actor comes before the operation; a request before its time
is held, or refused when the store is full; a reply is applied in the operation's order; a watch registers, or is answered at once; a
retired unit leaves the home list. That a home list is rebuilt only while no request is in flight is log entry 27. Which place in the
service order an access takes is open (log entry 8). -/
def Obligations.MemorySteps : Prop :=
  (∀ (s : State) (r : MemReq) (n : Nat), r.pa + n ≤ 2 ^ 60 → 0 < s.accessSize r.op →
     let b := s.readRequest r n
     let seen := s.dramSeen r.op r.actor;
     b.1.length = n ∧ b.2.1.dram = s.dram ∧ b.2.1.dramOrder.hist = s.dramOrder.hist ∧ b.2.2.lt seen = false ∧
     (s.dramOrder.writesAfter seen r.actor r.pa n = [] → b.2.2 = seen ∧ b.1 = s.physRead r.pa n) ∧
     (0 < n → n ≤ s.accessSize r.op → b.1 = s.dramBytesAt b.2.2 r.actor r.pa n)) ∧
  (∀ (s : State) (i n : Nat) (station : Bool),
     (∀ r ∈ s.memReqs[i]?,
       let s1 := { s with memReqs := s.memReqs.eraseIdx i }
       let first := isFirst MemReq.way s.memReqs i = true
       let seen := s.dramSeen r.op r.actor
       let settled := ∀ e ∈ s.dramOrder.hist, e.node = r.actor → seen.lt e.stamp = false
       let reply := fun (data : List Byte) (flag : Nat) =>
         ({ op := r.op, station := r.station, actor := r.actor, seq := r.seq, data := data, flag := flag, again := none } : MemReply);
       (¬ first → exec (.memoryRequest i) s = .next s) ∧
       (∀ m, first → s.predDone r = true → r.kind = .read m → Answers (exec (.memoryRequest i) s) fun u =>
         u.memReplies = s.memReplies ++ [reply (s.readRequest r m).1 0] ∧ u.dram = s.dram ∧ u.memReqs = s.memReqs.eraseIdx i) ∧
       (∀ bs, first → s.predDone r = true → r.kind = .write bs → 0 < s.accessSize r.op → Answers (exec (.memoryRequest i) s) fun u =>
         (∀ j (h : j < bs.length), r.pa + j < memBytes s.variant →
           (Memory.read u.dram (r.pa + j) = bs[j] ∨ Memory.read u.dram (r.pa + j) = Memory.read s.dram (r.pa + j)) ∧
           (settled → Memory.read u.dram (r.pa + j) = bs[j])) ∧
         (∀ a, a < r.pa ∨ r.pa + bs.length ≤ a → Memory.read u.dram a = Memory.read s.dram a) ∧
         u.memReqs = s.memReqs.eraseIdx i ∧ reply [] 0 ∈ u.memReplies) ∧
       (∀ op size uns d b, first → s.predDone r = true → r.kind = .atomic op size uns d b →
         let w := atomBytes size
         let x := fun (p : Stamp) => leNat (s.dramBytesAt p r.actor r.pa w)
         let v := if op = 8 then d.toNat + b.toNat * 2 ^ 64 else d.toNat % 2 ^ (8 * w)
         let y := fun p => atomicResult op (8 * w) uns (x p) v (b.toNat % 2 ^ (8 * w))
         Answers (exec (.memoryRequest i) s) fun u => ∃ p, p.lt seen = false ∧
           reply (leBytes w (x p)) (y p).2 ∈ u.memReplies ∧ u.memReqs = s.memReqs.eraseIdx i ∧
           (∀ a, a < r.pa ∨ r.pa + w ≤ a → Memory.read u.dram a = Memory.read s.dram a) ∧
           (settled → x p = leNat (s.physRead r.pa w) ∧
             u.dram = match (y p).1 with
               | some z => Memory.writeN s.dram r.pa ((leBytes w z).take (memBytes s.variant - r.pa))
               | none => s.dram)) ∧
       (first → s.predDone r = false → r.held = true → exec (.memoryRequest i) s = .next s) ∧
       (first → s.predDone r = false → r.held = false → s.heldAt r.actor < 2048 →
         exec (.memoryRequest i) s = .next { s with memReqs := s.memReqs.modify i fun r => { r with held := true } }) ∧
       (first → s.predDone r = false → r.held = false → 2048 ≤ s.heldAt r.actor → exec (.memoryRequest i) s =
         .next { s1 with memReplies := s.memReplies ++
           [{ op := r.op, station := r.station, actor := r.actor, seq := r.seq, data := [], flag := 0, again := some r }] })) ∧
     (∀ p ∈ s.memReplies[i]?,
       let s1 := { s with memReplies := s.memReplies.eraseIdx i }
       let first := isFirst MemReply.way s.memReplies i = true;
       (¬ first → exec (.memoryReply i) s = .next s) ∧
       (first → s.opEngine p.op = none → exec (.memoryReply i) s = .next s1) ∧
       (∀ g ∈ s.opEngine p.op, first →
         (∀ r ∈ p.again, exec (.memoryReply i) s = .next { s1 with memReqs := s.memReqs ++ [{ r with held := false }] }) ∧
         (p.again = none → (∃ o ∈ g.outstanding, o.seq = p.seq ∧ o.write = true) →
           exec (.memoryReply i) s = .next (s1.ackWrite p.op g p.seq)) ∧
         (∀ id, p.op.key = .atomic id → p.again = none → (∀ o ∈ g.outstanding, o.write = false) →
           exec (.memoryReply i) s = .next (s1.setOpEngine p.op (g.setData p.seq p.data p.flag true))) ∧
         (∀ id, p.op.key = .copy id → p.again = none → (∀ o ∈ g.outstanding, o.write = false) → exec (.memoryReply i) s =
           .next ((s1.setOpEngine p.op (g.setData p.seq p.data 0 false)).absorbCopy p.op.tile id (g.outstanding.length + 1))) ∧
         (∀ k, p.op.key = .stream k → p.again = none → (∀ o ∈ g.outstanding, o.write = false) → exec (.memoryReply i) s =
           .next ((s1.setOpEngine p.op (g.setData p.seq p.data 0 false)).absorbStream p.op.tile k (g.outstanding.length + 1))))) ∧
     (∀ w ∈ s.watches[i]?,
       let turn := w.waiting = true ∧ (∀ v ∈ s.watches.take i, v.waiting = true → v.actor ≠ w.actor) ∧
         (s.watches.filter fun v => !v.waiting && v.actor == w.actor).length < 1024
       (turn → s.watchNow w = true → exec (.watchRegister i) s = .next (s.watchReply w 1)) ∧
       (turn → s.watchNow w = false →
         exec (.watchRegister i) s = .next { s with watches := s.watches.modify i fun w => { w with waiting := false } }) ∧
       (¬ turn → exec (.watchRegister i) s = .next s)) ∧
     (let idle := s.memReqs = [] ∧ s.memReplies = [] ∧ s.xprobes = [] ∧ s.probeReplies = [];
       (idle → Answers (exec (.homeListRebuild station n) s) fun u =>
         u.stations = (if station then s.stations.filter (fun m => !(m == n)) else s.stations) ∧
         u.actors = (if station then s.actors else s.actors.filter fun m => !(m == n)) ∧ u.dram = s.dram ∧ u.performed = []) ∧
       (¬ idle → exec (.homeListRebuild station n) s = .next s)))

/-! ### Host, launches, stops, power and starts -/

/-- R389, R391: a header is one for a command where its code is the command's, its length at most 2,047, its reserved fields 0, and its
tag that of the queue, or on an admin queue 0 or that of the context concerned; queue 0 exists from start on every adapter of the module,
and no queue elsewhere or past 255. R389, R391, R392, R395: a packet is taken in its queue's order and carried out where its class allows;
a barred tag gets 0xE2, a packet out of order or with a header that is not one for its command 0xE1 and a count of guilt, another class
0xE3; queues are made and deleted by the owner. The first sequence number of a queue is free and GUILT passes a bar (log entry 22), that a
QDELETE number outside 1 to 255 is malformed is log entry 17, and the adapters and the room of a queue are log entry 7 (DESIGN CHOICE). -/
def Obligations.HostQueues : Prop :=
  (∀ (s : State) (h : Hdr) (q : HostQueue) (c : Cmd) (a n : Nat),
     (headerOk h q c = true ↔ h.opc = c.code ∧ h.len ≤ 2047 ∧ h.reserved = 0 ∧ h.tag < 8192 ∧
       (h.queue ≠ 0 → h.tag = q.tag) ∧ (h.queue = 0 → h.tag = 0 ∨ ∀ t ∈ c.about, h.tag = t)) ∧
     (a < Config.adapters → Map.find s.host.queues (queueKey a 0) = none → s.queueAt a 0 = some (adminQueue a)) ∧
     (a < Config.adapters → n ≤ 255 → ∀ x ∈ Map.find s.host.queues (queueKey a n), s.queueAt a n = some x) ∧
     (a < Config.adapters → n ≠ 0 → Map.find s.host.queues (queueKey a n) = none → s.queueAt a n = none) ∧
     ((Config.adapters ≤ a ∨ 255 < n) → s.queueAt a n = none)) ∧
  (∀ (s : State) (h : Hdr) (q : HostQueue) (c : Cmd) (go : State → State) (a n sub comp tag k : Nat),
     let u := s.took h q
     let x := ({ tag := tag, sub := sub, comp := comp, size := 2 ^ k, lastSeq := none, deleting := [] } : HostQueue)
     let bad := n = 0 ∨ 255 < n ∨ k < 4 ∨ 16 < k ∨ Map.find u.host.queues (queueKey a n) ≠ none
     let room := Config.queueRoom a ((u.host.queues.filter fun e => e.1 / 256 == a).length)
     let inOrder := ∀ m ∈ q.lastSeq, h.seq = (m + 1) % 2 ^ 64
     let create := PacketOk s h q ⟨0x19, .owner, some tag⟩
     let delete := PacketOk s h q ⟨0x1A, .owner, some 0⟩;
     (PacketOk s h q c → s.accept h c go = go u) ∧
     (s.queueOf h = none → s.accept h c go = s) ∧
     (s.queueOf h = some q → (q.deleting ≠ [] ∨ (s.coldNext = true ∧ ¬ (s.recovery = true ∧ c.cls = .start))) → s.accept h c go = s) ∧
     (Taken s h q c.cls → h.tag ∈ s.host.barred → c.cls ≠ .unbar → s.accept h c go = u.completeStatus h 0xE2) ∧
     (Taken s h q c.cls → (h.tag ∈ s.host.barred → c.cls = .unbar) → (¬ inOrder ∨ headerOk h q c = false) →
       s.accept h c go = u.malformed h) ∧
     (Taken s h q c.cls → (h.tag ∈ s.host.barred → c.cls = .unbar) → inOrder → headerOk h q c = true → s.classOk h q c.cls = false →
       s.accept h c go = u.completeStatus h 0xE3) ∧
     (PacketOk s h q ⟨h.opc, .read, none⟩ → Answers (exec (.malformedPacket h) s) fun t =>
       t = u.malformed h ∧ Map.get 0 t.host.guilt h.tag = min 255 (Map.get 0 s.host.guilt h.tag + 1) ∧ entryOf h 0xE1 0 ∈ t.host.completions ∧
       (Map.get 16 s.host.limits h.tag < min 255 (Map.get 0 s.host.guilt h.tag + 1) → h.tag ∈ t.host.barred)) ∧
     (create → bad → exec (.qcreate h a n sub comp k tag) s = .next (u.malformed h)) ∧
     (create → ¬ bad → Config.adapters ≤ a → exec (.qcreate h a n sub comp k tag) s = .next (u.completeStatus h 0xE7)) ∧
     (create → ¬ bad → a < Config.adapters → s.tagLive tag = false →
       exec (.qcreate h a n sub comp k tag) s = .next (u.completeStatus h 0x12)) ∧
     (create → ¬ bad → a < Config.adapters → s.tagLive tag = true → room = false →
       exec (.qcreate h a n sub comp k tag) s = .next (u.completeStatus h 0xE4)) ∧
     (create → ¬ bad → a < Config.adapters → s.tagLive tag = true → room = true → exec (.qcreate h a n sub comp k tag) s =
       .next ({ u with host := { u.host with queues := Map.set u.host.queues (queueKey a n) x } }.completeStatus h 0)) ∧
     (delete → 1 ≤ n → n ≤ 255 → ∀ y ∈ Map.find u.host.queues (queueKey a n), exec (.qdelete h a n) s =
       .next { u with host := { u.host with
         queues := Map.set u.host.queues (queueKey a n) { y with deleting := y.deleting ++ [h] } } }.settleHost) ∧
     (delete → 1 ≤ n → n ≤ 255 → Map.find u.host.queues (queueKey a n) = none → exec (.qdelete h a n) s = .next (u.completeStatus h 0xE7)) ∧
     (delete → (n = 0 ∨ 255 < n) → exec (.qdelete h a n) s = .next (u.malformed h)))

/-- R24, R26, R155, R202 to R207, R389, R390: a launch takes a free rectangle, or ends: with the cause that its record meets as it is
read, with 0xE1 where it is malformed or its tag is not the packet's, with 0x02 where the variant has no paged mode, with the cause that
its image meets or the image's 0xE6, with 0xE4 where no origin qualifies, with 0xE6 for its levels or inbox settings, in that order; a
tile applies its segment, a following one only once its slots are waiting and empty; when every tile has acknowledged, the loops are
checked, the scope table is loaded, the gates open, the seeds enter and the packet completes with the swatch's number; a WAITSCOPE on a
scope that the table leaves free completes with 0xE7; a pre-emption asked for meanwhile begins before the table is loaded. That the result
word of a launch is the number of the swatch is log entry 22, and what R26 to R29 leave open of a launch that fails or completes is log
entry 24 (DESIGN CHOICE). Which origin is taken is open (log entry 10). -/
def Obligations.LaunchResults : Prop :=
  ∀ (s : State) (h : Hdr) (q : HostQueue) (va sw t : Nat) (bs table : List Byte) (seeds : List (Nat × Token)),
    let u := s.took h q
    let r := Words.ofList (bytesWords bs)
    let w := s.swatch sw
    let bad := launchMalformed s.variant r = true ∨ va % 64 ≠ 0 ∨ (h.tag ≠ 0 ∧ h.tag ≠ Words.field r 3 0 13);
    (PacketOk s h q ⟨0x01, .owner, none⟩ →
      (∀ c, s.readVirt h.tag va 128 = .error c → exec (.launch h va) s = .next (u.completeStatus h c)) ∧
      (s.readVirt h.tag va 128 = .ok bs → bad → exec (.launch h va) s = .next (u.malformed h)) ∧
      (s.readVirt h.tag va 128 = .ok bs → ¬ bad →
        (Words.field r 1 0 1 = 1 → s.variant = .w2q → exec (.launch h va) s = .next (u.completeStatus h 0x02)) ∧
        ((Words.field r 1 0 1 ≠ 1 ∨ s.variant ≠ .w2q) →
          (∀ e, s.readImage r = .error e → exec (.launch h va) s = .next (u.completeWith h e.1 0 0 e.2)) ∧
          (∀ img, s.readImage r = .ok img →
            (s.chooseOrigin r img = none → exec (.launch h va) s = .next (u.completeStatus h 0xE4) ∧
              ∀ x < meshW s.variant, ∀ y < 200, s.originOk r img x y = false) ∧
            (∀ o, s.chooseOrigin r img = some o →
              s.originOk r img o.1 o.2 = true ∧
              (settingsOk r = false → exec (.launch h va) s = .next (u.completeStatus h 0xE6)) ∧
              (settingsOk r = true → Answers (exec (.launch h va) s) fun v =>
                v.swatch s.nextSwatch = newSwatch r va img o.1 o.2 (some h) ∧ v.nextSwatch = s.nextSwatch + 1 ∧ v.tiles = s.tiles ∧
                (v.swatch s.nextSwatch).gates = false)))))) ∧
    (∀ g ∈ Map.find w.segments t,
      let ready := w.phase = .casting ∧ (g.1 = true → (s.tile t).followClear g = true);
      (ready → (∀ v, s.applySegment sw t g = .ok v →
          exec (.castOnSegment sw t) s = .next (v.modSwatch sw fun w => { w with segments := Map.erase w.segments t })) ∧
        (∀ c, s.applySegment sw t g = .error c → exec (.castOnSegment sw t) s = .next (s.launchFails sw t c))) ∧
      (¬ ready → exec (.castOnSegment sw t) s = .next s) ∧
      (ready → g.1 = true → exec (.followHoldRelease sw t) s = exec (.castOnSegment sw t) s) ∧
      (¬ (ready ∧ g.1 = true) → exec (.followHoldRelease sw t) s = .next s)) ∧
    (let done := s.liveSwatch sw = true ∧ w.phase = .casting ∧ w.segments = []
      let s1 := (s.giveCredits sw).modSwatch sw fun w => { w with phase := if w.stop.isSome then .stopping else .open_ };
      (¬ done → exec (.configurationComplete sw) s = .next s) ∧
      (done → ∀ e, s.graphBad sw = some e → exec (.configurationComplete sw) s = .next (s.launchFails sw e.1 e.2)) ∧
      (done → s.graphBad sw = none → ∀ p, w.preempt = some p → exec (.configurationComplete sw) s = .next (s1.beginPreempt sw p.1 p.2)) ∧
      (done → s.graphBad sw = none → w.preempt = none →
        (∀ c, s1.loadTable sw = .error c → exec (.configurationComplete sw) s = .next (s.launchEnds sw c)) ∧
        (∀ s2, s1.loadTable sw = .ok s2 →
          let s3 := s2.modSwatch sw fun w => { w with gates := w.stop.isNone && !s.power.failing }
          let s4 := if w.deferrable ∧ 4 ≤ s.power.step then s3.parkSwatch sw true else s3
          exec (.configurationComplete sw) s = .next ((s4.inject sw).launchDone sw))) ∧
      (w.heldCmds = [] → s.readVirt w.tag (Words.dword w.launch 10) 4096 = .ok table →
        s.readSeeds w.tag (Words.word w.launch 14) (Words.dword w.launch 12) = .ok seeds →
        let s2 := s.modSwatch sw fun w => { w with
          scopes := scopeTable w.launch (bytesWords table), tableLoaded := true, seeds := seeds, heldCmds := [] }
        ((∀ p ∈ s.host.pending, p.2.1 ≠ sw) → s.loadTable sw = .ok s2) ∧
        ∃ v, s.loadTable sw = .ok v ∧ v.swatch sw = s2.swatch sw ∧
          ∀ p ∈ s.host.pending, p.2.1 = sw → ((s2.swatch sw).scope p.2.2).stateCode = 0 →
            entryOf p.1 0xE7 0 ∈ v.host.completions ∧ p ∉ v.host.pending) ∧
      (∀ h, w.launchHdr = some h →
        s.launchDone sw = (s.modSwatch sw fun w => { w with launchHdr := none }).completeWith h 0 0 0 sw))

/-- R26, R195, R196, R313, R390: scope commands wait for the table; SEAL makes an open scope sealed, ABORT drains it, RELEASE frees its
entry; WAITSCOPE answers a terminal state, or waits; SEMPOST adds to a granted semaphore, saturating; a host token waits behind those
before it. What becomes of a token of another width than its port's is log entry 24 (DESIGN CHOICE). -/
def Obligations.HostScopesAndTokens : Prop :=
  ∀ (s : State) (h : Hdr) (q : HostQueue) (sw sc dx dy k n v edge t : Nat) (mark : Bool) (words : List Nat),
    let u := s.took h q
    let w := s.swatch sw
    let code := (w.scope sc).stateCode
    let ok := fun (n : Nat) (c : CmdClass) => PacketOk s h q ⟨n, c, s.tagOf sw⟩
    let held := fun (c : ScopeCmd) => u.modSwatch sw fun w => { w with heldCmds := w.heldCmds ++ [(h, c, sc)] };
    (s.liveSwatch sw = true → w.tableLoaded = true → code ≠ 0 →
      (ok 0x02 .owner → exec (.sealScope h sw sc) s = .next ((u.sealScope sw sc).completeStatus h 0) ∧
        (code = 1 → (((u.sealScope sw sc).swatch sw).scope sc).stateCode = 2)) ∧
      (ok 0x03 .owner → exec (.abortScope h sw sc) s = .next ((u.abortScope sw sc 0).completeStatus h 0)) ∧
      (ok 0x04 .owner → Answers (exec (.releaseScope h sw sc) s) fun v =>
        ((v.swatch sw).scope sc).stateCode = 0 ∧ entryOf h 0 0 ∈ v.host.completions)) ∧
    ((s.liveSwatch sw = false ∨ (w.tableLoaded = true ∧ code = 0)) →
      (ok 0x02 .owner → exec (.sealScope h sw sc) s = .next (u.completeStatus h 0xE7)) ∧
      (ok 0x03 .owner → exec (.abortScope h sw sc) s = .next (u.completeStatus h 0xE7)) ∧
      (ok 0x04 .owner → exec (.releaseScope h sw sc) s = .next (u.completeStatus h 0xE7)) ∧
      (ok 0x05 .read → exec (.waitscope h sw sc) s = .next (u.completeStatus h 0xE7))) ∧
    (s.liveSwatch sw = true → w.tableLoaded = false →
      (ok 0x02 .owner → exec (.sealScope h sw sc) s = .next (held .seal)) ∧
      (ok 0x03 .owner → exec (.abortScope h sw sc) s = .next (held .abort)) ∧
      (ok 0x04 .owner → exec (.releaseScope h sw sc) s = .next (held .release))) ∧
    (ok 0x05 .read → s.liveSwatch sw = true →
      (w.tableLoaded = true → terminalCode code = true → code ≠ 0 → exec (.waitscope h sw sc) s = .next (u.completeWith h 0 0 0 code)) ∧
      ((w.tableLoaded = false ∨ (code ≠ 0 ∧ terminalCode code = false)) →
        exec (.waitscope h sw sc) s = .next { u with host := { u.host with pending := u.host.pending ++ [(h, sw, sc)] } })) ∧
    (ok 0x0D .owner → s.liveSwatch sw = true → w.at? dx dy = some t →
      (s.names sw t k = true → n < (s.tile t).semCount k → Answers (exec (.sempost h sw dx dy k n v) s) fun r =>
        let m := (s.tile t).semBase k + n;
        (r.tile t).sem m = min ((s.tile t).sem m + v % 2 ^ 32) 0xFFFFFFFF ∧ (∀ j, j ≠ m → (r.tile t).sem j = (s.tile t).sem j) ∧
        ((r.tile t).firing = (s.tile t).firing.map fun f => if f.slot = k then { f with evpend := f.evpend ||| 8 } else f)) ∧
      ((s.names sw t k = false ∨ (s.tile t).semCount k ≤ n) → exec (.sempost h sw dx dy k n v) s = .next (u.completeStatus h 0xE7))) ∧
    (ok 0x18 (.tag sw) → s.liveSwatch sw = true →
      let known := if w.phase = .casting then decide (edge < w.edgeCount) else u.hostInput sw edge
      let fits := words.length ≤ 8 * h.len;
      (fits → known = true → w.phase ≠ .bindingOff → exec (.token h sw edge mark words) s = .next
        (((u.modSwatch sw fun w => { w with hostToks := w.hostToks ++
          [(edge, { words := words.map (BitVec.ofNat 32), void := false, mark := mark, tag := w.tag })] }).inject sw).completeStatus h 0)) ∧
      (fits → known = false → exec (.token h sw edge mark words) s = .next (u.completeStatus h 0xE7)) ∧
      (¬ fits → exec (.token h sw edge mark words) s = .next (u.malformed h)))

/-- R26, R192, R302, R346, R352 to R354, R358: a pre-emption closes the gates and saves the swatch once it is quiet, its windows read and
its notices withdrawn, or holds it where the area is too small, for another answer; it waits for the moves of the swatch's actors, and one
begun before step 4 of the launch takes the table first; a save as the answer to a stop abandons a pure or journaled firing that the
debugger has halted; a stopped swatch goes on by the owner's answer; bind-off drains and releases once no operation of the swatch is left.
That PREEMPT, STOPANSWER and BINDOFF complete when they are taken is log entry 17 (DESIGN CHOICE), and what a pre-emption before step 4
takes is log entry 31. -/
def Obligations.StopResults : Prop :=
  ∀ (s : State) (h : Hdr) (q : HostQueue) (sw va : Nat) (urgent : Bool) (ans : StopAns),
    let u := s.took h q
    let w := s.swatch sw
    let ok := fun (n : Nat) => PacketOk s h q ⟨n, .owner, s.tagOf sw⟩;
    (s.liveSwatch sw = true →
      (ok 0x06 → va % 64 = 0 → va ≠ 0 → w.preempt = none → w.preemptWait = none → w.stop = none → w.phase ≠ .bindingOff →
        exec (.preempt h sw va urgent) s = .next ((u.beginPreempt sw va urgent).completeStatus h 0)) ∧
      (ok 0x06 → (va % 64 ≠ 0 ∨ va = 0) → exec (.preempt h sw va urgent) s = .next (u.malformed h)) ∧
      (ok 0x06 → va % 64 = 0 → va ≠ 0 → (w.preempt ≠ none ∨ w.preemptWait ≠ none ∨ w.stop ≠ none ∨ w.phase = .bindingOff) →
        exec (.preempt h sw va urgent) s = .next (u.completeStatus h 0xE7)) ∧
      (ok 0x07 → w.phase = .stopped → w.afterStop = false →
        exec (.stopanswer h sw .resume) s = .next ((u.reopen sw).completeStatus h 0) ∧
        exec (.stopanswer h sw .void) s = .next ((u.answerVoid sw).completeStatus h 0) ∧
        exec (.stopanswer h sw .bindOff) s = .next ((u.bindOff sw).completeStatus h 0) ∧
        (va % 64 = 0 → Answers (exec (.stopanswer h sw (.save va)) s) fun t =>
          (t.swatch sw).preempt = some (va, false) ∧ (t.swatch sw).afterStop = true ∧ entryOf h 0 0 ∈ t.host.completions ∧
          ∀ n ∈ w.tiles, ∀ f ∈ s.firingIn sw n, f.isHalted = true → (s.slot n f.slot).cls ≠ 2 →
            (t.tile n).firing.map (·.phase) = some .abandoned) ∧
        (va % 64 ≠ 0 → exec (.stopanswer h sw (.save va)) s = .next (u.malformed h))) ∧
      (ok 0x07 → (w.phase ≠ .stopped ∨ w.afterStop = true) → exec (.stopanswer h sw ans) s = .next (u.completeStatus h 0xE7)) ∧
      (ok 0x08 → w.phase ≠ .bindingOff → exec (.bindoff h sw) s = .next ((u.bindOff sw).completeStatus h 0)) ∧
      (ok 0x08 → w.phase = .bindingOff → exec (.bindoff h sw) s = .next (u.completeStatus h 0))) ∧
    (s.liveSwatch sw = false → (ok 0x06 → exec (.preempt h sw va urgent) s = .next (u.completeStatus h 0xE7)) ∧
      (ok 0x07 → exec (.stopanswer h sw ans) s = .next (u.completeStatus h 0xE7)) ∧
      (ok 0x08 → exec (.bindoff h sw) s = .next (u.completeStatus h 0xE7))) ∧
    (s.moving sw = true → s.beginPreempt sw va urgent = s.modSwatch sw fun w => { w with preemptWait := some (va, urgent) }) ∧
    (s.moving sw = false → w.phase = .casting → s.beginPreempt sw va urgent =
      s.modSwatch sw fun w => { w with gates := false, preempt := some (va, urgent), preemptWait := none }) ∧
    (∀ i ∈ w.stop,
      let ended := ∀ t ∈ w.tiles, ∀ f ∈ s.firingIn sw t,
        f.isHalted = true ∨ (f.phase = .abandoned ∧ w.preempt ≠ none ∧ (s.tile t).attemptBusy f.uid = false)
      let stops := s.liveSwatch sw = true ∧ w.phase = .stopping ∧ ended ∧ s.quiet sw = true ∧ ∀ t ∈ w.tiles, s.enginesAtRest sw t = true;
      (stops → Answers (exec (.swatchStopped sw) s) fun t =>
        (t.swatch sw).phase = .stopped ∧ t.host.notices = s.host.notices ++ [.stopped sw i.cause i.tile i.slot] ∧
        ∀ a ∈ s.actorsOf sw, (t.slot a.1 a.2).stateCode = 6) ∧
      (¬ stops → exec (.swatchStopped sw) s = .next s)) ∧
    (∀ g ∈ w.preempt, s.liveSwatch sw = true →
      let s1 := s.endAbandoned sw;
      (s.saveReady sw = true → w.tableLoaded = true → exec (.preemptSave sw) s = .next (s1.save sw g.1)) ∧
      (s.saveReady sw = true → w.tableLoaded = false →
        (∀ c, s1.loadTable sw = .error c → exec (.preemptSave sw) s = .next (s1.launchEnds sw c)) ∧
        (∀ s2, s1.loadTable sw = .ok s2 → exec (.preemptSave sw) s = .next ((s2.launchDone sw).save sw g.1))) ∧
      (s.saveReady sw = false → exec (.preemptSave sw) s = .next s)) ∧
    (let m := s.mendWindows sw
      let w := m.swatch sw
      let image := m.saveImage sw 0x31
      let place := if va = 0 then Words.dword w.launch 18 else va
      let fits := place % 64 = 0 ∧ (va = 0 → image.length ≤ Words.dword w.launch 20);
      (fits → ∀ v, m.writeVirt w.tag place image = .ok v → s.save sw va =
        ({ v.withdrawAll sw with places := v.places ++ [(image, m.edgePlaces sw)] }.releaseSwatch sw).notify (.saved sw place image.length)) ∧
      (fits → ∀ c, m.writeVirt w.tag place image = .error c → s.save sw va = m.saveFails sw image.length) ∧
      (¬ fits → s.save sw va = m.saveFails sw image.length) ∧
      (∀ n, ((s.saveFails sw n).swatch sw).phase = .stopped ∧ ((s.saveFails sw n).swatch sw).afterStop = false ∧
        OwnerNotice.saveFailed sw n ∈ (s.saveFails sw n).host.notices)) ∧
    (let over_ := s.liveSwatch sw = true ∧ w.phase = .bindingOff ∧ s.quiet sw = true ∧ (∀ t ∈ w.tiles, s.firingIn sw t = none) ∧
        (∀ a ∈ s.actorsOf sw, (s.tile a.1).slotBusy a.2 = false) ∧ ∀ t ∈ w.tiles, (s.tile t).opsIn (fun g => g.swatch == sw) = false;
      (over_ → Answers (exec (.bindOffRelease sw) s) fun t => t.liveSwatch sw = false ∧ OwnerNotice.released sw ∈ t.host.notices) ∧
      (¬ over_ → exec (.bindOffRelease sw) s = .next s))

/-- R136, R145, R146, R208, R353: the rebalancer starts moving a congested actor of a tile with no other ready one; each sender takes the
hold once, the holds of two moves in their order, and puts its acknowledgement behind its last flit in every class; when all
acknowledgements are in and the holder has done, the move is finished by State.finishMove where what allowed it still holds, and given up
else; a pre-emption that waited for it then begins. R145, R163: steps 4 to 6 of a move. The new holder has the actor's record, its counts,
its queues with the tokens in them and the retained copies, its windows with their bytes at the same addresses and its semaphores at the
same numbers; nothing else in the SRAM of either tile changes place, and the old slot is empty. The producer of each input edge names the
new holder, what waited at a sender goes there, the actor is enabled, and the holds are released. That moves which share a tile do not run
together, and that a move is given up where its last steps cannot be taken, is log entry 13 (DESIGN CHOICE). -/
def Obligations.ActorMoves : Prop :=
  (∀ (s : State) (t k t2 k2 m sender : Nat),
     let r : Rebind := { id := s.nextMove, tile := t, slot := k, toTile := t2, toSlot := k2, senders := s.sendersOf t k, held := [], acked := [] }
     let moves := s.mayMove t k = true ∧ (s.slot t k).congested = true ∧ (∀ j < 17, j ≠ k → s.isReady t j = false) ∧
       s.canTake t k t2 k2 = true ∧ ∀ p ∈ s.rebinds, ∀ a ∈ p.tiles, a ∉ r.tiles
     (moves → Answers (exec (.rebalancerMove t k t2 k2) s) fun u =>
       u.rebinds = s.rebinds ++ [r] ∧ u.nextMove = s.nextMove + 1 ∧ u.net = s.net ∧
       (u.slot t k).stateCode = if (s.slot t k).stateCode = 3 then 3 else 4) ∧
     (¬ moves → exec (.rebalancerMove t k t2 k2) s = .next s) ∧
     (∀ p, let ends := s.unbound p.tile p.slot = true ∧ s.canTake p.tile p.slot p.toTile p.toSlot = true;
       let sw := (s.slot p.tile p.slot).swatch
       let after := fun (u : State) => match (u.swatch sw).preemptWait with
         | some g => u.beginPreempt sw g.1 g.2
         | none => u;
       (ends → s.endMove p = after (s.finishMove p)) ∧ (¬ ends → s.endMove p = after (s.giveUpMove p))) ∧
     (∀ p ∈ s.rebinds.find? fun r => r.id == m,
       (sender ∈ p.senders → sender ∉ p.held → s.holdBehind m sender = false → Answers (exec (.rebindHold m sender) s) fun u =>
         (∃ a b c, u.net = s.net ++ [a, b, c] ∧ a.is sender p.tile .token (.holdAck m) ∧ b.is sender p.tile .paged (.holdAck m) ∧
           c.is sender p.tile .slotReturn (.holdAck m)) ∧
         u.rebinds = s.rebinds.map fun q => if q.id = m then { q with held := sender :: q.held } else q) ∧
       ((sender ∉ p.senders ∨ sender ∈ p.held ∨ s.holdBehind m sender = true) → exec (.rebindHold m sender) s = .next s) ∧
       (let acks := sender ∈ p.held ∧ sender ∉ p.acked ∧ ∀ c ∈ rebindClasses, s.ackFirst sender p.tile m c = true
         let s1 := s.takeAcks p sender;
         (acks → ∀ p1 ∈ s1.rebinds.find? (fun r => r.id == m),
           (s1.moveReady p1 = true → exec (.holdAcknowledgement m sender) s = .next (s1.endMove p1)) ∧
           (s1.moveReady p1 = false → exec (.holdAcknowledgement m sender) s = .next s1)) ∧
         (¬ acks → s.moveReady p = true → exec (.holdAcknowledgement m sender) s = .next (s.endMove p)) ∧
         (¬ acks → s.moveReady p = false → exec (.holdAcknowledgement m sender) s = .next s)))) ∧
  (∀ (s : State) (r : Rebind), s.canTake r.tile r.slot r.toTile r.toSlot = true → Memory.wf (s.tile r.tile).sram = true →
     let x := s.tile r.tile
     let k := r.slot
     let sl := x.slot k
     let u := s.finishMove r
     let y := u.tile r.toTile
     let sl' := u.slot r.toTile r.toSlot
     let moved := fun (a : Nat) => inWindow (x.pwin k) (a / 1024) = true ∨ inWindow (x.swin k) (a / 1024) = true
     let w := s.swatch sl.swatch
     sl'.handler = sl.handler ∧ sl'.swatch = sl.swatch ∧ sl'.firedCount = sl.firedCount ∧ sl'.voidedCount = sl.voidedCount ∧
       sl'.ordinal = sl.ordinal ∧ sl'.inq = sl.inq ∧ sl'.outq = sl.outq ∧ sl'.age = 0 ∧
     y.pwin r.toSlot = x.pwin k ∧ y.swin r.toSlot = x.swin k ∧
     (∀ a, moved a → Memory.read y.sram a = Memory.read x.sram a) ∧
     (∀ a, ¬ moved a → Memory.read y.sram a = Memory.read (s.tile r.toTile).sram a) ∧
     (∀ a, Memory.read (u.tile r.tile).sram a = Memory.read x.sram a) ∧
     (∀ j < x.semCount k, y.sem (x.semBase k + j) = x.sem (x.semBase k + j)) ∧
     (u.slot r.tile k).stateCode = 0 ∧ u.net = s.net.map (s.redirect r) ∧ (∀ q ∈ u.rebinds, q ∈ s.rebinds ∧ q.id ≠ r.id) ∧
     (w.paged = false → ∀ p, sl.inDecl p = true → (∀ q, sl.outDecl q = true → sl.outEdge q ≠ sl.inEdge p) →
       ∀ a ∈ u.producer sl.swatch (sl.inEdge p),
         (u.slot a.1 a.2.1).dest a.2.2 = relName a.1 r.toTile ∧ (u.slot a.1 a.2.1).dslot a.2.2 = r.toSlot) ∧
     (s.scopeEnded sl = false → w.phase ≠ .bindingOff → (∀ q ∈ u.rebinds, ¬ (q.tile = r.toTile ∧ q.slot = r.toSlot)) → w.preempt = none →
       sl'.stateCode = if w.parked then 7 else 1))

/-- R141, R152 to R154, R158, R359 to R361, R396, R399: READNODES, READLOG, STATUS and ATTEST write their bytes and complete, or complete
with the cause that the write meets; DEBUG writes the debug words, reads a word of a halted tile, or resumes its core. R299, R301 to R303,
R352, R357: the owner's answer resumes an operation or ends it, once; XLATEINV drops every translation of the tag in the range, at the
stations, on its way and in the engines; SETCTX moves the context table; REKNIT restores a saved image on a free swatch, whose number is
the result. The layouts of what READLOG, STATUS and DEBUG write are log entry 16 (DESIGN CHOICE). That REKNIT gives 0xE6 for a restore
error is log entry 17, its result and that XLATEINV drops the pages an engine knows are log entry 22, and the status of a DEBUG of a core
that is not halted is log entry 32 (DESIGN CHOICE). -/
def Obligations.HostReadsAndTranslation : Prop :=
  (∀ (s : State) (h : Hdr) (q : HostQueue) (sw dx dy k va x y t nonce ctl b0 b1 b2 b3 sel idx at_ : Nat) (f : Firing),
     let u := s.took h q
     let w := s.swatch sw
     let debug := PacketOk s h q ⟨0x11, .owner, some 0⟩;
     (PacketOk s h q ⟨0x0B, .read, s.tagOf sw⟩ → s.liveSwatch sw = true →
       (∀ t ∈ w.at? dx dy, s.names sw t k = true → exec (.readnodes h sw dx dy k va) s =
         .next (u.answerBytes h va (wordsBytes (Words.toList (s.shownRecord t k) 64)))) ∧
       (∀ t ∈ w.at? dx dy, s.names sw t k = false → exec (.readnodes h sw dx dy k va) s = .next (u.completeStatus h 0xE7)) ∧
       (w.at? dx dy = none → exec (.readnodes h sw dx dy k va) s = .next (u.completeStatus h 0xE7))) ∧
     (PacketOk s h q ⟨0x0C, .read, none⟩ →
       (x < meshW s.variant → y < 200 →
         exec (.readlog h true x y va) s = .next (u.answerBytes h va (s.physTile (s.physOf (tileId x y))).logBytes)) ∧
       (x < 24 * fieldCols s.variant → y < 210 →
         exec (.readlog h false x y va) s = .next (u.answerBytes h va (s.physTile (256 * y + x)).logBytes)) ∧
       (¬ (x < meshW s.variant ∧ y < 200) → exec (.readlog h true x y va) s = .next (u.completeStatus h 0xE7)) ∧
       (¬ (x < 24 * fieldCols s.variant ∧ y < 210) → exec (.readlog h false x y va) s = .next (u.completeStatus h 0xE7))) ∧
     (PacketOk s h q ⟨0x17, .start, none⟩ → ∃ bs tail, exec (.status h va) s = .next (u.answerBytes h va bs) ∧
       bs = le4 (variantCap s.variant) ++ le4 s.pwrcap ++ tail) ∧
     (PacketOk s h q ⟨0x12, .start, none⟩ → exec (.attest h nonce va) s = .next (u.answerBytes h va
       (s.reportBytes nonce ++ ((Config.sm2Sign (digest (s.reportBytes nonce))) ++ List.replicate 64 0).take 64))) ∧
     ((s.reportBytes nonce).length = 144 ∧ (s.reportBytes nonce).take 32 = leBytes 32 nonce) ∧
     (∀ bs v, u.writeVirt h.tag va bs = .ok v → u.answerBytes h va bs = v.completeStatus h 0) ∧
     (∀ bs c, u.writeVirt h.tag va bs = .error c → u.answerBytes h va bs = u.completeStatus h c) ∧
     (debug → tileX t < meshW s.variant → tileY t < 200 →
       (Answers (exec (.debugCmd h t (.write ctl b0 b1 b2 b3)) s) fun v =>
         (v.tile t).cword 0x400 = ctl % 256 - 2 * bitField ctl 1 1 ∧ (v.tile t).cword 0x401 = b0 % 2 ^ 22 / 4 * 4 ∧
         (v.tile t).cword 0x404 = b3 % 2 ^ 22 / 4 * 4 ∧ (v.tile t).firing = (s.tile t).firing ∧ entryOf h 0 0 ∈ v.host.completions) ∧
       ((s.tile t).firing = some f → f.phase = .halted at_ →
         exec (.debugCmd h t (.read sel idx)) s =
           .next (u.completeWith h 0 0 0 ((s.tile t).debugWord f (u.debugCw t f) sel idx)) ∧
         (Answers (exec (.debugCmd h t .resume) s) fun v => (∃ passed,
           (v.tile t).firing = some { f with phase := .running, pc := at_, bpPassed := passed }) ∧ (v.slot t f.slot).stateCode = 3 ∧
           (bitField ((s.tile t).cword 0x405) 5 1 = 1 → (v.tile t).debugLog = [] ∧ bitField ((v.tile t).cword 0x405) 5 1 = 0))) ∧
       ((∀ g ∈ (s.tile t).firing, g.isHalted = false) → exec (.debugCmd h t .resume) s = .next (u.completeStatus h 0xE7) ∧
         exec (.debugCmd h t (.read sel idx)) s = .next (u.completeStatus h 0xE7))) ∧
     (debug → ¬ (tileX t < meshW s.variant ∧ tileY t < 200) → exec (.debugCmd h t .resume) s = .next (u.completeStatus h 0xE7))) ∧
  (∀ (s : State) (h : Hdr) (q : HostQueue) (id tag lo hi pa va : Nat) (resume all : Bool),
     let u := s.took h q
     let reknit := PacketOk s h q ⟨0x09, .owner, none⟩
     let answer := PacketOk s h q ⟨0x0A, .owner, (s.notices.find? fun n => n.id == id).map (·.tag)⟩
     (answer → ∀ n ∈ s.notices.find? (fun n => n.id == id && n.stage == 1),
       let s1 := { u with notices := s.notices.map fun (m : Notice) => if m.id = id then { m with stage := 2 } else m }
       exec (.faultanswer h id true) s = .next ((s1.resumeOp n.op).completeStatus h 0) ∧
       exec (.faultanswer h id false) s = .next ((s1.endFatal n.op n.cause n.va).completeStatus h 0)) ∧
     (answer → s.notices.find? (fun n => n.id == id && n.stage == 1) = none →
       exec (.faultanswer h id resume) s = .next (u.completeStatus h 0xE7)) ∧
     (PacketOk s h q ⟨0x0E, .owner, some tag⟩ → Answers (exec (.xlateinv h tag all lo hi) s) fun v =>
       let clear := fun (a n : Nat) => all = false ∧ (a + n ≤ lo ∨ hi < a) ∨ 2 ^ 57 < a;
       (∀ st, ∀ x ∈ Map.get [] v.xlations st, x ∈ Map.get [] s.xlations st ∧ (x.tag = tag → 0 < x.size → clear x.base x.size)) ∧
       (∀ st, ∀ x ∈ Map.get [] s.xlations st, x.tag ≠ tag → x ∈ Map.get [] v.xlations st) ∧
       (∀ p ∈ v.probeReplies, p ∈ s.probeReplies ∧ (s.opTag p.op = tag → p.page ≠ none → clear (p.vpage * 4096) 4096)) ∧
       (∀ t k, let e := ((v.tile t).run k).eng; (s.swatch e.swatch).tag = tag → ∀ p ∈ e.pages, clear (p.vpage * 4096) 4096) ∧
       v.dram = s.dram ∧ entryOf h 0 0 ∈ v.host.completions) ∧
     (PacketOk s h q ⟨0x0F, .owner, some 0⟩ → exec (.setctx h pa) s = .next ({ u with context := pa }.completeStatus h 0)) ∧
     (reknit → ∀ c, s.readSaved h.tag va = .error c → exec (.reknit h va) s = .next (u.completeStatus h c)) ∧
     (reknit → ∀ b launch img, s.readSaved h.tag va = .ok (b, launch, img) → h.tag ≠ 0 → h.tag ≠ imageNat b 12 4 →
       exec (.reknit h va) s = .next (u.malformed h)) ∧
     (reknit → ∀ b launch img, s.readSaved h.tag va = .ok (b, launch, img) → (h.tag = 0 ∨ h.tag = imageNat b 12 4) →
       (s.chooseOrigin launch img = none → exec (.reknit h va) s = .next (u.completeStatus h 0xE4)) ∧
       (∀ o ∈ s.chooseOrigin launch img,
         (∀ c, u.restoreImage s.nextSwatch b launch img o.1 o.2 = .error c → exec (.reknit h va) s = .next (u.completeStatus h 0xE6)) ∧
         (∀ v, u.restoreImage s.nextSwatch b launch img o.1 o.2 = .ok v → exec (.reknit h va) s =
           .next (({ v with nextSwatch := s.nextSwatch + 1 }.inject s.nextSwatch).completeWith h 0 0 0 s.nextSwatch)))))

/-- R26, R339, R362, R363, R396, R397: the larger of two caps holds; above the cap one throttle step is taken and within it one is
released; a power failure closes every gate, ends what still runs at the deadline, and drains to flash what the module keeps. -/
def Obligations.PowerResults : Prop :=
  ∀ (s : State) (h : Hdr) (q : HostQueue) (k : Nat),
    (PacketOk s h q ⟨0x10, .owner, some 0⟩ → k < 16 → Answers (exec (.powerstep h k) s) fun u =>
      u.power = { s.power with capPacket := k } ∧ entryOf h 0 0 ∈ u.host.completions ∧ u.pwrcap % 16 = max k s.power.capGrid % 16) ∧
    (PacketOk s h q ⟨0x10, .owner, some 0⟩ → 16 ≤ k → exec (.powerstep h k) s = .next ((s.took h q).malformed h)) ∧
    (Answers (exec (.gridSignal k) s) fun u =>
      u.power = { s.power with capGrid := min k 15 } ∧
      (u.pwrcap = s.pwrcap → u.tiles = s.tiles) ∧
      (u.pwrcap ≠ s.pwrcap → ∀ t, (u.tile t).firing = (s.tile t).firing.map fun f => { f with evpend := f.evpend ||| 128 })) ∧
    (Answers (exec (.powerWindow true) s) fun u =>
      (s.power.step < 2 → u.power = { s.power with step := s.power.step + 1 }) ∧
      (s.power.step = 2 → s.power.clockDown < clockSteps → u.power = { s.power with clockDown := s.power.clockDown + 1 }) ∧
      (s.power.step = 2 → s.power.clockDown = clockSteps → u.power = { s.power with step := 3 }) ∧
      (s.power.step = 3 → u.power = { s.power with step := 4 } ∧ ∀ n, s.liveSwatch n = true → (s.swatch n).deferrable = true →
        (u.swatch n).parked = true) ∧
      (s.power.step = 4 → s.power.shortfall = false →
        u.power = { s.power with shortfall := true } ∧ u.host.notices = s.host.notices ++ [.shortfall])) ∧
    (Answers (exec (.powerWindow false) s) fun u =>
      (s.power.shortfall = true → u.power = { s.power with shortfall := false }) ∧
      (s.power.shortfall = false → s.power.step = 4 → u.power = { s.power with step := 3 }) ∧
      (s.power.shortfall = false → s.power.step = 3 → u.power = { s.power with step := 2 }) ∧
      (s.power.shortfall = false → s.power.step = 2 → 0 < s.power.clockDown → u.power = { s.power with clockDown := s.power.clockDown - 1 }) ∧
      (s.power.shortfall = false → s.power.step = 2 → s.power.clockDown = 0 → u.power = { s.power with step := 1 }) ∧
      (s.power.shortfall = false → s.power.step < 2 → u.power = { s.power with step := s.power.step - 1 })) ∧
    (Answers (exec .powerFailTrap s) fun u =>
      u.power = { s.power with failing := true } ∧ (∀ n, (u.swatch n).gates = false) ∧
      ∀ t, (u.tile t).firing.map (fun f => { f with readyAtStart := [] }) = (s.tile t).firing.map fun f => { f with readyAtStart := [] }) ∧
    (s.power.failing = true → exec .powerFailDeadline s = .next ((Map.keys s.tiles).foldl State.failFiring s)) ∧
    (s.power.failing = false → exec .powerFailDeadline s = .next s) ∧
    (let calm := s.power.failing = true ∧ (∀ e ∈ s.tiles, ∀ f ∈ e.2.firing, f.phase = .abandoned) ∧ s.net = [] ∧ s.rebinds = [] ∧
        s.memReqs = [] ∧ s.memReplies = [] ∧ ∀ e ∈ s.tiles, ∀ a ∈ e.2.atomics, a.op = 9 ∨ a.eng.outstanding = [];
      (calm → exec .flashDrain s = .next { s with flash := some s.drainRecord }) ∧ (¬ calm → exec .flashDrain s = .next s)) ∧
    (∀ e ∈ s.dram, (e ∈ s.drainRecord.pages ↔ ∃ r ∈ s.persist, r.1 ≤ e.1 ∧ e.1 < r.1 + r.2))

/-- R13, R133, R364, R392 to R395, R397: a cold start clears every tile, loses every swatch and keeps persistent ranges and the root key;
a failed check enters recovery, from which a good image leads out, and a start that fails, as one does that finds no binding which the
rules allow or a stored remap whose seal is not its own, leaves what it did not reach and a cold start to come; a warm start restores the
drained images; ownership goes to the lowest adapter left with a certificate, the first certificate presented enrolling its issuer, or by
handover once earlier packets have completed; guilt, peers and persistent ranges are the owner's to set. R16, R17, R115, R223, R224, R350,
R392, R394: what the outside world does takes its turn. A soft error of one bit can be corrected and one of more cannot; a token in error
waits for its slot to be refilled; firmware sets a tile's clock and supply within their ranges; a ring overrun counts against the queue's
tag; tokens cross to a peer as far as its credits go; a peer's return gives slots back to the local producer and credits to the gateway
and drops what was kept, its token enters behind those before it as far as the edge has slots, and a replay sends again what the peer has
not got. What a warm start keeps beside the drained images is log entry 23, and what a failed start leaves is log entry 11 (DESIGN
CHOICE). Certificates, adapters and good images are log entry 7, the inputs log entry 1, the peers log entry 26, and the binding of a
start log entry 4. -/
def Obligations.StartsAndOwnership : Prop :=
  (∀ (s : State) (h : Hdr) (q : HostQueue) (a i img tag limit sw edge peer pe lo len : Nat) (f : Flash),
     let u := s.took h q
     let good := Config.imageOk s.firmware = true
     let fails := Config.startFails s.tick = true
     let valid := s.flash = some f ∧ f.record = some f.seal ∧ s.remapOk f = true
     let scanned : State := { s with
       binding := [], phys := s.phys.map fun e => (e.1, { e.2 with errors := [], errorCount := 0, former := none, setting := none })
       links := s.links.map fun e => (e.1, { e.2 with failing := 0, diagnosing := false }), layout := s.layout + 1 };
     (good → ¬ fails → scanned.builtBinding ≠ none → Answers (exec .coldStart s) fun t =>
       t.tiles = [] ∧ t.swatches = [] ∧ t.net = [] ∧ t.startCount = s.startCount + 1 ∧ t.lastCold = true ∧ t.recovery = false ∧
       t.coldNext = false ∧ t.host.notices = s.lostNotices ∧ t.host.guilt = [] ∧ t.layout = s.layout + 1 ∧
       (s.power.failing = false → t.dram = s.dram.filter (fun e => s.persists e.1) ∧ t.persist = s.persist)) ∧
     ((¬ good ∨ fails ∨ scanned.builtBinding = none) → Answers (exec .coldStart s) fun t =>
       (t.recovery = true ↔ ¬ good) ∧ t.coldNext = true ∧ t.swatches = [] ∧ t.dram = s.dram ∧ t.lastCold = true ∧
       (∀ n b, Memory.read (t.tile n).sram b = Memory.read (s.tile n).sram b) ∧ t.host.notices = s.lostNotices) ∧
     (s.recovery = true → Config.imageOk img = true → exec (.firmwareImage img) s = .next { s with firmware := img, recovery := false }) ∧
     ((s.recovery = false ∨ Config.imageOk img = false) → exec (.firmwareImage img) s = .next s) ∧
     (s.coldNext = true → exec .warmStart s = .next s) ∧
     (s.coldNext = false → good → ¬ fails → valid → exec .warmStart s = .next
       (f.aborted.foldl State.warmAbort (f.atomics.foldl State.warmAtomic (f.copies.foldl State.warmCopy
         (f.images.foldl State.warmSwatch (s.warmBase f))))).injectAll) ∧
     (s.coldNext = false → good → (s.flash = none ∨ fails ∨ (s.flash = some f ∧ (f.record ≠ some f.seal ∨ s.remapOk f = false))) →
       exec .warmStart s = .next (s.startEnds false false)) ∧
     (s.coldNext = false → ¬ good → exec .warmStart s = .next (s.startEnds false true)) ∧
     (∀ o ∈ s.host.owner, exec .ownerSilence s = .next { s with host := { s.host with silent := o :: s.host.silent }.elect s.tick }) ∧
     (∀ o ∈ electOwner s.host.rootKey s.host.silent,
       o ∉ s.host.silent ∧ Config.certOk o s.host.rootKey = true ∧ ∀ b < o, b ∈ s.host.silent ∨ Config.certOk b s.host.rootKey = false) ∧
     (∀ r, s.host.rootKey = some r → (s.host.elect s.tick).rootKey = some r ∧ (s.host.elect s.tick).owner = electOwner (some r) s.host.silent) ∧
     (s.host.rootKey = none → ∀ b, firstPresenter s.tick s.host.silent = some b →
       b ∉ s.host.silent ∧ Config.certOk b none = true ∧ (s.host.elect s.tick).rootKey = some (Config.certIssuer b) ∧
       (s.host.elect s.tick).owner = electOwner (some (Config.certIssuer b)) s.host.silent) ∧
     (∀ p ∈ s.host.peers[i]?, (s.swatch p.swatch).stop = none → (s.swatch p.swatch).phase ≠ .bindingOff →
       Answers (exec (.peerLinkDown i) s) fun t => (t.swatch p.swatch).gates = false ∧ ∃ x ∈ (t.swatch p.swatch).stop, x.cause = 0x21) ∧
     (PacketOk s h q ⟨0x13, .owner, some 0⟩ → a < Config.adapters →
       exec (.handover h a) s = .next { u with host := { u.host with handovers := u.host.handovers ++ [(a, h, u.ownerPending)] } }.settleHost) ∧
     (PacketOk s h q ⟨0x13, .owner, some 0⟩ → Config.adapters ≤ a → exec (.handover h a) s = .next (u.completeStatus h 0xE7)) ∧
     (PacketOk s h q ⟨0x14, .unbar, some tag⟩ → 1 ≤ limit → limit ≤ 255 → Answers (exec (.guilt h tag limit) s) fun t =>
       Map.get 0 t.host.guilt tag = 0 ∧ Map.get 16 t.host.limits tag = limit ∧ tag ∉ t.host.barred ∧ entryOf h 0 0 ∈ t.host.completions) ∧
     (PacketOk s h q ⟨0x14, .unbar, some tag⟩ → (limit = 0 ∨ 255 < limit) → exec (.guilt h tag limit) s = .next (u.malformed h)) ∧
     (PacketOk s h q ⟨0x15, .owner, s.tagOf sw⟩ → s.liveSwatch sw = true → (u.hostInput sw edge = true ∨ u.hostOutput sw edge = true) →
       Answers (exec (.bindpeer h sw edge peer pe) s) fun t =>
         t.host.peers = s.host.peers ++ [{ swatch := sw, edge := edge, peer := peer, peerEdge := pe, waiting := [], crossed := [],
                                           credits := Config.peerSlots s.tick, returned := 0, down := false }] ∧
         entryOf h 0 0 ∈ t.host.completions) ∧
     (let ps := s.persist ++ newParts (lo, len) s.persist
       let within := fun (l : List (Nat × Nat)) (b : Nat) => ∃ r ∈ l, r.1 ≤ b ∧ b < r.1 + r.2
       let total := (ps.map (·.2)).sum;
       (PacketOk s h q ⟨0x16, .owner, some 0⟩ → total ≤ 160 * 2 ^ 30 →
         exec (.persist h lo len) s = .next ({ u with persist := ps }.completeStatus h 0)) ∧
       (PacketOk s h q ⟨0x16, .owner, some 0⟩ → 160 * 2 ^ 30 < total → exec (.persist h lo len) s = .next (u.completeStatus h 0xE4)) ∧
       ∀ b, within ps b ↔ within s.persist b ∨ (lo ≤ b ∧ b < lo + len))) ∧
  (∀ (s : State) (t k port i n p clock supply adapter q : Nat) (x : HostQueue) (words : List Word32) (void mark : Bool)
       (e : Input) (rests : List Turn),
     (s.agenda = .input e :: rests → step s = .next ({ s with tick := s.tick + 1, agenda := rests }.input e)) ∧
     (let w := n / 4 * 4
       let y := s.tile t
       let u := s.input (.softError t n 1)
       let v := s.input (.softError t n 2)
       w < sramEnd → w ∉ y.poisoned → w ∉ y.uncorrectable → w ∉ y.singleError →
         w ∈ (u.tile t).singleError ∧ w ∉ (u.tile t).uncorrectable ∧ w ∈ (v.tile t).uncorrectable ∧
         (u.tile t).sram = y.sram ∧ (v.tile t).sram = y.sram) ∧
     (let l := (s.slot t k).inQueue port
       let u := s.input (.queueError t k port i)
       (s.slot t k).stateCode ≠ 0 → i < l.toks.length → i ∉ l.refilling →
         ((u.slot t k).inQueue port).refilling = l.refilling ++ [i] ∧ ((u.slot t k).inQueue port).toks = l.toks ∧
         (((s.input (.queueRefill t k port)).slot t k).inQueue port).refilling = l.refilling.drop 1) ∧
     (inGrid s.variant p = true →
       let set := (min (max clock 36) 112, min (max supply 550) 820)
       let s1 : State := { s with phys := Map.set s.phys p { s.physTile p with setting := some set } };
       s1.clockSetting p = set ∧ (s1.tooWeak p = false → s.input (.setClock p clock supply) = s1)) ∧
     (s.queueAt adapter q = some x → s.input (.ringOverrun adapter q) = { s with host := s.host.blame x.tag }) ∧
     (∀ y ∈ s.host.peers[i]?, ∀ a, s.producer y.swatch y.edge = some a → 0 < n → y.crossed ≠ [] →
       let u := s.input (.peerReturn i n)
       let m := min n y.crossed.length;
       (∃ r, u.net = s.net ++ [r] ∧ r.is selvage a.1 .slotReturn (.slotReturn a.2.1 a.2.2 m)) ∧
       u.host.peers[i]? = some ({ y with crossed := y.crossed.drop m, credits := y.credits + m } : Peer).cross) ∧
     (∀ y : Peer, (y.down = true → y.cross = y) ∧
       (y.down = false → y.cross.crossed ++ y.cross.waiting = y.crossed ++ y.waiting ∧
         y.cross.crossed.length = y.crossed.length + min y.waiting.length y.credits ∧ y.cross.credits = y.credits - y.waiting.length) ∧
       ((y.replay n).crossed ++ (y.replay n).waiting = y.crossed ++ y.waiting)) ∧
     (∀ y ∈ s.host.peers[i]?, y.down = false → s.producer y.swatch y.edge = none → s.liveSwatch y.swatch = true →
       ((s.swatch y.swatch).hostToks.filter fun e => e.1 == y.edge).length < Map.get 0 (s.swatch y.swatch).hostFree y.edge →
       s.input (.peerToken i words void mark) = (s.modSwatch y.swatch fun w => { w with hostToks := w.hostToks ++
         [(y.edge, { words := words, void := void, mark := mark, tag := w.tag })] }).inject y.swatch))
end

