-- ==== Sys2Proof/Laws/Exec.lean ====
section
/-! SUPPORT. The dispatch, one equation per constructor: exec of an instruction is its meaning. -/

namespace Sys2Proof.Machine

theorem exec_trap (s : State) c : exec (.trap c) s = execTrap c s := rfl
theorem exec_tret (s : State) : exec .tret s = execTret s := rfl
theorem exec_brk (s : State) c : exec (.brk c) s = execBrk c s := rfl
theorem exec_cwr (s : State) d c : exec (.cwr d c) s = execCwr d c s := rfl
theorem exec_cww (s : State) a c : exec (.cww a c) s = execCww a c s := rfl
theorem exec_waitev (s : State) d a : exec (.waitev d a) s = execWaitev d a s := rfl
theorem exec_rdcyc (s : State) d : exec (.rdcyc d) s = execRdcyc d s := rfl
theorem exec_haltq (s : State) : exec .haltq s = execHaltq s := rfl
theorem exec_add (s : State) d a b : exec (.add d a b) s = execAdd d a b s := rfl
theorem exec_sub (s : State) d a b : exec (.sub d a b) s = execSub d a b s := rfl
theorem exec_and (s : State) d a b : exec (.and d a b) s = execAnd d a b s := rfl
theorem exec_or (s : State) d a b : exec (.or d a b) s = execOr d a b s := rfl
theorem exec_xor (s : State) d a b : exec (.xor d a b) s = execXor d a b s := rfl
theorem exec_andn (s : State) d a b : exec (.andn d a b) s = execAndn d a b s := rfl
theorem exec_orn (s : State) d a b : exec (.orn d a b) s = execOrn d a b s := rfl
theorem exec_xnor (s : State) d a b : exec (.xnor d a b) s = execXnor d a b s := rfl
theorem exec_sll (s : State) d a b : exec (.sll d a b) s = execSll d a b s := rfl
theorem exec_srl (s : State) d a b : exec (.srl d a b) s = execSrl d a b s := rfl
theorem exec_sra (s : State) d a b : exec (.sra d a b) s = execSra d a b s := rfl
theorem exec_rol (s : State) d a b : exec (.rol d a b) s = execRol d a b s := rfl
theorem exec_ror (s : State) d a b : exec (.ror d a b) s = execRor d a b s := rfl
theorem exec_slt (s : State) d a b : exec (.slt d a b) s = execSlt d a b s := rfl
theorem exec_sltn (s : State) d a b : exec (.sltn d a b) s = execSltn d a b s := rfl
theorem exec_min (s : State) d a b : exec (.min d a b) s = execMin d a b s := rfl
theorem exec_max (s : State) d a b : exec (.max d a b) s = execMax d a b s := rfl
theorem exec_minn (s : State) d a b : exec (.minn d a b) s = execMinn d a b s := rfl
theorem exec_maxn (s : State) d a b : exec (.maxn d a b) s = execMaxn d a b s := rfl
theorem exec_addw (s : State) d a b : exec (.addw d a b) s = execAddw d a b s := rfl
theorem exec_subw (s : State) d a b : exec (.subw d a b) s = execSubw d a b s := rfl
theorem exec_mul (s : State) d a b : exec (.mul d a b) s = execMul d a b s := rfl
theorem exec_mulh (s : State) d a b : exec (.mulh d a b) s = execMulh d a b s := rfl
theorem exec_mulhn (s : State) d a b : exec (.mulhn d a b) s = execMulhn d a b s := rfl
theorem exec_div (s : State) d a b : exec (.div d a b) s = execDiv d a b s := rfl
theorem exec_divn (s : State) d a b : exec (.divn d a b) s = execDivn d a b s := rfl
theorem exec_rem (s : State) d a b : exec (.rem d a b) s = execRem d a b s := rfl
theorem exec_remn (s : State) d a b : exec (.remn d a b) s = execRemn d a b s := rfl
theorem exec_clz (s : State) d a : exec (.clz d a) s = execClz d a s := rfl
theorem exec_ctz (s : State) d a : exec (.ctz d a) s = execCtz d a s := rfl
theorem exec_popc (s : State) d a : exec (.popc d a) s = execPopc d a s := rfl
theorem exec_bswap (s : State) d a : exec (.bswap d a) s = execBswap d a s := rfl
theorem exec_sextI8 (s : State) d a : exec (.sextI8 d a) s = execSextI8 d a s := rfl
theorem exec_sextI16 (s : State) d a : exec (.sextI16 d a) s = execSextI16 d a s := rfl
theorem exec_sextI32 (s : State) d a : exec (.sextI32 d a) s = execSextI32 d a s := rfl
theorem exec_zextN8 (s : State) d a : exec (.zextN8 d a) s = execZextN8 d a s := rfl
theorem exec_zextN16 (s : State) d a : exec (.zextN16 d a) s = execZextN16 d a s := rfl
theorem exec_zextN32 (s : State) d a : exec (.zextN32 d a) s = execZextN32 d a s := rfl
theorem exec_addi (s : State) d a i1 : exec (.addi d a i1) s = execAddi d a i1 s := rfl
theorem exec_andi (s : State) d a i1 : exec (.andi d a i1) s = execAndi d a i1 s := rfl
theorem exec_ori (s : State) d a i1 : exec (.ori d a i1) s = execOri d a i1 s := rfl
theorem exec_xori (s : State) d a i1 : exec (.xori d a i1) s = execXori d a i1 s := rfl
theorem exec_slti (s : State) d a i1 : exec (.slti d a i1) s = execSlti d a i1 s := rfl
theorem exec_sltin (s : State) d a i1 : exec (.sltin d a i1) s = execSltin d a i1 s := rfl
theorem exec_lih (s : State) d a i1 : exec (.lih d a i1) s = execLih d a i1 s := rfl
theorem exec_slli (s : State) d a h : exec (.slli d a h) s = execSlli d a h s := rfl
theorem exec_srli (s : State) d a h : exec (.srli d a h) s = execSrli d a h s := rfl
theorem exec_srai (s : State) d a h : exec (.srai d a h) s = execSrai d a h s := rfl
theorem exec_rori (s : State) d a h : exec (.rori d a h) s = execRori d a h s := rfl
theorem exec_extr (s : State) d a p l : exec (.extr d a p l) s = execExtr d a p l s := rfl
theorem exec_insr (s : State) d a p l : exec (.insr d a p l) s = execInsr d a p l s := rfl
theorem exec_addsh (s : State) d a h b : exec (.addsh d a h b) s = execAddsh d a h b s := rfl
theorem exec_beq (s : State) a b o : exec (.beq a b o) s = execBeq a b o s := rfl
theorem exec_bne (s : State) a b o : exec (.bne a b o) s = execBne a b o s := rfl
theorem exec_blt (s : State) a b o : exec (.blt a b o) s = execBlt a b o s := rfl
theorem exec_bge (s : State) a b o : exec (.bge a b o) s = execBge a b o s := rfl
theorem exec_bltn (s : State) a b o : exec (.bltn a b o) s = execBltn a b o s := rfl
theorem exec_bgen (s : State) a b o : exec (.bgen a b o) s = execBgen a b o s := rfl
theorem exec_jal (s : State) o : exec (.jal o) s = execJal o s := rfl
theorem exec_jalr (s : State) d a i1 : exec (.jalr d a i1) s = execJalr d a i1 s := rfl
theorem exec_loop (s : State) a l : exec (.loop a l) s = execLoop a l s := rfl
theorem exec_ldsB (s : State) d a o : exec (.ldsB d a o) s = execLdsB d a o s := rfl
theorem exec_ldsBn (s : State) d a o : exec (.ldsBn d a o) s = execLdsBn d a o s := rfl
theorem exec_ldsH (s : State) d a o : exec (.ldsH d a o) s = execLdsH d a o s := rfl
theorem exec_ldsHn (s : State) d a o : exec (.ldsHn d a o) s = execLdsHn d a o s := rfl
theorem exec_ldsW (s : State) d a o : exec (.ldsW d a o) s = execLdsW d a o s := rfl
theorem exec_ldsWn (s : State) d a o : exec (.ldsWn d a o) s = execLdsWn d a o s := rfl
theorem exec_ldsD (s : State) d a o : exec (.ldsD d a o) s = execLdsD d a o s := rfl
theorem exec_stsB (s : State) d a o : exec (.stsB d a o) s = execStsB d a o s := rfl
theorem exec_stsH (s : State) d a o : exec (.stsH d a o) s = execStsH d a o s := rfl
theorem exec_stsW (s : State) d a o : exec (.stsW d a o) s = execStsW d a o s := rfl
theorem exec_stsD (s : State) d a o : exec (.stsD d a o) s = execStsD d a o s := rfl
theorem exec_vld (s : State) d a o : exec (.vld d a o) s = execVld d a o s := rfl
theorem exec_vlds (s : State) d a o : exec (.vlds d a o) s = execVlds d a o s := rfl
theorem exec_vldz (s : State) d a o : exec (.vldz d a o) s = execVldz d a o s := rfl
theorem exec_vldb (s : State) d a o : exec (.vldb d a o) s = execVldb d a o s := rfl
theorem exec_vldx (s : State) d a b m z h : exec (.vldx d a b m z h) s = execVldx d a b m z h s := rfl
theorem exec_vst (s : State) d a o : exec (.vst d a o) s = execVst d a o s := rfl
theorem exec_vsts (s : State) d a o : exec (.vsts d a o) s = execVsts d a o s := rfl
theorem exec_vstz (s : State) d a o : exec (.vstz d a o) s = execVstz d a o s := rfl
theorem exec_vstx (s : State) d a b m h : exec (.vstx d a b m h) s = execVstx d a b m h s := rfl
theorem exec_pcnt (s : State) d p : exec (.pcnt d p) s = execPcnt d p s := rfl
theorem exec_pfree (s : State) d p : exec (.pfree d p) s = execPfree d p s := rfl
theorem exec_peek (s : State) d a p : exec (.peek d a p) s = execPeek d a p s := rfl
theorem exec_pskip (s : State) a p : exec (.pskip a p) s = execPskip a p s := rfl
theorem exec_vtake (s : State) d p : exec (.vtake d p) s = execVtake d p s := rfl
theorem exec_vput (s : State) a p : exec (.vput a p) s = execVput a p s := rfl
theorem exec_pscale (s : State) d p : exec (.pscale d p) s = execPscale d p s := rfl
theorem exec_pscalew (s : State) a p : exec (.pscalew a p) s = execPscalew a p s := rfl
theorem exec_pmark (s : State) p : exec (.pmark p) s = execPmark p s := rfl
theorem exec_pismark (s : State) d p : exec (.pismark d p) s = execPismark d p s := rfl
theorem exec_gauge (s : State) d r : exec (.gauge d r) s = execGauge d r s := rfl
theorem exec_nptr (s : State) d r : exec (.nptr d r) s = execNptr d r s := rfl
theorem exec_fctr (s : State) d : exec (.fctr d) s = execFctr d s := rfl
theorem exec_endF (s : State) : exec .endF s = execEndF s := rfl
theorem exec_voidf (s : State) : exec .voidf s = execVoidf s := rfl
theorem exec_aborts (s : State) : exec .aborts s = execAborts s := rfl
theorem exec_jstW (s : State) d a : exec (.jstW d a) s = execJstW d a s := rfl
theorem exec_jstD (s : State) d a : exec (.jstD d a) s = execJstD d a s := rfl
theorem exec_taken (s : State) d p : exec (.taken d p) s = execTaken d p s := rfl
theorem exec_made (s : State) d p : exec (.made d p) s = execMade d p s := rfl
theorem exec_scope (s : State) d a : exec (.scope d a) s = execScope d a s := rfl
theorem exec_seal (s : State) a : exec (.seal a) s = execSeal a s := rfl
theorem exec_ordinal (s : State) d : exec (.ordinal d) s = execOrdinal d s := rfl
theorem exec_vfadd (s : State) d a b m z t : exec (.vfadd d a b m z t) s = execVfadd d a b m z t s := rfl
theorem exec_vfsub (s : State) d a b m z t : exec (.vfsub d a b m z t) s = execVfsub d a b m z t s := rfl
theorem exec_vfmul (s : State) d a b m z t : exec (.vfmul d a b m z t) s = execVfmul d a b m z t s := rfl
theorem exec_vfdiv (s : State) d a b m z t : exec (.vfdiv d a b m z t) s = execVfdiv d a b m z t s := rfl
theorem exec_vfsqrt (s : State) d a m z t : exec (.vfsqrt d a m z t) s = execVfsqrt d a m z t s := rfl
theorem exec_vfmin (s : State) d a b m z t : exec (.vfmin d a b m z t) s = execVfmin d a b m z t s := rfl
theorem exec_vfmax (s : State) d a b m z t : exec (.vfmax d a b m z t) s = execVfmax d a b m z t s := rfl
theorem exec_vfabs (s : State) d a m z t : exec (.vfabs d a m z t) s = execVfabs d a m z t s := rfl
theorem exec_vfneg (s : State) d a m z t : exec (.vfneg d a m z t) s = execVfneg d a m z t s := rfl
theorem exec_vfclass (s : State) d a m z t : exec (.vfclass d a m z t) s = execVfclass d a m z t s := rfl
theorem exec_vfmaVfp (s : State) d a b m z t : exec (.vfmaVfp d a b m z t) s = execVfmaVfp d a b m z t s := rfl
theorem exec_vfmsVfp (s : State) d a b m z t : exec (.vfmsVfp d a b m z t) s = execVfmsVfp d a b m z t s := rfl
theorem exec_vfnmaVfp (s : State) d a b m z t : exec (.vfnmaVfp d a b m z t) s = execVfnmaVfp d a b m z t s := rfl
theorem exec_vfnmsVfp (s : State) d a b m z t : exec (.vfnmsVfp d a b m z t) s = execVfnmsVfp d a b m z t s := rfl
theorem exec_vfmaV4 (s : State) d a b c m z : exec (.vfmaV4 d a b c m z) s = execVfmaV4 d a b c m z s := rfl
theorem exec_vfmsV4 (s : State) d a b c m z : exec (.vfmsV4 d a b c m z) s = execVfmsV4 d a b c m z s := rfl
theorem exec_vfnmaV4 (s : State) d a b c m z : exec (.vfnmaV4 d a b c m z) s = execVfnmaV4 d a b c m z s := rfl
theorem exec_vfnmsV4 (s : State) d a b c m z : exec (.vfnmsV4 d a b c m z) s = execVfnmsV4 d a b c m z s := rfl
theorem exec_vadd (s : State) d a b m z w : exec (.vadd d a b m z w) s = execVadd d a b m z w s := rfl
theorem exec_vsub (s : State) d a b m z w : exec (.vsub d a b m z w) s = execVsub d a b m z w s := rfl
theorem exec_vmul (s : State) d a b m z w : exec (.vmul d a b m z w) s = execVmul d a b m z w s := rfl
theorem exec_vmulhI (s : State) d a b m z w : exec (.vmulhI d a b m z w) s = execVmulhI d a b m z w s := rfl
theorem exec_vmulhN (s : State) d a b m z w : exec (.vmulhN d a b m z w) s = execVmulhN d a b m z w s := rfl
theorem exec_vand (s : State) d a b m z w : exec (.vand d a b m z w) s = execVand d a b m z w s := rfl
theorem exec_vor (s : State) d a b m z w : exec (.vor d a b m z w) s = execVor d a b m z w s := rfl
theorem exec_vxor (s : State) d a b m z w : exec (.vxor d a b m z w) s = execVxor d a b m z w s := rfl
theorem exec_vandn (s : State) d a b m z w : exec (.vandn d a b m z w) s = execVandn d a b m z w s := rfl
theorem exec_vsll (s : State) d a b m z w : exec (.vsll d a b m z w) s = execVsll d a b m z w s := rfl
theorem exec_vsrl (s : State) d a b m z w : exec (.vsrl d a b m z w) s = execVsrl d a b m z w s := rfl
theorem exec_vsra (s : State) d a b m z w : exec (.vsra d a b m z w) s = execVsra d a b m z w s := rfl
theorem exec_vminI (s : State) d a b m z w : exec (.vminI d a b m z w) s = execVminI d a b m z w s := rfl
theorem exec_vminN (s : State) d a b m z w : exec (.vminN d a b m z w) s = execVminN d a b m z w s := rfl
theorem exec_vmaxI (s : State) d a b m z w : exec (.vmaxI d a b m z w) s = execVmaxI d a b m z w s := rfl
theorem exec_vmaxN (s : State) d a b m z w : exec (.vmaxN d a b m z w) s = execVmaxN d a b m z w s := rfl
theorem exec_vaddsI (s : State) d a b m z w : exec (.vaddsI d a b m z w) s = execVaddsI d a b m z w s := rfl
theorem exec_vaddsN (s : State) d a b m z w : exec (.vaddsN d a b m z w) s = execVaddsN d a b m z w s := rfl
theorem exec_vsubsI (s : State) d a b m z w : exec (.vsubsI d a b m z w) s = execVsubsI d a b m z w s := rfl
theorem exec_vsubsN (s : State) d a b m z w : exec (.vsubsN d a b m z w) s = execVsubsN d a b m z w s := rfl
theorem exec_vabsdI (s : State) d a b m z w : exec (.vabsdI d a b m z w) s = execVabsdI d a b m z w s := rfl
theorem exec_vabsdN (s : State) d a b m z w : exec (.vabsdN d a b m z w) s = execVabsdN d a b m z w s := rfl
theorem exec_vdot4I8 (s : State) d a b m z : exec (.vdot4I8 d a b m z) s = execVdot4I8 d a b m z s := rfl
theorem exec_vdot4N8 (s : State) d a b m z : exec (.vdot4N8 d a b m z) s = execVdot4N8 d a b m z s := rfl
theorem exec_vceq (s : State) d a b m z t : exec (.vceq d a b m z t) s = execVceq d a b m z t s := rfl
theorem exec_vcne (s : State) d a b m z t : exec (.vcne d a b m z t) s = execVcne d a b m z t s := rfl
theorem exec_vclt (s : State) d a b m z t : exec (.vclt d a b m z t) s = execVclt d a b m z t s := rfl
theorem exec_vcle (s : State) d a b m z t : exec (.vcle d a b m z t) s = execVcle d a b m z t s := rfl
theorem exec_vcgt (s : State) d a b m z t : exec (.vcgt d a b m z t) s = execVcgt d a b m z t s := rfl
theorem exec_vcge (s : State) d a b m z t : exec (.vcge d a b m z t) s = execVcge d a b m z t s := rfl
theorem exec_vcun (s : State) d a b m z : exec (.vcun d a b m z) s = execVcun d a b m z s := rfl
theorem exec_vsel (s : State) d a b k : exec (.vsel d a b k) s = execVsel d a b k s := rfl
theorem exec_vcvtF32I32 (s : State) d a m z : exec (.vcvtF32I32 d a m z) s = execVcvtF32I32 d a m z s := rfl
theorem exec_vcvtF32N32 (s : State) d a m z : exec (.vcvtF32N32 d a m z) s = execVcvtF32N32 d a m z s := rfl
theorem exec_vcvtI32F32 (s : State) d a m z : exec (.vcvtI32F32 d a m z) s = execVcvtI32F32 d a m z s := rfl
theorem exec_vcvtN32F32 (s : State) d a m z : exec (.vcvtN32F32 d a m z) s = execVcvtN32F32 d a m z s := rfl
theorem exec_vpkF16 (s : State) d a b m z : exec (.vpkF16 d a b m z) s = execVpkF16 d a b m z s := rfl
theorem exec_vpkBf16 (s : State) d a b m z : exec (.vpkBf16 d a b m z) s = execVpkBf16 d a b m z s := rfl
theorem exec_vupkF16 (s : State) d a q m z : exec (.vupkF16 d a q m z) s = execVupkF16 d a q m z s := rfl
theorem exec_vupkBf16 (s : State) d a q m z : exec (.vupkBf16 d a q m z) s = execVupkBf16 d a q m z s := rfl
theorem exec_vpkE4m3 (s : State) d a q m z : exec (.vpkE4m3 d a q m z) s = execVpkE4m3 d a q m z s := rfl
theorem exec_vpkE5m2 (s : State) d a q m z : exec (.vpkE5m2 d a q m z) s = execVpkE5m2 d a q m z s := rfl
theorem exec_vpkE3m2 (s : State) d a q m z : exec (.vpkE3m2 d a q m z) s = execVpkE3m2 d a q m z s := rfl
theorem exec_vpkE2m3 (s : State) d a q m z : exec (.vpkE2m3 d a q m z) s = execVpkE2m3 d a q m z s := rfl
theorem exec_vpkE2m1 (s : State) d a q m z : exec (.vpkE2m1 d a q m z) s = execVpkE2m1 d a q m z s := rfl
theorem exec_vupkE4m3 (s : State) d a q m z : exec (.vupkE4m3 d a q m z) s = execVupkE4m3 d a q m z s := rfl
theorem exec_vupkE5m2 (s : State) d a q m z : exec (.vupkE5m2 d a q m z) s = execVupkE5m2 d a q m z s := rfl
theorem exec_vupkE3m2 (s : State) d a q m z : exec (.vupkE3m2 d a q m z) s = execVupkE3m2 d a q m z s := rfl
theorem exec_vupkE2m3 (s : State) d a q m z : exec (.vupkE2m3 d a q m z) s = execVupkE2m3 d a q m z s := rfl
theorem exec_vupkE2m1 (s : State) d a q m z : exec (.vupkE2m1 d a q m z) s = execVupkE2m1 d a q m z s := rfl
theorem exec_vrsum (s : State) d a m t : exec (.vrsum d a m t) s = execVrsum d a m t s := rfl
theorem exec_vrmin (s : State) d a m t : exec (.vrmin d a m t) s = execVrmin d a m t s := rfl
theorem exec_vrmax (s : State) d a m t : exec (.vrmax d a m t) s = execVrmax d a m t s := rfl
theorem exec_vrand (s : State) d a m t : exec (.vrand d a m t) s = execVrand d a m t s := rfl
theorem exec_vror (s : State) d a m t : exec (.vror d a m t) s = execVror d a m t s := rfl
theorem exec_vrxor (s : State) d a m t : exec (.vrxor d a m t) s = execVrxor d a m t s := rfl
theorem exec_vperm (s : State) d a b m z : exec (.vperm d a b m z) s = execVperm d a b m z s := rfl
theorem exec_vshuf (s : State) d a b m z : exec (.vshuf d a b m z) s = execVshuf d a b m z s := rfl
theorem exec_vslideu (s : State) d a k m z : exec (.vslideu d a k m z) s = execVslideu d a k m z s := rfl
theorem exec_vslided (s : State) d a k m z : exec (.vslided d a k m z) s = execVslided d a k m z s := rfl
theorem exec_vmv (s : State) d a m z : exec (.vmv d a m z) s = execVmv d a m z s := rfl
theorem exec_vsplat (s : State) d a m z : exec (.vsplat d a m z) s = execVsplat d a m z s := rfl
theorem exec_vins (s : State) d a k m z : exec (.vins d a k m z) s = execVins d a k m z s := rfl
theorem exec_vext (s : State) d a k : exec (.vext d a k) s = execVext d a k s := rfl
theorem exec_vmsk (s : State) d a : exec (.vmsk d a) s = execVmsk d a s := rfl
theorem exec_mshape (s : State) m s1 : exec (.mshape m s1) s = execMshape m s1 s := rfl
theorem exec_mzero (s : State) c : exec (.mzero c) s = execMzero c s := rfl
theorem exec_manch (s : State) c s1 : exec (.manch c s1) s = execManch c s1 s := rfl
theorem exec_mflags (s : State) c s1 : exec (.mflags c s1) s = execMflags c s1 s := rfl
theorem exec_mld (s : State) m s1 : exec (.mld m s1) s = execMld m s1 s := rfl
theorem exec_mldT (s : State) m s1 : exec (.mldT m s1) s = execMldT m s1 s := rfl
theorem exec_mst (s : State) m s1 : exec (.mst m s1) s = execMst m s1 s := rfl
theorem exec_mlds (s : State) m s1 : exec (.mlds m s1) s = execMlds m s1 s := rfl
theorem exec_mldx (s : State) m s1 : exec (.mldx m s1) s = execMldx m s1 s := rfl
theorem exec_mma (s : State) c a b : exec (.mma c a b) s = execMma c a b s := rfl
theorem exec_mmaS (s : State) c a b : exec (.mmaS c a b) s = execMmaS c a b s := rfl
theorem exec_mmaQ (s : State) c a b : exec (.mmaQ c a b) s = execMmaQ c a b s := rfl
theorem exec_madda (s : State) c s1 : exec (.madda c s1) s = execMadda c s1 s := rfl
theorem exec_mdrain (s : State) c s1 f : exec (.mdrain c s1 f) s = execMdrain c s1 f s := rfl
theorem exec_mdrainM (s : State) c s1 f : exec (.mdrainM c s1 f) s = execMdrainM c s1 f s := rfl
theorem exec_mread (s : State) c s1 : exec (.mread c s1) s = execMread c s1 s := rfl
theorem exec_sgo (s : State) a : exec (.sgo a) s = execSgo a s := rfl
theorem exec_sstop (s : State) a : exec (.sstop a) s = execSstop a s := rfl
theorem exec_sstat (s : State) d a : exec (.sstat d a) s = execSstat d a s := rfl
theorem exec_sbar (s : State) a : exec (.sbar a) s = execSbar a s := rfl
theorem exec_creq (s : State) a : exec (.creq a) s = execCreq a s := rfl
theorem exec_waitmsg (s : State) : exec .waitmsg s = execWaitmsg s := rfl
theorem exec_msgtake (s : State) d : exec (.msgtake d) s = execMsgtake d s := rfl
theorem exec_msgcnt (s : State) d : exec (.msgcnt d) s = execMsgcnt d s := rfl
theorem exec_msgdrop (s : State) : exec .msgdrop s = execMsgdrop s := rfl
theorem exec_scfg (s : State) d a role kind f i1 : exec (.scfg d a role kind f i1) s = execScfg d a role kind f i1 s := rfl
theorem exec_sdim (s : State) d a l i1 : exec (.sdim d a l i1) s = execSdim d a l i1 s := rfl
theorem exec_copy (s : State) d a b i1 : exec (.copy d a b i1) s = execCopy d a b i1 s := rfl
theorem exec_send (s : State) d a tag i1 : exec (.send d a tag i1) s = execSend d a tag i1 s := rfl
theorem exec_aadd (s : State) d a s1 i1 : exec (.aadd d a s1 i1) s = execAadd d a s1 i1 s := rfl
theorem exec_aand (s : State) d a s1 i1 : exec (.aand d a s1 i1) s = execAand d a s1 i1 s := rfl
theorem exec_aor (s : State) d a s1 i1 : exec (.aor d a s1 i1) s = execAor d a s1 i1 s := rfl
theorem exec_axor (s : State) d a s1 i1 : exec (.axor d a s1 i1) s = execAxor d a s1 i1 s := rfl
theorem exec_amin (s : State) d a n s1 i1 : exec (.amin d a n s1 i1) s = execAmin d a n s1 i1 s := rfl
theorem exec_amax (s : State) d a n s1 i1 : exec (.amax d a n s1 i1) s = execAmax d a n s1 i1 s := rfl
theorem exec_aswap (s : State) d a s1 i1 : exec (.aswap d a s1 i1) s = execAswap d a s1 i1 s := rfl
theorem exec_acas (s : State) d a b s1 i1 : exec (.acas d a b s1 i1) s = execAcas d a b s1 i1 s := rfl
theorem exec_axadd (s : State) d a b i1 : exec (.axadd d a b i1) s = execAxadd d a b i1 s := rfl
theorem exec_awatch (s : State) d a b n s1 i1 : exec (.awatch d a b n s1 i1) s = execAwatch d a b n s1 i1 s := rfl
theorem exec_seminc (s : State) a b : exec (.seminc a b) s = execSeminc a b s := rfl
theorem exec_semdec (s : State) a b : exec (.semdec a b) s = execSemdec a b s := rfl
theorem exec_semwait (s : State) a b : exec (.semwait a b) s = execSemwait a b s := rfl
theorem exec_semrd (s : State) d b : exec (.semrd d b) s = execSemrd d b s := rfl
theorem exec_semset (s : State) a b : exec (.semset a b) s = execSemset a b s := rfl
theorem exec_fenceCore (s : State) : exec .fenceCore s = execFenceCore s := rfl
theorem exec_fenceXpath (s : State) : exec .fenceXpath s = execFenceXpath s := rfl
theorem exec_fenceStr (s : State) a : exec (.fenceStr a) s = execFenceStr a s := rfl
theorem exec_fenceLvl (s : State) l : exec (.fenceLvl l) s = execFenceLvl l s := rfl
theorem exec_binit (s : State) a b : exec (.binit a b) s = execBinit a b s := rfl
theorem exec_arrive (s : State) d a b : exec (.arrive d a b) s = execArrive d a b s := rfl
theorem exec_arrivedrop (s : State) d a b : exec (.arrivedrop d a b) s = execArrivedrop d a b s := rfl
theorem exec_bwait (s : State) a b : exec (.bwait a b) s = execBwait a b s := rfl
theorem exec_btest (s : State) d a b : exec (.btest d a b) s = execBtest d a b s := rfl
theorem exec_bret (s : State) a : exec (.bret a) s = execBret a s := rfl
theorem exec_bexp (s : State) a b : exec (.bexp a b) s = execBexp a b s := rfl
theorem exec_cwLcWrite (s : State) level a : exec (.cwLcWrite level a) s = execCwLcWrite level a s := rfl
theorem exec_cwFflagsWrite (s : State) a : exec (.cwFflagsWrite a) s = execCwFflagsWrite a s := rfl
theorem exec_cwRoundWrite (s : State) a : exec (.cwRoundWrite a) s = execCwRoundWrite a s := rfl
theorem exec_cwMctlWrite (s : State) a : exec (.cwMctlWrite a) s = execCwMctlWrite a s := rfl
theorem exec_firingStart (s : State) t : exec (.firingStart t) s = execFiringStart t s := rfl
theorem exec_commitPoint (s : State) t : exec (.commitPoint t) s = execCommitPoint t s := rfl
theorem exec_budgetExceeded (s : State) t : exec (.budgetExceeded t) s = execBudgetExceeded t s := rfl
theorem exec_firingRetry (s : State) t : exec (.firingRetry t) s = execFiringRetry t s := rfl
theorem exec_instructionWaitEnd (s : State) t : exec (.instructionWaitEnd t) s = execInstructionWaitEnd t s := rfl
theorem exec_tokenLanding (s : State) src dst : exec (.tokenLanding src dst) s = execTokenLanding src dst s := rfl
theorem exec_recordFetch (s : State) t : exec (.recordFetch t) s = execRecordFetch t s := rfl
theorem exec_tileWake (s : State) t : exec (.tileWake t) s = execTileWake t s := rfl
theorem exec_tileGating (s : State) t power : exec (.tileGating t power) s = execTileGating t power s := rfl
theorem exec_slotReturn (s : State) src dst : exec (.slotReturn src dst) s = execSlotReturn src dst s := rfl
theorem exec_activeMessageLanding (s : State) src dst : exec (.activeMessageLanding src dst) s = execActiveMessageLanding src dst s := rfl
theorem exec_permitReturn (s : State) src dst : exec (.permitReturn src dst) s = execPermitReturn src dst s := rfl
theorem exec_loopClose (s : State) src dst : exec (.loopClose src dst) s = execLoopClose src dst s := rfl
theorem exec_closeReply (s : State) src dst : exec (.closeReply src dst) s = execCloseReply src dst s := rfl
theorem exec_loopDiscard (s : State) t slot : exec (.loopDiscard t slot) s = execLoopDiscard t slot s := rfl
theorem exec_scopeComplete (s : State) sw sc : exec (.scopeComplete sw sc) s = execScopeComplete sw sc s := rfl
theorem exec_scopeAborted (s : State) sw sc : exec (.scopeAborted sw sc) s = execScopeAborted sw sc s := rfl
theorem exec_castOnSegment (s : State) sw t : exec (.castOnSegment sw t) s = execCastOnSegment sw t s := rfl
theorem exec_followHoldRelease (s : State) sw t : exec (.followHoldRelease sw t) s = execFollowHoldRelease sw t s := rfl
theorem exec_configurationComplete (s : State) sw : exec (.configurationComplete sw) s = execConfigurationComplete sw s := rfl
theorem exec_knotIntervalExpiry (s : State) t : exec (.knotIntervalExpiry t) s = execKnotIntervalExpiry t s := rfl
theorem exec_knotProbe (s : State) i1 : exec (.knotProbe i1) s = execKnotProbe i1 s := rfl
theorem exec_starvedCycleProbe (s : State) i1 : exec (.starvedCycleProbe i1) s = execStarvedCycleProbe i1 s := rfl
theorem exec_knotReport (s : State) i1 : exec (.knotReport i1) s = execKnotReport i1 s := rfl
theorem exec_starvedCycleReport (s : State) i1 : exec (.starvedCycleReport i1) s = execStarvedCycleReport i1 s := rfl
theorem exec_rebalancerMove (s : State) t slot t2 slot2 : exec (.rebalancerMove t slot t2 slot2) s = execRebalancerMove t slot t2 slot2 s := rfl
theorem exec_rebindHold (s : State) m sender : exec (.rebindHold m sender) s = execRebindHold m sender s := rfl
theorem exec_holdAcknowledgement (s : State) m sender : exec (.holdAcknowledgement m sender) s = execHoldAcknowledgement m sender s := rfl
theorem exec_remapEntryChange (s : State) t dir entry : exec (.remapEntryChange t dir entry) s = execRemapEntryChange t dir entry s := rfl
theorem exec_flitCrcError (s : State) link : exec (.flitCrcError link) s = execFlitCrcError link s := rfl
theorem exec_laneDiagnosis (s : State) link failing : exec (.laneDiagnosis link failing) s = execLaneDiagnosis link failing s := rfl
theorem exec_pathDown (s : State) t dir alt : exec (.pathDown t dir alt) s = execPathDown t dir alt s := rfl
theorem exec_gaugeRefresh (s : State) t dir entry : exec (.gaugeRefresh t dir entry) s = execGaugeRefresh t dir entry s := rfl
theorem exec_fieldOffsetMeasurement (s : State) f dir offset unc drift : exec (.fieldOffsetMeasurement f dir offset unc drift) s = execFieldOffsetMeasurement f dir offset unc drift s := rfl
theorem exec_eventDeadline (s : State) t : exec (.eventDeadline t) s = execEventDeadline t s := rfl
theorem exec_scrub (s : State) t addr : exec (.scrub t addr) s = execScrub t addr s := rfl
theorem exec_parityDelta (s : State) t : exec (.parityDelta t) s = execParityDelta t s := rfl
theorem exec_darning (s : State) t spare : exec (.darning t spare) s = execDarning t spare s := rfl
theorem exec_tileRetirement (s : State) t spare : exec (.tileRetirement t spare) s = execTileRetirement t spare s := rfl
theorem exec_regulatorPhaseLoss (s : State) phys keepAlive : exec (.regulatorPhaseLoss phys keepAlive) s = execRegulatorPhaseLoss phys keepAlive s := rfl
theorem exec_streamElement (s : State) t k : exec (.streamElement t k) s = execStreamElement t k s := rfl
theorem exec_translationProbe (s : State) i1 : exec (.translationProbe i1) s = execTranslationProbe i1 s := rfl
theorem exec_pageWalk (s : State) i1 : exec (.pageWalk i1) s = execPageWalk i1 s := rfl
theorem exec_probeReply (s : State) i1 : exec (.probeReply i1) s = execProbeReply i1 s := rfl
theorem exec_faultNotice (s : State) i1 : exec (.faultNotice i1) s = execFaultNotice i1 s := rfl
theorem exec_memoryRequest (s : State) i1 : exec (.memoryRequest i1) s = execMemoryRequest i1 s := rfl
theorem exec_memoryReply (s : State) i1 : exec (.memoryReply i1) s = execMemoryReply i1 s := rfl
theorem exec_watchRegister (s : State) i1 : exec (.watchRegister i1) s = execWatchRegister i1 s := rfl
theorem exec_streamStopBoundary (s : State) t k : exec (.streamStopBoundary t k) s = execStreamStopBoundary t k s := rfl
theorem exec_copyRequestToken (s : State) t slot port : exec (.copyRequestToken t slot port) s = execCopyRequestToken t slot port s := rfl
theorem exec_completionMessage (s : State) t key : exec (.completionMessage t key) s = execCompletionMessage t key s := rfl
theorem exec_hostSink (s : State) src : exec (.hostSink src) s = execHostSink src s := rfl
theorem exec_remoteArrival (s : State) src dst : exec (.remoteArrival src dst) s = execRemoteArrival src dst s := rfl
theorem exec_matrixStart (s : State) t pipe : exec (.matrixStart t pipe) s = execMatrixStart t pipe s := rfl
theorem exec_matrixComplete (s : State) t pipe : exec (.matrixComplete t pipe) s = execMatrixComplete t pipe s := rfl
theorem exec_arrayIdle (s : State) t : exec (.arrayIdle t) s = execArrayIdle t s := rfl
theorem exec_activityGrant (s : State) f : exec (.activityGrant f) s = execActivityGrant f s := rfl
theorem exec_rampEnd (s : State) t : exec (.rampEnd t) s = execRampEnd t s := rfl
theorem exec_swatchStopped (s : State) sw : exec (.swatchStopped sw) s = execSwatchStopped sw s := rfl
theorem exec_preemptSave (s : State) sw : exec (.preemptSave sw) s = execPreemptSave sw s := rfl
theorem exec_bindOffRelease (s : State) sw : exec (.bindOffRelease sw) s = execBindOffRelease sw s := rfl
theorem exec_homeListRebuild (s : State) station n : exec (.homeListRebuild station n) s = execHomeListRebuild station n s := rfl
theorem exec_powerFailTrap (s : State) : exec .powerFailTrap s = execPowerFailTrap s := rfl
theorem exec_flashDrain (s : State) : exec .flashDrain s = execFlashDrain s := rfl
theorem exec_gridSignal (s : State) k : exec (.gridSignal k) s = execGridSignal k s := rfl
theorem exec_powerWindow (s : State) exceeds : exec (.powerWindow exceeds) s = execPowerWindow exceeds s := rfl
theorem exec_coldStart (s : State) : exec .coldStart s = execColdStart s := rfl
theorem exec_warmStart (s : State) : exec .warmStart s = execWarmStart s := rfl
theorem exec_ownerSilence (s : State) : exec .ownerSilence s = execOwnerSilence s := rfl
theorem exec_peerLinkDown (s : State) i1 : exec (.peerLinkDown i1) s = execPeerLinkDown i1 s := rfl
theorem exec_launch (s : State) h va : exec (.launch h va) s = execLaunch h va s := rfl
theorem exec_sealScope (s : State) h sw sc : exec (.sealScope h sw sc) s = execSealScope h sw sc s := rfl
theorem exec_abortScope (s : State) h sw sc : exec (.abortScope h sw sc) s = execAbortScope h sw sc s := rfl
theorem exec_releaseScope (s : State) h sw sc : exec (.releaseScope h sw sc) s = execReleaseScope h sw sc s := rfl
theorem exec_waitscope (s : State) h sw sc : exec (.waitscope h sw sc) s = execWaitscope h sw sc s := rfl
theorem exec_preempt (s : State) h sw va urgent : exec (.preempt h sw va urgent) s = execPreempt h sw va urgent s := rfl
theorem exec_stopanswer (s : State) h sw ans : exec (.stopanswer h sw ans) s = execStopanswer h sw ans s := rfl
theorem exec_bindoff (s : State) h sw : exec (.bindoff h sw) s = execBindoff h sw s := rfl
theorem exec_reknit (s : State) h va : exec (.reknit h va) s = execReknit h va s := rfl
theorem exec_faultanswer (s : State) h id resume : exec (.faultanswer h id resume) s = execFaultanswer h id resume s := rfl
theorem exec_readnodes (s : State) h sw dx dy slot va : exec (.readnodes h sw dx dy slot va) s = execReadnodes h sw dx dy slot va s := rfl
theorem exec_readlog (s : State) h logical x y va : exec (.readlog h logical x y va) s = execReadlog h logical x y va s := rfl
theorem exec_sempost (s : State) h sw dx dy slot k value : exec (.sempost h sw dx dy slot k value) s = execSempost h sw dx dy slot k value s := rfl
theorem exec_xlateinv (s : State) h tag all lo hi : exec (.xlateinv h tag all lo hi) s = execXlateinv h tag all lo hi s := rfl
theorem exec_setctx (s : State) h pa : exec (.setctx h pa) s = execSetctx h pa s := rfl
theorem exec_powerstep (s : State) h k : exec (.powerstep h k) s = execPowerstep h k s := rfl
theorem exec_debugCmd (s : State) h t op : exec (.debugCmd h t op) s = execDebugCmd h t op s := rfl
theorem exec_attest (s : State) h nonce va : exec (.attest h nonce va) s = execAttest h nonce va s := rfl
theorem exec_handover (s : State) h adapter : exec (.handover h adapter) s = execHandover h adapter s := rfl
theorem exec_guilt (s : State) h tag limit : exec (.guilt h tag limit) s = execGuilt h tag limit s := rfl
theorem exec_bindpeer (s : State) h sw edge peer peerEdge : exec (.bindpeer h sw edge peer peerEdge) s = execBindpeer h sw edge peer peerEdge s := rfl
theorem exec_persist (s : State) h lo len : exec (.persist h lo len) s = execPersist h lo len s := rfl
theorem exec_status (s : State) h va : exec (.status h va) s = execStatus h va s := rfl
theorem exec_token (s : State) h sw edge mark words : exec (.token h sw edge mark words) s = execToken h sw edge mark words s := rfl
theorem exec_qcreate (s : State) h adapter q sub comp n tag : exec (.qcreate h adapter q sub comp n tag) s = execQcreate h adapter q sub comp n tag s := rfl
theorem exec_qdelete (s : State) h adapter q : exec (.qdelete h adapter q) s = execQdelete h adapter q s := rfl
theorem exec_illegalInstruction (s : State) : exec .illegalInstruction s = execIllegalInstruction s := rfl
theorem exec_malformedPacket (s : State) h : exec (.malformedPacket h) s = execMalformedPacket h s := rfl
theorem exec_copyWord (s : State) t id : exec (.copyWord t id) s = execCopyWord t id s := rfl
theorem exec_powerFailDeadline (s : State) : exec .powerFailDeadline s = execPowerFailDeadline s := rfl
theorem exec_firmwareImage (s : State) img : exec (.firmwareImage img) s = execFirmwareImage img s := rfl

end Sys2Proof.Machine
end

