-- ==== Sys2Proof/Laws/Maps.lean ====
section
/-! SUPPORT. Reading after writing in sparse tables and in memory, and the canonical form of memory: every operation on it keeps the form. -/

namespace Sys2Proof

/-! ### Tables -/

@[simp] theorem Map.get_nil {α : Type} (d : α) (k : Nat) : Map.get d [] k = d := rfl

@[simp] theorem Map.get_set_self {α : Type} (d : α) (m : Map α) (k : Nat) (v : α) : Map.get d (Map.set m k v) k = v := by
  induction m with
  | nil => simp [Map.set, Map.get]
  | cons e m ih =>
    obtain ⟨k', v'⟩ := e
    unfold Map.set
    split
    · next h => simp [Map.get, Nat.ne_of_lt h, ih]
    · split <;> simp [Map.get]

theorem Map.get_set_ne {α : Type} (d : α) (m : Map α) {k j : Nat} (v : α) (h : k ≠ j) :
    Map.get d (Map.set m k v) j = Map.get d m j := by
  induction m with
  | nil => simp [Map.set, Map.get, h]
  | cons e m ih =>
    obtain ⟨k', v'⟩ := e
    unfold Map.set
    split
    · simp [Map.get, ih]
    · split
      · next h2 => subst h2; simp [Map.get, h]
      · simp [Map.get, h]

theorem Map.get_set {α : Type} (d : α) (m : Map α) (k j : Nat) (v : α) :
    Map.get d (Map.set m k v) j = if k = j then v else Map.get d m j := by
  split
  · next h => subst h; simp
  · next h => exact Map.get_set_ne d m v h

@[simp] theorem Map.find_set_self {α : Type} (m : Map α) (k : Nat) (v : α) : Map.find (Map.set m k v) k = some v := by
  induction m with
  | nil => simp [Map.set, Map.find]
  | cons e m ih =>
    obtain ⟨k', v'⟩ := e
    unfold Map.set
    split
    · next h => simp [Map.find, Nat.ne_of_lt h, ih]
    · split <;> simp [Map.find]

theorem Map.find_set_ne {α : Type} (m : Map α) {k j : Nat} (v : α) (h : k ≠ j) : Map.find (Map.set m k v) j = Map.find m j := by
  induction m with
  | nil => simp [Map.set, Map.find, h]
  | cons e m ih =>
    obtain ⟨k', v'⟩ := e
    unfold Map.set
    split
    · simp [Map.find, ih]
    · split
      · next h2 => subst h2; simp [Map.find, h]
      · simp [Map.find, h]

theorem Map.get_of_find {α : Type} (d : α) (m : Map α) (k : Nat) : Map.get d m k = (Map.find m k).getD d := by
  induction m with
  | nil => rfl
  | cons e m ih =>
    obtain ⟨k', v'⟩ := e
    by_cases h : k' = k <;> simp [Map.get, Map.find, h, ih]

@[simp] theorem Map.find_erase_self {α : Type} (m : Map α) (k : Nat) : Map.find (Map.erase m k) k = none := by
  induction m with
  | nil => rfl
  | cons e m ih =>
    obtain ⟨k', v'⟩ := e
    unfold Map.erase at ih ⊢
    by_cases h : k' = k <;> simp [Map.find, h, ih]

theorem Map.find_erase_ne {α : Type} (m : Map α) {k j : Nat} (h : k ≠ j) : Map.find (Map.erase m k) j = Map.find m j := by
  induction m with
  | nil => rfl
  | cons e m ih =>
    obtain ⟨k', v'⟩ := e
    unfold Map.erase at ih ⊢
    by_cases hk : k' = k
    · subst hk; simp [Map.find, h, ih]
    · have hb : (!k' == k) = true := by simp [hk]
      rw [List.filter_cons, if_pos hb]
      simp only [Map.find, ih]

@[simp] theorem Map.get_erase_self {α : Type} (d : α) (m : Map α) (k : Nat) : Map.get d (Map.erase m k) k = d := by
  simp [Map.get_of_find]

theorem Map.get_erase_ne {α : Type} (d : α) (m : Map α) {k j : Nat} (h : k ≠ j) : Map.get d (Map.erase m k) j = Map.get d m j := by
  simp [Map.get_of_find, Map.find_erase_ne m h]

/-! ### Memory -/

@[simp] theorem Memory.read_nil (a : Nat) : Memory.read [] a = 0 := rfl

@[simp] theorem Memory.read_write_self (m : Memory) (a : Nat) (b : Byte) : Memory.read (Memory.write m a b) a = b := by
  unfold Memory.write Memory.read
  split
  · next h => simp [h]
  · simp

theorem Memory.read_write_ne (m : Memory) {a x : Nat} (b : Byte) (h : a ≠ x) : Memory.read (Memory.write m a b) x = Memory.read m x := by
  unfold Memory.write Memory.read
  split
  · exact Map.get_erase_ne 0 m h
  · exact Map.get_set_ne 0 m b h

theorem Memory.read_write (m : Memory) (a x : Nat) (b : Byte) :
    Memory.read (Memory.write m a b) x = if a = x then b else Memory.read m x := by
  split
  · next h => subst h; simp
  · next h => exact Memory.read_write_ne m b h

/-- A byte after a run of bytes has been stored: the stored byte inside the run, what was there before outside it. -/
theorem Memory.read_writeN (m : Memory) (a x : Nat) (bs : List Byte) :
    Memory.read (Memory.writeN m a bs) x = if a ≤ x ∧ x < a + bs.length then bs.getD (x - a) 0 else Memory.read m x := by
  induction bs generalizing m a with
  | nil => rw [if_neg fun h => absurd h.1 (Nat.not_le.mpr h.2), Memory.writeN]
  | cons b bs ih =>
    rw [Memory.writeN, ih]
    by_cases h1 : a + 1 ≤ x ∧ x < a + 1 + bs.length
    · obtain ⟨d, rfl⟩ : ∃ d, x = a + 1 + d := ⟨x - (a + 1), by omega⟩
      rw [if_pos h1, if_pos (by simp; omega), show a + 1 + d - (a + 1) = d by omega, show a + 1 + d - a = d + 1 by omega]
      simp
    · rw [if_neg h1, Memory.read_write]
      by_cases h2 : a = x
      · subst h2; simp
      · rw [if_neg h2, if_neg (by simp; omega)]

theorem Memory.read_writeN_outside (m : Memory) (a x : Nat) (bs : List Byte) (h : x < a ∨ a + bs.length ≤ x) :
    Memory.read (Memory.writeN m a bs) x = Memory.read m x := by
  rw [Memory.read_writeN, if_neg (by omega)]

@[simp] theorem Memory.readN_length (m : Memory) (a n : Nat) : (Memory.readN m a n).length = n := by
  induction n generalizing a with
  | zero => rfl
  | succ n ih => simp [Memory.readN, ih]

theorem Memory.readN_congr (m m' : Memory) (a n : Nat) (h : ∀ x, a ≤ x → x < a + n → Memory.read m x = Memory.read m' x) :
    Memory.readN m a n = Memory.readN m' a n := by
  induction n generalizing a with
  | zero => rfl
  | succ n ih =>
    rw [Memory.readN, Memory.readN, h a (by omega) (by omega), ih (a + 1) fun x h1 h2 => h x (by omega) (by omega)]

/-- Reading a run of bytes back gives what was stored there. -/
theorem Memory.readN_writeN (m : Memory) (a : Nat) (bs : List Byte) : Memory.readN (Memory.writeN m a bs) a bs.length = bs := by
  induction bs generalizing m a with
  | nil => rfl
  | cons b bs ih =>
    rw [Memory.writeN, List.length_cons, Memory.readN, ih, Memory.read_writeN_outside _ _ _ _ (by omega)]
    simp

/-! ### The canonical form -/

/-- The canonical form in two parts: keys strictly rising, and no byte equal to 0. -/
theorem Memory.wf_iff (m : Memory) : Memory.wf m = true ↔ m.Pairwise (fun e f => e.1 < f.1) ∧ ∀ e ∈ m, e.2 ≠ 0 := by
  induction m with
  | nil => simp [Memory.wf]
  | cons e m ih =>
    obtain ⟨a, b⟩ := e
    cases m with
    | nil => simp [Memory.wf]
    | cons f m =>
      obtain ⟨a', b'⟩ := f
      simp only [Memory.wf, Bool.and_eq_true, decide_eq_true_eq, ih, Bool.not_eq_true', beq_eq_false_iff_ne, List.pairwise_cons,
        List.mem_cons, forall_eq_or_imp, ne_eq]
      constructor
      · rintro ⟨⟨h1, h2⟩, ⟨h3, h4⟩, h5, h6⟩
        exact ⟨⟨⟨h1, fun g hg => Nat.lt_trans h1 (h3 g hg)⟩, h3, h4⟩, h2, h5, h6⟩
      · rintro ⟨⟨⟨h1, _⟩, h3, h4⟩, h2, h5, h6⟩
        exact ⟨⟨h1, h2⟩, ⟨h3, h4⟩, h5, h6⟩

@[simp] theorem Memory.wf_nil : Memory.wf [] = true := rfl

theorem Memory.wf_filter (m : Memory) (p : Host.Cell → Bool) (h : Memory.wf m = true) : Memory.wf (m.filter p) = true := by
  rw [Memory.wf_iff] at h ⊢
  exact ⟨h.1.filter _, fun e he => h.2 e (List.mem_filter.1 he).1⟩

theorem Map.mem_set {α : Type} (m : Map α) (k : Nat) (v : α) (e : Nat × α) (h : e ∈ Map.set m k v) : e = (k, v) ∨ e ∈ m := by
  induction m with
  | nil => simpa [Map.set] using h
  | cons f m ih =>
    obtain ⟨k', v'⟩ := f
    unfold Map.set at h
    split at h
    · rcases List.mem_cons.1 h with rfl | h
      · exact .inr (List.mem_cons_self ..)
      · exact (ih h).imp_right (List.mem_cons_of_mem _)
    · split at h
      · rcases List.mem_cons.1 h with rfl | h
        · exact .inl rfl
        · exact .inr (List.mem_cons_of_mem _ h)
      · rcases List.mem_cons.1 h with rfl | h
        · exact .inl rfl
        · exact .inr h

/-- Setting a key keeps the keys of a table rising. -/
theorem Map.set_pairwise {α : Type} (m : Map α) (k : Nat) (v : α) (h : m.Pairwise fun e f => e.1 < f.1) :
    (Map.set m k v).Pairwise fun e f => e.1 < f.1 := by
  induction m with
  | nil => simp [Map.set]
  | cons f m ih =>
    obtain ⟨k', v'⟩ := f
    rw [List.pairwise_cons] at h
    unfold Map.set
    split
    · next hlt =>
      refine List.pairwise_cons.2 ⟨fun e he => ?_, ih h.2⟩
      rcases Map.mem_set m k v e he with rfl | he
      · exact hlt
      · exact h.1 e he
    · split
      · next heq => subst heq; exact List.pairwise_cons.2 h
      · next h1 h2 =>
        refine List.pairwise_cons.2 ⟨fun e he => ?_, List.pairwise_cons.2 h⟩
        rcases List.mem_cons.1 he with rfl | he
        · exact Nat.lt_of_le_of_ne (Nat.le_of_not_lt h1) (Ne.symm h2)
        · exact Nat.lt_trans (Nat.lt_of_le_of_ne (Nat.le_of_not_lt h1) (Ne.symm h2)) (h.1 e he)

/-- A byte written keeps the canonical form. -/
theorem Memory.wf_write (m : Memory) (a : Nat) (b : Byte) (h : Memory.wf m = true) : Memory.wf (Memory.write m a b) = true := by
  unfold Memory.write
  split
  · exact Memory.wf_filter m _ h
  · next hb =>
    rw [Memory.wf_iff] at h ⊢
    refine ⟨Map.set_pairwise m a b h.1, fun e he => ?_⟩
    rcases Map.mem_set m a b e he with rfl | he
    · exact hb
    · exact h.2 e he

/-- A run of bytes written keeps the canonical form. -/
theorem Memory.wf_writeN (m : Memory) (a : Nat) (bs : List Byte) (h : Memory.wf m = true) : Memory.wf (Memory.writeN m a bs) = true := by
  induction bs generalizing m a with
  | nil => exact h
  | cons b bs ih => exact ih _ _ (Memory.wf_write m a b h)

/-- A list of bytes written one by one keeps the canonical form. -/
theorem Memory.wf_foldl_write {β : Type} (l : List β) (g : β → Nat) (v : Memory → β → Byte) (m : Memory) (h : Memory.wf m = true) :
    Memory.wf (l.foldl (fun m e => Memory.write m (g e) (v m e)) m) = true := by
  induction l generalizing m with
  | nil => exact h
  | cons e l ih => exact ih _ (Memory.wf_write m _ _ h)

/-- Memories in canonical form that read alike are equal. -/
theorem Memory.ext_of_wf (m m' : Memory) (h : Memory.wf m = true) (h' : Memory.wf m' = true)
    (hr : ∀ a, Memory.read m a = Memory.read m' a) : m = m' := by
  rw [Memory.wf_iff] at h h'
  have lookup : ∀ (m : Memory), m.Pairwise (fun e f => e.1 < f.1) → ∀ e ∈ m, Memory.read m e.1 = e.2 := by
    intro m hm e he
    induction m with
    | nil => simp at he
    | cons f m ih =>
      obtain ⟨k, v⟩ := f
      rw [List.pairwise_cons] at hm
      rcases List.mem_cons.1 he with rfl | he
      · simp [Memory.read, Map.get]
      · have := hm.1 e he
        simpa [Memory.read, Map.get, Nat.ne_of_lt this] using ih hm.2 he
  have absent : ∀ (m : Memory) (a : Nat), (∀ e ∈ m, e.1 ≠ a) → Memory.read m a = 0 := by
    intro m a hm
    induction m with
    | nil => rfl
    | cons f m ih =>
      obtain ⟨k, v⟩ := f
      have h1 : k ≠ a := hm (k, v) (List.mem_cons_self ..)
      simpa [Memory.read, Map.get, h1] using ih fun e he => hm e (List.mem_cons_of_mem _ he)
  have sub : ∀ (p q : Memory), p.Pairwise (fun e f => e.1 < f.1) → q.Pairwise (fun e f => e.1 < f.1) → (∀ e ∈ p, e.2 ≠ 0) →
      (∀ a, Memory.read p a = Memory.read q a) → ∀ e ∈ p, e ∈ q := by
    intro p q hp hq hn hr e he
    by_cases hx : ∃ f ∈ q, f.1 = e.1
    · obtain ⟨f, hf, hfe⟩ := hx
      have h1 := lookup p hp e he
      have h2 := lookup q hq f hf
      rw [hfe] at h2
      rw [hr] at h1
      have : f = e := Prod.ext hfe (h2.symm.trans h1)
      exact this ▸ hf
    · have h1 := lookup p hp e he
      rw [hr, absent q e.1 fun f hf hfe => hx ⟨f, hf, hfe⟩] at h1
      exact absurd h1.symm (hn e he)
  have mm' := sub m m' h.1 h'.1 h.2 hr
  have m'm := sub m' m h'.1 h.1 h'.2 fun a => (hr a).symm
  clear hr lookup absent sub
  induction m generalizing m' with
  | nil => cases m' with
    | nil => rfl
    | cons e m' => exact absurd (m'm e (List.mem_cons_self ..)) (by simp)
  | cons e m ih => cases m' with
    | nil => exact absurd (mm' e (List.mem_cons_self ..)) (by simp)
    | cons f m' =>
      have hp := List.pairwise_cons.1 h.1
      have hq := List.pairwise_cons.1 h'.1
      have hef : e = f := by
        rcases List.mem_cons.1 (mm' e (List.mem_cons_self ..)) with h1 | h1
        · exact h1
        · rcases List.mem_cons.1 (m'm f (List.mem_cons_self ..)) with h2 | h2
          · exact h2.symm
          · exact absurd (hp.1 f h2) (Nat.lt_asymm (hq.1 e h1))
      subst hef
      refine congrArg _ (ih m' ⟨hp.2, fun g hg => h.2 g (List.mem_cons_of_mem _ hg)⟩ ⟨hq.2, fun g hg => h'.2 g (List.mem_cons_of_mem _ hg)⟩
        (fun g hg => ?_) fun g hg => ?_)
      · rcases List.mem_cons.1 (mm' g (List.mem_cons_of_mem _ hg)) with rfl | h1
        · exact absurd (hp.1 _ hg) (Nat.lt_irrefl _)
        · exact h1
      · rcases List.mem_cons.1 (m'm g (List.mem_cons_of_mem _ hg)) with rfl | h1
        · exact absurd (hq.1 _ hg) (Nat.lt_irrefl _)
        · exact h1

end Sys2Proof
end

