-- ==== Sys2Proof/Laws/State.lean ====
section
/-! SUPPORT. What each update of the state, of a tile and of a firing leaves alone: one lemma per field per update, true by rfl. -/

namespace Sys2Proof.Machine

/-! State.setTile -/

@[simp] theorem State.setTile_variant (s : State) (t : Nat) (x : Tile) : (s.setTile t x).variant = s.variant := rfl
@[simp] theorem State.setTile_tick (s : State) (t : Nat) (x : Tile) : (s.setTile t x).tick = s.tick := rfl
@[simp] theorem State.setTile_agenda (s : State) (t : Nat) (x : Tile) : (s.setTile t x).agenda = s.agenda := rfl
@[simp] theorem State.setTile_focus (s : State) (t : Nat) (x : Tile) : (s.setTile t x).focus = s.focus := rfl
@[simp] theorem State.setTile_scan (s : State) (t : Nat) (x : Tile) : (s.setTile t x).scan = s.scan := rfl
@[simp] theorem State.setTile_binding (s : State) (t : Nat) (x : Tile) : (s.setTile t x).binding = s.binding := rfl
@[simp] theorem State.setTile_phys (s : State) (t : Nat) (x : Tile) : (s.setTile t x).phys = s.phys := rfl
@[simp] theorem State.setTile_links (s : State) (t : Nat) (x : Tile) : (s.setTile t x).links = s.links := rfl
@[simp] theorem State.setTile_net (s : State) (t : Nat) (x : Tile) : (s.setTile t x).net = s.net := rfl
@[simp] theorem State.setTile_rebinds (s : State) (t : Nat) (x : Tile) : (s.setTile t x).rebinds = s.rebinds := rfl
@[simp] theorem State.setTile_nextMove (s : State) (t : Nat) (x : Tile) : (s.setTile t x).nextMove = s.nextMove := rfl
@[simp] theorem State.setTile_probes (s : State) (t : Nat) (x : Tile) : (s.setTile t x).probes = s.probes := rfl
@[simp] theorem State.setTile_reports (s : State) (t : Nat) (x : Tile) : (s.setTile t x).reports = s.reports := rfl
@[simp] theorem State.setTile_dram (s : State) (t : Nat) (x : Tile) : (s.setTile t x).dram = s.dram := rfl
@[simp] theorem State.setTile_dramOrder (s : State) (t : Nat) (x : Tile) : (s.setTile t x).dramOrder = s.dramOrder := rfl
@[simp] theorem State.setTile_context (s : State) (t : Nat) (x : Tile) : (s.setTile t x).context = s.context := rfl
@[simp] theorem State.setTile_stations (s : State) (t : Nat) (x : Tile) : (s.setTile t x).stations = s.stations := rfl
@[simp] theorem State.setTile_actors (s : State) (t : Nat) (x : Tile) : (s.setTile t x).actors = s.actors := rfl
@[simp] theorem State.setTile_xlations (s : State) (t : Nat) (x : Tile) : (s.setTile t x).xlations = s.xlations := rfl
@[simp] theorem State.setTile_xprobes (s : State) (t : Nat) (x : Tile) : (s.setTile t x).xprobes = s.xprobes := rfl
@[simp] theorem State.setTile_probeReplies (s : State) (t : Nat) (x : Tile) : (s.setTile t x).probeReplies = s.probeReplies := rfl
@[simp] theorem State.setTile_memReqs (s : State) (t : Nat) (x : Tile) : (s.setTile t x).memReqs = s.memReqs := rfl
@[simp] theorem State.setTile_memReplies (s : State) (t : Nat) (x : Tile) : (s.setTile t x).memReplies = s.memReplies := rfl
@[simp] theorem State.setTile_performed (s : State) (t : Nat) (x : Tile) : (s.setTile t x).performed = s.performed := rfl
@[simp] theorem State.setTile_watches (s : State) (t : Nat) (x : Tile) : (s.setTile t x).watches = s.watches := rfl
@[simp] theorem State.setTile_notices (s : State) (t : Nat) (x : Tile) : (s.setTile t x).notices = s.notices := rfl
@[simp] theorem State.setTile_nextNotice (s : State) (t : Nat) (x : Tile) : (s.setTile t x).nextNotice = s.nextNotice := rfl
@[simp] theorem State.setTile_swatches (s : State) (t : Nat) (x : Tile) : (s.setTile t x).swatches = s.swatches := rfl
@[simp] theorem State.setTile_nextSwatch (s : State) (t : Nat) (x : Tile) : (s.setTile t x).nextSwatch = s.nextSwatch := rfl
@[simp] theorem State.setTile_parity (s : State) (t : Nat) (x : Tile) : (s.setTile t x).parity = s.parity := rfl
@[simp] theorem State.setTile_fieldCtr (s : State) (t : Nat) (x : Tile) : (s.setTile t x).fieldCtr = s.fieldCtr := rfl
@[simp] theorem State.setTile_offsets (s : State) (t : Nat) (x : Tile) : (s.setTile t x).offsets = s.offsets := rfl
@[simp] theorem State.setTile_gaugeGen (s : State) (t : Nat) (x : Tile) : (s.setTile t x).gaugeGen = s.gaugeGen := rfl
@[simp] theorem State.setTile_grants (s : State) (t : Nat) (x : Tile) : (s.setTile t x).grants = s.grants := rfl
@[simp] theorem State.setTile_requests (s : State) (t : Nat) (x : Tile) : (s.setTile t x).requests = s.requests := rfl
@[simp] theorem State.setTile_host (s : State) (t : Nat) (x : Tile) : (s.setTile t x).host = s.host := rfl
@[simp] theorem State.setTile_power (s : State) (t : Nat) (x : Tile) : (s.setTile t x).power = s.power := rfl
@[simp] theorem State.setTile_persist (s : State) (t : Nat) (x : Tile) : (s.setTile t x).persist = s.persist := rfl
@[simp] theorem State.setTile_flash (s : State) (t : Nat) (x : Tile) : (s.setTile t x).flash = s.flash := rfl
@[simp] theorem State.setTile_places (s : State) (t : Nat) (x : Tile) : (s.setTile t x).places = s.places := rfl
@[simp] theorem State.setTile_startCount (s : State) (t : Nat) (x : Tile) : (s.setTile t x).startCount = s.startCount := rfl
@[simp] theorem State.setTile_lastCold (s : State) (t : Nat) (x : Tile) : (s.setTile t x).lastCold = s.lastCold := rfl
@[simp] theorem State.setTile_recovery (s : State) (t : Nat) (x : Tile) : (s.setTile t x).recovery = s.recovery := rfl
@[simp] theorem State.setTile_coldNext (s : State) (t : Nat) (x : Tile) : (s.setTile t x).coldNext = s.coldNext := rfl
@[simp] theorem State.setTile_layout (s : State) (t : Nat) (x : Tile) : (s.setTile t x).layout = s.layout := rfl
@[simp] theorem State.setTile_firmware (s : State) (t : Nat) (x : Tile) : (s.setTile t x).firmware = s.firmware := rfl

/-! State.modTile -/

@[simp] theorem State.modTile_variant (s : State) (t : Nat) (g : Tile → Tile) : (s.modTile t g).variant = s.variant := rfl
@[simp] theorem State.modTile_tick (s : State) (t : Nat) (g : Tile → Tile) : (s.modTile t g).tick = s.tick := rfl
@[simp] theorem State.modTile_agenda (s : State) (t : Nat) (g : Tile → Tile) : (s.modTile t g).agenda = s.agenda := rfl
@[simp] theorem State.modTile_focus (s : State) (t : Nat) (g : Tile → Tile) : (s.modTile t g).focus = s.focus := rfl
@[simp] theorem State.modTile_scan (s : State) (t : Nat) (g : Tile → Tile) : (s.modTile t g).scan = s.scan := rfl
@[simp] theorem State.modTile_binding (s : State) (t : Nat) (g : Tile → Tile) : (s.modTile t g).binding = s.binding := rfl
@[simp] theorem State.modTile_phys (s : State) (t : Nat) (g : Tile → Tile) : (s.modTile t g).phys = s.phys := rfl
@[simp] theorem State.modTile_links (s : State) (t : Nat) (g : Tile → Tile) : (s.modTile t g).links = s.links := rfl
@[simp] theorem State.modTile_net (s : State) (t : Nat) (g : Tile → Tile) : (s.modTile t g).net = s.net := rfl
@[simp] theorem State.modTile_rebinds (s : State) (t : Nat) (g : Tile → Tile) : (s.modTile t g).rebinds = s.rebinds := rfl
@[simp] theorem State.modTile_nextMove (s : State) (t : Nat) (g : Tile → Tile) : (s.modTile t g).nextMove = s.nextMove := rfl
@[simp] theorem State.modTile_probes (s : State) (t : Nat) (g : Tile → Tile) : (s.modTile t g).probes = s.probes := rfl
@[simp] theorem State.modTile_reports (s : State) (t : Nat) (g : Tile → Tile) : (s.modTile t g).reports = s.reports := rfl
@[simp] theorem State.modTile_dram (s : State) (t : Nat) (g : Tile → Tile) : (s.modTile t g).dram = s.dram := rfl
@[simp] theorem State.modTile_dramOrder (s : State) (t : Nat) (g : Tile → Tile) : (s.modTile t g).dramOrder = s.dramOrder := rfl
@[simp] theorem State.modTile_context (s : State) (t : Nat) (g : Tile → Tile) : (s.modTile t g).context = s.context := rfl
@[simp] theorem State.modTile_stations (s : State) (t : Nat) (g : Tile → Tile) : (s.modTile t g).stations = s.stations := rfl
@[simp] theorem State.modTile_actors (s : State) (t : Nat) (g : Tile → Tile) : (s.modTile t g).actors = s.actors := rfl
@[simp] theorem State.modTile_xlations (s : State) (t : Nat) (g : Tile → Tile) : (s.modTile t g).xlations = s.xlations := rfl
@[simp] theorem State.modTile_xprobes (s : State) (t : Nat) (g : Tile → Tile) : (s.modTile t g).xprobes = s.xprobes := rfl
@[simp] theorem State.modTile_probeReplies (s : State) (t : Nat) (g : Tile → Tile) : (s.modTile t g).probeReplies = s.probeReplies := rfl
@[simp] theorem State.modTile_memReqs (s : State) (t : Nat) (g : Tile → Tile) : (s.modTile t g).memReqs = s.memReqs := rfl
@[simp] theorem State.modTile_memReplies (s : State) (t : Nat) (g : Tile → Tile) : (s.modTile t g).memReplies = s.memReplies := rfl
@[simp] theorem State.modTile_performed (s : State) (t : Nat) (g : Tile → Tile) : (s.modTile t g).performed = s.performed := rfl
@[simp] theorem State.modTile_watches (s : State) (t : Nat) (g : Tile → Tile) : (s.modTile t g).watches = s.watches := rfl
@[simp] theorem State.modTile_notices (s : State) (t : Nat) (g : Tile → Tile) : (s.modTile t g).notices = s.notices := rfl
@[simp] theorem State.modTile_nextNotice (s : State) (t : Nat) (g : Tile → Tile) : (s.modTile t g).nextNotice = s.nextNotice := rfl
@[simp] theorem State.modTile_swatches (s : State) (t : Nat) (g : Tile → Tile) : (s.modTile t g).swatches = s.swatches := rfl
@[simp] theorem State.modTile_nextSwatch (s : State) (t : Nat) (g : Tile → Tile) : (s.modTile t g).nextSwatch = s.nextSwatch := rfl
@[simp] theorem State.modTile_parity (s : State) (t : Nat) (g : Tile → Tile) : (s.modTile t g).parity = s.parity := rfl
@[simp] theorem State.modTile_fieldCtr (s : State) (t : Nat) (g : Tile → Tile) : (s.modTile t g).fieldCtr = s.fieldCtr := rfl
@[simp] theorem State.modTile_offsets (s : State) (t : Nat) (g : Tile → Tile) : (s.modTile t g).offsets = s.offsets := rfl
@[simp] theorem State.modTile_gaugeGen (s : State) (t : Nat) (g : Tile → Tile) : (s.modTile t g).gaugeGen = s.gaugeGen := rfl
@[simp] theorem State.modTile_grants (s : State) (t : Nat) (g : Tile → Tile) : (s.modTile t g).grants = s.grants := rfl
@[simp] theorem State.modTile_requests (s : State) (t : Nat) (g : Tile → Tile) : (s.modTile t g).requests = s.requests := rfl
@[simp] theorem State.modTile_host (s : State) (t : Nat) (g : Tile → Tile) : (s.modTile t g).host = s.host := rfl
@[simp] theorem State.modTile_power (s : State) (t : Nat) (g : Tile → Tile) : (s.modTile t g).power = s.power := rfl
@[simp] theorem State.modTile_persist (s : State) (t : Nat) (g : Tile → Tile) : (s.modTile t g).persist = s.persist := rfl
@[simp] theorem State.modTile_flash (s : State) (t : Nat) (g : Tile → Tile) : (s.modTile t g).flash = s.flash := rfl
@[simp] theorem State.modTile_places (s : State) (t : Nat) (g : Tile → Tile) : (s.modTile t g).places = s.places := rfl
@[simp] theorem State.modTile_startCount (s : State) (t : Nat) (g : Tile → Tile) : (s.modTile t g).startCount = s.startCount := rfl
@[simp] theorem State.modTile_lastCold (s : State) (t : Nat) (g : Tile → Tile) : (s.modTile t g).lastCold = s.lastCold := rfl
@[simp] theorem State.modTile_recovery (s : State) (t : Nat) (g : Tile → Tile) : (s.modTile t g).recovery = s.recovery := rfl
@[simp] theorem State.modTile_coldNext (s : State) (t : Nat) (g : Tile → Tile) : (s.modTile t g).coldNext = s.coldNext := rfl
@[simp] theorem State.modTile_layout (s : State) (t : Nat) (g : Tile → Tile) : (s.modTile t g).layout = s.layout := rfl
@[simp] theorem State.modTile_firmware (s : State) (t : Nat) (g : Tile → Tile) : (s.modTile t g).firmware = s.firmware := rfl

/-! State.modSlot -/

@[simp] theorem State.modSlot_variant (s : State) (t : Nat) (k : Nat) (g : Slot → Slot) : (s.modSlot t k g).variant = s.variant := rfl
@[simp] theorem State.modSlot_tick (s : State) (t : Nat) (k : Nat) (g : Slot → Slot) : (s.modSlot t k g).tick = s.tick := rfl
@[simp] theorem State.modSlot_agenda (s : State) (t : Nat) (k : Nat) (g : Slot → Slot) : (s.modSlot t k g).agenda = s.agenda := rfl
@[simp] theorem State.modSlot_focus (s : State) (t : Nat) (k : Nat) (g : Slot → Slot) : (s.modSlot t k g).focus = s.focus := rfl
@[simp] theorem State.modSlot_scan (s : State) (t : Nat) (k : Nat) (g : Slot → Slot) : (s.modSlot t k g).scan = s.scan := rfl
@[simp] theorem State.modSlot_binding (s : State) (t : Nat) (k : Nat) (g : Slot → Slot) : (s.modSlot t k g).binding = s.binding := rfl
@[simp] theorem State.modSlot_phys (s : State) (t : Nat) (k : Nat) (g : Slot → Slot) : (s.modSlot t k g).phys = s.phys := rfl
@[simp] theorem State.modSlot_links (s : State) (t : Nat) (k : Nat) (g : Slot → Slot) : (s.modSlot t k g).links = s.links := rfl
@[simp] theorem State.modSlot_net (s : State) (t : Nat) (k : Nat) (g : Slot → Slot) : (s.modSlot t k g).net = s.net := rfl
@[simp] theorem State.modSlot_rebinds (s : State) (t : Nat) (k : Nat) (g : Slot → Slot) : (s.modSlot t k g).rebinds = s.rebinds := rfl
@[simp] theorem State.modSlot_nextMove (s : State) (t : Nat) (k : Nat) (g : Slot → Slot) : (s.modSlot t k g).nextMove = s.nextMove := rfl
@[simp] theorem State.modSlot_probes (s : State) (t : Nat) (k : Nat) (g : Slot → Slot) : (s.modSlot t k g).probes = s.probes := rfl
@[simp] theorem State.modSlot_reports (s : State) (t : Nat) (k : Nat) (g : Slot → Slot) : (s.modSlot t k g).reports = s.reports := rfl
@[simp] theorem State.modSlot_dram (s : State) (t : Nat) (k : Nat) (g : Slot → Slot) : (s.modSlot t k g).dram = s.dram := rfl
@[simp] theorem State.modSlot_dramOrder (s : State) (t : Nat) (k : Nat) (g : Slot → Slot) : (s.modSlot t k g).dramOrder = s.dramOrder := rfl
@[simp] theorem State.modSlot_context (s : State) (t : Nat) (k : Nat) (g : Slot → Slot) : (s.modSlot t k g).context = s.context := rfl
@[simp] theorem State.modSlot_stations (s : State) (t : Nat) (k : Nat) (g : Slot → Slot) : (s.modSlot t k g).stations = s.stations := rfl
@[simp] theorem State.modSlot_actors (s : State) (t : Nat) (k : Nat) (g : Slot → Slot) : (s.modSlot t k g).actors = s.actors := rfl
@[simp] theorem State.modSlot_xlations (s : State) (t : Nat) (k : Nat) (g : Slot → Slot) : (s.modSlot t k g).xlations = s.xlations := rfl
@[simp] theorem State.modSlot_xprobes (s : State) (t : Nat) (k : Nat) (g : Slot → Slot) : (s.modSlot t k g).xprobes = s.xprobes := rfl
@[simp] theorem State.modSlot_probeReplies (s : State) (t : Nat) (k : Nat) (g : Slot → Slot) : (s.modSlot t k g).probeReplies = s.probeReplies := rfl
@[simp] theorem State.modSlot_memReqs (s : State) (t : Nat) (k : Nat) (g : Slot → Slot) : (s.modSlot t k g).memReqs = s.memReqs := rfl
@[simp] theorem State.modSlot_memReplies (s : State) (t : Nat) (k : Nat) (g : Slot → Slot) : (s.modSlot t k g).memReplies = s.memReplies := rfl
@[simp] theorem State.modSlot_performed (s : State) (t : Nat) (k : Nat) (g : Slot → Slot) : (s.modSlot t k g).performed = s.performed := rfl
@[simp] theorem State.modSlot_watches (s : State) (t : Nat) (k : Nat) (g : Slot → Slot) : (s.modSlot t k g).watches = s.watches := rfl
@[simp] theorem State.modSlot_notices (s : State) (t : Nat) (k : Nat) (g : Slot → Slot) : (s.modSlot t k g).notices = s.notices := rfl
@[simp] theorem State.modSlot_nextNotice (s : State) (t : Nat) (k : Nat) (g : Slot → Slot) : (s.modSlot t k g).nextNotice = s.nextNotice := rfl
@[simp] theorem State.modSlot_swatches (s : State) (t : Nat) (k : Nat) (g : Slot → Slot) : (s.modSlot t k g).swatches = s.swatches := rfl
@[simp] theorem State.modSlot_nextSwatch (s : State) (t : Nat) (k : Nat) (g : Slot → Slot) : (s.modSlot t k g).nextSwatch = s.nextSwatch := rfl
@[simp] theorem State.modSlot_parity (s : State) (t : Nat) (k : Nat) (g : Slot → Slot) : (s.modSlot t k g).parity = s.parity := rfl
@[simp] theorem State.modSlot_fieldCtr (s : State) (t : Nat) (k : Nat) (g : Slot → Slot) : (s.modSlot t k g).fieldCtr = s.fieldCtr := rfl
@[simp] theorem State.modSlot_offsets (s : State) (t : Nat) (k : Nat) (g : Slot → Slot) : (s.modSlot t k g).offsets = s.offsets := rfl
@[simp] theorem State.modSlot_gaugeGen (s : State) (t : Nat) (k : Nat) (g : Slot → Slot) : (s.modSlot t k g).gaugeGen = s.gaugeGen := rfl
@[simp] theorem State.modSlot_grants (s : State) (t : Nat) (k : Nat) (g : Slot → Slot) : (s.modSlot t k g).grants = s.grants := rfl
@[simp] theorem State.modSlot_requests (s : State) (t : Nat) (k : Nat) (g : Slot → Slot) : (s.modSlot t k g).requests = s.requests := rfl
@[simp] theorem State.modSlot_host (s : State) (t : Nat) (k : Nat) (g : Slot → Slot) : (s.modSlot t k g).host = s.host := rfl
@[simp] theorem State.modSlot_power (s : State) (t : Nat) (k : Nat) (g : Slot → Slot) : (s.modSlot t k g).power = s.power := rfl
@[simp] theorem State.modSlot_persist (s : State) (t : Nat) (k : Nat) (g : Slot → Slot) : (s.modSlot t k g).persist = s.persist := rfl
@[simp] theorem State.modSlot_flash (s : State) (t : Nat) (k : Nat) (g : Slot → Slot) : (s.modSlot t k g).flash = s.flash := rfl
@[simp] theorem State.modSlot_places (s : State) (t : Nat) (k : Nat) (g : Slot → Slot) : (s.modSlot t k g).places = s.places := rfl
@[simp] theorem State.modSlot_startCount (s : State) (t : Nat) (k : Nat) (g : Slot → Slot) : (s.modSlot t k g).startCount = s.startCount := rfl
@[simp] theorem State.modSlot_lastCold (s : State) (t : Nat) (k : Nat) (g : Slot → Slot) : (s.modSlot t k g).lastCold = s.lastCold := rfl
@[simp] theorem State.modSlot_recovery (s : State) (t : Nat) (k : Nat) (g : Slot → Slot) : (s.modSlot t k g).recovery = s.recovery := rfl
@[simp] theorem State.modSlot_coldNext (s : State) (t : Nat) (k : Nat) (g : Slot → Slot) : (s.modSlot t k g).coldNext = s.coldNext := rfl
@[simp] theorem State.modSlot_layout (s : State) (t : Nat) (k : Nat) (g : Slot → Slot) : (s.modSlot t k g).layout = s.layout := rfl
@[simp] theorem State.modSlot_firmware (s : State) (t : Nat) (k : Nat) (g : Slot → Slot) : (s.modSlot t k g).firmware = s.firmware := rfl

/-! State.setSwatch -/

@[simp] theorem State.setSwatch_variant (s : State) (n : Nat) (w : Swatch) : (s.setSwatch n w).variant = s.variant := rfl
@[simp] theorem State.setSwatch_tick (s : State) (n : Nat) (w : Swatch) : (s.setSwatch n w).tick = s.tick := rfl
@[simp] theorem State.setSwatch_agenda (s : State) (n : Nat) (w : Swatch) : (s.setSwatch n w).agenda = s.agenda := rfl
@[simp] theorem State.setSwatch_focus (s : State) (n : Nat) (w : Swatch) : (s.setSwatch n w).focus = s.focus := rfl
@[simp] theorem State.setSwatch_tiles (s : State) (n : Nat) (w : Swatch) : (s.setSwatch n w).tiles = s.tiles := rfl
@[simp] theorem State.setSwatch_scan (s : State) (n : Nat) (w : Swatch) : (s.setSwatch n w).scan = s.scan := rfl
@[simp] theorem State.setSwatch_binding (s : State) (n : Nat) (w : Swatch) : (s.setSwatch n w).binding = s.binding := rfl
@[simp] theorem State.setSwatch_phys (s : State) (n : Nat) (w : Swatch) : (s.setSwatch n w).phys = s.phys := rfl
@[simp] theorem State.setSwatch_links (s : State) (n : Nat) (w : Swatch) : (s.setSwatch n w).links = s.links := rfl
@[simp] theorem State.setSwatch_net (s : State) (n : Nat) (w : Swatch) : (s.setSwatch n w).net = s.net := rfl
@[simp] theorem State.setSwatch_rebinds (s : State) (n : Nat) (w : Swatch) : (s.setSwatch n w).rebinds = s.rebinds := rfl
@[simp] theorem State.setSwatch_nextMove (s : State) (n : Nat) (w : Swatch) : (s.setSwatch n w).nextMove = s.nextMove := rfl
@[simp] theorem State.setSwatch_probes (s : State) (n : Nat) (w : Swatch) : (s.setSwatch n w).probes = s.probes := rfl
@[simp] theorem State.setSwatch_reports (s : State) (n : Nat) (w : Swatch) : (s.setSwatch n w).reports = s.reports := rfl
@[simp] theorem State.setSwatch_dram (s : State) (n : Nat) (w : Swatch) : (s.setSwatch n w).dram = s.dram := rfl
@[simp] theorem State.setSwatch_dramOrder (s : State) (n : Nat) (w : Swatch) : (s.setSwatch n w).dramOrder = s.dramOrder := rfl
@[simp] theorem State.setSwatch_context (s : State) (n : Nat) (w : Swatch) : (s.setSwatch n w).context = s.context := rfl
@[simp] theorem State.setSwatch_stations (s : State) (n : Nat) (w : Swatch) : (s.setSwatch n w).stations = s.stations := rfl
@[simp] theorem State.setSwatch_actors (s : State) (n : Nat) (w : Swatch) : (s.setSwatch n w).actors = s.actors := rfl
@[simp] theorem State.setSwatch_xlations (s : State) (n : Nat) (w : Swatch) : (s.setSwatch n w).xlations = s.xlations := rfl
@[simp] theorem State.setSwatch_xprobes (s : State) (n : Nat) (w : Swatch) : (s.setSwatch n w).xprobes = s.xprobes := rfl
@[simp] theorem State.setSwatch_probeReplies (s : State) (n : Nat) (w : Swatch) : (s.setSwatch n w).probeReplies = s.probeReplies := rfl
@[simp] theorem State.setSwatch_memReqs (s : State) (n : Nat) (w : Swatch) : (s.setSwatch n w).memReqs = s.memReqs := rfl
@[simp] theorem State.setSwatch_memReplies (s : State) (n : Nat) (w : Swatch) : (s.setSwatch n w).memReplies = s.memReplies := rfl
@[simp] theorem State.setSwatch_performed (s : State) (n : Nat) (w : Swatch) : (s.setSwatch n w).performed = s.performed := rfl
@[simp] theorem State.setSwatch_watches (s : State) (n : Nat) (w : Swatch) : (s.setSwatch n w).watches = s.watches := rfl
@[simp] theorem State.setSwatch_notices (s : State) (n : Nat) (w : Swatch) : (s.setSwatch n w).notices = s.notices := rfl
@[simp] theorem State.setSwatch_nextNotice (s : State) (n : Nat) (w : Swatch) : (s.setSwatch n w).nextNotice = s.nextNotice := rfl
@[simp] theorem State.setSwatch_nextSwatch (s : State) (n : Nat) (w : Swatch) : (s.setSwatch n w).nextSwatch = s.nextSwatch := rfl
@[simp] theorem State.setSwatch_parity (s : State) (n : Nat) (w : Swatch) : (s.setSwatch n w).parity = s.parity := rfl
@[simp] theorem State.setSwatch_fieldCtr (s : State) (n : Nat) (w : Swatch) : (s.setSwatch n w).fieldCtr = s.fieldCtr := rfl
@[simp] theorem State.setSwatch_offsets (s : State) (n : Nat) (w : Swatch) : (s.setSwatch n w).offsets = s.offsets := rfl
@[simp] theorem State.setSwatch_gaugeGen (s : State) (n : Nat) (w : Swatch) : (s.setSwatch n w).gaugeGen = s.gaugeGen := rfl
@[simp] theorem State.setSwatch_grants (s : State) (n : Nat) (w : Swatch) : (s.setSwatch n w).grants = s.grants := rfl
@[simp] theorem State.setSwatch_requests (s : State) (n : Nat) (w : Swatch) : (s.setSwatch n w).requests = s.requests := rfl
@[simp] theorem State.setSwatch_host (s : State) (n : Nat) (w : Swatch) : (s.setSwatch n w).host = s.host := rfl
@[simp] theorem State.setSwatch_power (s : State) (n : Nat) (w : Swatch) : (s.setSwatch n w).power = s.power := rfl
@[simp] theorem State.setSwatch_persist (s : State) (n : Nat) (w : Swatch) : (s.setSwatch n w).persist = s.persist := rfl
@[simp] theorem State.setSwatch_flash (s : State) (n : Nat) (w : Swatch) : (s.setSwatch n w).flash = s.flash := rfl
@[simp] theorem State.setSwatch_places (s : State) (n : Nat) (w : Swatch) : (s.setSwatch n w).places = s.places := rfl
@[simp] theorem State.setSwatch_startCount (s : State) (n : Nat) (w : Swatch) : (s.setSwatch n w).startCount = s.startCount := rfl
@[simp] theorem State.setSwatch_lastCold (s : State) (n : Nat) (w : Swatch) : (s.setSwatch n w).lastCold = s.lastCold := rfl
@[simp] theorem State.setSwatch_recovery (s : State) (n : Nat) (w : Swatch) : (s.setSwatch n w).recovery = s.recovery := rfl
@[simp] theorem State.setSwatch_coldNext (s : State) (n : Nat) (w : Swatch) : (s.setSwatch n w).coldNext = s.coldNext := rfl
@[simp] theorem State.setSwatch_layout (s : State) (n : Nat) (w : Swatch) : (s.setSwatch n w).layout = s.layout := rfl
@[simp] theorem State.setSwatch_firmware (s : State) (n : Nat) (w : Swatch) : (s.setSwatch n w).firmware = s.firmware := rfl

/-! State.modSwatch -/

@[simp] theorem State.modSwatch_variant (s : State) (n : Nat) (g : Swatch → Swatch) : (s.modSwatch n g).variant = s.variant := rfl
@[simp] theorem State.modSwatch_tick (s : State) (n : Nat) (g : Swatch → Swatch) : (s.modSwatch n g).tick = s.tick := rfl
@[simp] theorem State.modSwatch_agenda (s : State) (n : Nat) (g : Swatch → Swatch) : (s.modSwatch n g).agenda = s.agenda := rfl
@[simp] theorem State.modSwatch_focus (s : State) (n : Nat) (g : Swatch → Swatch) : (s.modSwatch n g).focus = s.focus := rfl
@[simp] theorem State.modSwatch_tiles (s : State) (n : Nat) (g : Swatch → Swatch) : (s.modSwatch n g).tiles = s.tiles := rfl
@[simp] theorem State.modSwatch_scan (s : State) (n : Nat) (g : Swatch → Swatch) : (s.modSwatch n g).scan = s.scan := rfl
@[simp] theorem State.modSwatch_binding (s : State) (n : Nat) (g : Swatch → Swatch) : (s.modSwatch n g).binding = s.binding := rfl
@[simp] theorem State.modSwatch_phys (s : State) (n : Nat) (g : Swatch → Swatch) : (s.modSwatch n g).phys = s.phys := rfl
@[simp] theorem State.modSwatch_links (s : State) (n : Nat) (g : Swatch → Swatch) : (s.modSwatch n g).links = s.links := rfl
@[simp] theorem State.modSwatch_net (s : State) (n : Nat) (g : Swatch → Swatch) : (s.modSwatch n g).net = s.net := rfl
@[simp] theorem State.modSwatch_rebinds (s : State) (n : Nat) (g : Swatch → Swatch) : (s.modSwatch n g).rebinds = s.rebinds := rfl
@[simp] theorem State.modSwatch_nextMove (s : State) (n : Nat) (g : Swatch → Swatch) : (s.modSwatch n g).nextMove = s.nextMove := rfl
@[simp] theorem State.modSwatch_probes (s : State) (n : Nat) (g : Swatch → Swatch) : (s.modSwatch n g).probes = s.probes := rfl
@[simp] theorem State.modSwatch_reports (s : State) (n : Nat) (g : Swatch → Swatch) : (s.modSwatch n g).reports = s.reports := rfl
@[simp] theorem State.modSwatch_dram (s : State) (n : Nat) (g : Swatch → Swatch) : (s.modSwatch n g).dram = s.dram := rfl
@[simp] theorem State.modSwatch_dramOrder (s : State) (n : Nat) (g : Swatch → Swatch) : (s.modSwatch n g).dramOrder = s.dramOrder := rfl
@[simp] theorem State.modSwatch_context (s : State) (n : Nat) (g : Swatch → Swatch) : (s.modSwatch n g).context = s.context := rfl
@[simp] theorem State.modSwatch_stations (s : State) (n : Nat) (g : Swatch → Swatch) : (s.modSwatch n g).stations = s.stations := rfl
@[simp] theorem State.modSwatch_actors (s : State) (n : Nat) (g : Swatch → Swatch) : (s.modSwatch n g).actors = s.actors := rfl
@[simp] theorem State.modSwatch_xlations (s : State) (n : Nat) (g : Swatch → Swatch) : (s.modSwatch n g).xlations = s.xlations := rfl
@[simp] theorem State.modSwatch_xprobes (s : State) (n : Nat) (g : Swatch → Swatch) : (s.modSwatch n g).xprobes = s.xprobes := rfl
@[simp] theorem State.modSwatch_probeReplies (s : State) (n : Nat) (g : Swatch → Swatch) : (s.modSwatch n g).probeReplies = s.probeReplies := rfl
@[simp] theorem State.modSwatch_memReqs (s : State) (n : Nat) (g : Swatch → Swatch) : (s.modSwatch n g).memReqs = s.memReqs := rfl
@[simp] theorem State.modSwatch_memReplies (s : State) (n : Nat) (g : Swatch → Swatch) : (s.modSwatch n g).memReplies = s.memReplies := rfl
@[simp] theorem State.modSwatch_performed (s : State) (n : Nat) (g : Swatch → Swatch) : (s.modSwatch n g).performed = s.performed := rfl
@[simp] theorem State.modSwatch_watches (s : State) (n : Nat) (g : Swatch → Swatch) : (s.modSwatch n g).watches = s.watches := rfl
@[simp] theorem State.modSwatch_notices (s : State) (n : Nat) (g : Swatch → Swatch) : (s.modSwatch n g).notices = s.notices := rfl
@[simp] theorem State.modSwatch_nextNotice (s : State) (n : Nat) (g : Swatch → Swatch) : (s.modSwatch n g).nextNotice = s.nextNotice := rfl
@[simp] theorem State.modSwatch_nextSwatch (s : State) (n : Nat) (g : Swatch → Swatch) : (s.modSwatch n g).nextSwatch = s.nextSwatch := rfl
@[simp] theorem State.modSwatch_parity (s : State) (n : Nat) (g : Swatch → Swatch) : (s.modSwatch n g).parity = s.parity := rfl
@[simp] theorem State.modSwatch_fieldCtr (s : State) (n : Nat) (g : Swatch → Swatch) : (s.modSwatch n g).fieldCtr = s.fieldCtr := rfl
@[simp] theorem State.modSwatch_offsets (s : State) (n : Nat) (g : Swatch → Swatch) : (s.modSwatch n g).offsets = s.offsets := rfl
@[simp] theorem State.modSwatch_gaugeGen (s : State) (n : Nat) (g : Swatch → Swatch) : (s.modSwatch n g).gaugeGen = s.gaugeGen := rfl
@[simp] theorem State.modSwatch_grants (s : State) (n : Nat) (g : Swatch → Swatch) : (s.modSwatch n g).grants = s.grants := rfl
@[simp] theorem State.modSwatch_requests (s : State) (n : Nat) (g : Swatch → Swatch) : (s.modSwatch n g).requests = s.requests := rfl
@[simp] theorem State.modSwatch_host (s : State) (n : Nat) (g : Swatch → Swatch) : (s.modSwatch n g).host = s.host := rfl
@[simp] theorem State.modSwatch_power (s : State) (n : Nat) (g : Swatch → Swatch) : (s.modSwatch n g).power = s.power := rfl
@[simp] theorem State.modSwatch_persist (s : State) (n : Nat) (g : Swatch → Swatch) : (s.modSwatch n g).persist = s.persist := rfl
@[simp] theorem State.modSwatch_flash (s : State) (n : Nat) (g : Swatch → Swatch) : (s.modSwatch n g).flash = s.flash := rfl
@[simp] theorem State.modSwatch_places (s : State) (n : Nat) (g : Swatch → Swatch) : (s.modSwatch n g).places = s.places := rfl
@[simp] theorem State.modSwatch_startCount (s : State) (n : Nat) (g : Swatch → Swatch) : (s.modSwatch n g).startCount = s.startCount := rfl
@[simp] theorem State.modSwatch_lastCold (s : State) (n : Nat) (g : Swatch → Swatch) : (s.modSwatch n g).lastCold = s.lastCold := rfl
@[simp] theorem State.modSwatch_recovery (s : State) (n : Nat) (g : Swatch → Swatch) : (s.modSwatch n g).recovery = s.recovery := rfl
@[simp] theorem State.modSwatch_coldNext (s : State) (n : Nat) (g : Swatch → Swatch) : (s.modSwatch n g).coldNext = s.coldNext := rfl
@[simp] theorem State.modSwatch_layout (s : State) (n : Nat) (g : Swatch → Swatch) : (s.modSwatch n g).layout = s.layout := rfl
@[simp] theorem State.modSwatch_firmware (s : State) (n : Nat) (g : Swatch → Swatch) : (s.modSwatch n g).firmware = s.firmware := rfl

/-! State.send -/

@[simp] theorem State.send_variant (s : State) (p : Packet) : (s.send p).variant = s.variant := rfl
@[simp] theorem State.send_tick (s : State) (p : Packet) : (s.send p).tick = s.tick := rfl
@[simp] theorem State.send_agenda (s : State) (p : Packet) : (s.send p).agenda = s.agenda := rfl
@[simp] theorem State.send_focus (s : State) (p : Packet) : (s.send p).focus = s.focus := rfl
@[simp] theorem State.send_tiles (s : State) (p : Packet) : (s.send p).tiles = s.tiles := rfl
@[simp] theorem State.send_scan (s : State) (p : Packet) : (s.send p).scan = s.scan := rfl
@[simp] theorem State.send_binding (s : State) (p : Packet) : (s.send p).binding = s.binding := rfl
@[simp] theorem State.send_phys (s : State) (p : Packet) : (s.send p).phys = s.phys := rfl
@[simp] theorem State.send_links (s : State) (p : Packet) : (s.send p).links = s.links := rfl
@[simp] theorem State.send_rebinds (s : State) (p : Packet) : (s.send p).rebinds = s.rebinds := rfl
@[simp] theorem State.send_nextMove (s : State) (p : Packet) : (s.send p).nextMove = s.nextMove := rfl
@[simp] theorem State.send_probes (s : State) (p : Packet) : (s.send p).probes = s.probes := rfl
@[simp] theorem State.send_reports (s : State) (p : Packet) : (s.send p).reports = s.reports := rfl
@[simp] theorem State.send_dram (s : State) (p : Packet) : (s.send p).dram = s.dram := rfl
@[simp] theorem State.send_dramOrder (s : State) (p : Packet) : (s.send p).dramOrder = s.dramOrder := rfl
@[simp] theorem State.send_context (s : State) (p : Packet) : (s.send p).context = s.context := rfl
@[simp] theorem State.send_stations (s : State) (p : Packet) : (s.send p).stations = s.stations := rfl
@[simp] theorem State.send_actors (s : State) (p : Packet) : (s.send p).actors = s.actors := rfl
@[simp] theorem State.send_xlations (s : State) (p : Packet) : (s.send p).xlations = s.xlations := rfl
@[simp] theorem State.send_xprobes (s : State) (p : Packet) : (s.send p).xprobes = s.xprobes := rfl
@[simp] theorem State.send_probeReplies (s : State) (p : Packet) : (s.send p).probeReplies = s.probeReplies := rfl
@[simp] theorem State.send_memReqs (s : State) (p : Packet) : (s.send p).memReqs = s.memReqs := rfl
@[simp] theorem State.send_memReplies (s : State) (p : Packet) : (s.send p).memReplies = s.memReplies := rfl
@[simp] theorem State.send_performed (s : State) (p : Packet) : (s.send p).performed = s.performed := rfl
@[simp] theorem State.send_watches (s : State) (p : Packet) : (s.send p).watches = s.watches := rfl
@[simp] theorem State.send_notices (s : State) (p : Packet) : (s.send p).notices = s.notices := rfl
@[simp] theorem State.send_nextNotice (s : State) (p : Packet) : (s.send p).nextNotice = s.nextNotice := rfl
@[simp] theorem State.send_swatches (s : State) (p : Packet) : (s.send p).swatches = s.swatches := rfl
@[simp] theorem State.send_nextSwatch (s : State) (p : Packet) : (s.send p).nextSwatch = s.nextSwatch := rfl
@[simp] theorem State.send_parity (s : State) (p : Packet) : (s.send p).parity = s.parity := rfl
@[simp] theorem State.send_fieldCtr (s : State) (p : Packet) : (s.send p).fieldCtr = s.fieldCtr := rfl
@[simp] theorem State.send_offsets (s : State) (p : Packet) : (s.send p).offsets = s.offsets := rfl
@[simp] theorem State.send_gaugeGen (s : State) (p : Packet) : (s.send p).gaugeGen = s.gaugeGen := rfl
@[simp] theorem State.send_grants (s : State) (p : Packet) : (s.send p).grants = s.grants := rfl
@[simp] theorem State.send_requests (s : State) (p : Packet) : (s.send p).requests = s.requests := rfl
@[simp] theorem State.send_host (s : State) (p : Packet) : (s.send p).host = s.host := rfl
@[simp] theorem State.send_power (s : State) (p : Packet) : (s.send p).power = s.power := rfl
@[simp] theorem State.send_persist (s : State) (p : Packet) : (s.send p).persist = s.persist := rfl
@[simp] theorem State.send_flash (s : State) (p : Packet) : (s.send p).flash = s.flash := rfl
@[simp] theorem State.send_places (s : State) (p : Packet) : (s.send p).places = s.places := rfl
@[simp] theorem State.send_startCount (s : State) (p : Packet) : (s.send p).startCount = s.startCount := rfl
@[simp] theorem State.send_lastCold (s : State) (p : Packet) : (s.send p).lastCold = s.lastCold := rfl
@[simp] theorem State.send_recovery (s : State) (p : Packet) : (s.send p).recovery = s.recovery := rfl
@[simp] theorem State.send_coldNext (s : State) (p : Packet) : (s.send p).coldNext = s.coldNext := rfl
@[simp] theorem State.send_layout (s : State) (p : Packet) : (s.send p).layout = s.layout := rfl
@[simp] theorem State.send_firmware (s : State) (p : Packet) : (s.send p).firmware = s.firmware := rfl

/-! Tile.setSlot -/

@[simp] theorem Tile.setSlot_sram (x : Tile) (k : Nat) (v : Slot) : (x.setSlot k v).sram = x.sram := rfl
@[simp] theorem Tile.setSlot_order (x : Tile) (k : Nat) (v : Slot) : (x.setSlot k v).order = x.order := rfl
@[simp] theorem Tile.setSlot_coreSeen (x : Tile) (k : Nat) (v : Slot) : (x.setSlot k v).coreSeen = x.coreSeen := rfl
@[simp] theorem Tile.setSlot_engineSeen (x : Tile) (k : Nat) (v : Slot) : (x.setSlot k v).engineSeen = x.engineSeen := rfl
@[simp] theorem Tile.setSlot_coreAcq (x : Tile) (k : Nat) (v : Slot) : (x.setSlot k v).coreAcq = x.coreAcq := rfl
@[simp] theorem Tile.setSlot_fetchAcq (x : Tile) (k : Nat) (v : Slot) : (x.setSlot k v).fetchAcq = x.fetchAcq := rfl
@[simp] theorem Tile.setSlot_fetchSeen (x : Tile) (k : Nat) (v : Slot) : (x.setSlot k v).fetchSeen = x.fetchSeen := rfl
@[simp] theorem Tile.setSlot_view (x : Tile) (k : Nat) (v : Slot) : (x.setSlot k v).view = x.view := rfl
@[simp] theorem Tile.setSlot_ended (x : Tile) (k : Nat) (v : Slot) : (x.setSlot k v).ended = x.ended := rfl
@[simp] theorem Tile.setSlot_poisoned (x : Tile) (k : Nat) (v : Slot) : (x.setSlot k v).poisoned = x.poisoned := rfl
@[simp] theorem Tile.setSlot_uncorrectable (x : Tile) (k : Nat) (v : Slot) : (x.setSlot k v).uncorrectable = x.uncorrectable := rfl
@[simp] theorem Tile.setSlot_singleError (x : Tile) (k : Nat) (v : Slot) : (x.setSlot k v).singleError = x.singleError := rfl
@[simp] theorem Tile.setSlot_inbox (x : Tile) (k : Nat) (v : Slot) : (x.setSlot k v).inbox = x.inbox := rfl
@[simp] theorem Tile.setSlot_stamp (x : Tile) (k : Nat) (v : Slot) : (x.setSlot k v).stamp = x.stamp := rfl
@[simp] theorem Tile.setSlot_streams (x : Tile) (k : Nat) (v : Slot) : (x.setSlot k v).streams = x.streams := rfl
@[simp] theorem Tile.setSlot_keptStreams (x : Tile) (k : Nat) (v : Slot) : (x.setSlot k v).keptStreams = x.keptStreams := rfl
@[simp] theorem Tile.setSlot_runs (x : Tile) (k : Nat) (v : Slot) : (x.setSlot k v).runs = x.runs := rfl
@[simp] theorem Tile.setSlot_barred (x : Tile) (k : Nat) (v : Slot) : (x.setSlot k v).barred = x.barred := rfl
@[simp] theorem Tile.setSlot_copies (x : Tile) (k : Nat) (v : Slot) : (x.setSlot k v).copies = x.copies := rfl
@[simp] theorem Tile.setSlot_atomics (x : Tile) (k : Nat) (v : Slot) : (x.setSlot k v).atomics = x.atomics := rfl
@[simp] theorem Tile.setSlot_nextOp (x : Tile) (k : Nat) (v : Slot) : (x.setSlot k v).nextOp = x.nextOp := rfl
@[simp] theorem Tile.setSlot_sems (x : Tile) (k : Nat) (v : Slot) : (x.setSlot k v).sems = x.sems := rfl
@[simp] theorem Tile.setSlot_barriers (x : Tile) (k : Nat) (v : Slot) : (x.setSlot k v).barriers = x.barriers := rfl
@[simp] theorem Tile.setSlot_barInfo (x : Tile) (k : Nat) (v : Slot) : (x.setSlot k v).barInfo = x.barInfo := rfl
@[simp] theorem Tile.setSlot_cwords (x : Tile) (k : Nat) (v : Slot) : (x.setSlot k v).cwords = x.cwords := rfl
@[simp] theorem Tile.setSlot_gauge (x : Tile) (k : Nat) (v : Slot) : (x.setSlot k v).gauge = x.gauge := rfl
@[simp] theorem Tile.setSlot_nptr (x : Tile) (k : Nat) (v : Slot) : (x.setSlot k v).nptr = x.nptr := rfl
@[simp] theorem Tile.setSlot_edgeTab (x : Tile) (k : Nat) (v : Slot) : (x.setSlot k v).edgeTab = x.edgeTab := rfl
@[simp] theorem Tile.setSlot_scopeCopy (x : Tile) (k : Nat) (v : Slot) : (x.setSlot k v).scopeCopy = x.scopeCopy := rfl
@[simp] theorem Tile.setSlot_cycles (x : Tile) (k : Nat) (v : Slot) : (x.setSlot k v).cycles = x.cycles := rfl
@[simp] theorem Tile.setSlot_gating (x : Tile) (k : Nat) (v : Slot) : (x.setSlot k v).gating = x.gating := rfl
@[simp] theorem Tile.setSlot_array (x : Tile) (k : Nat) (v : Slot) : (x.setSlot k v).array = x.array := rfl
@[simp] theorem Tile.setSlot_rampFrom (x : Tile) (k : Nat) (v : Slot) : (x.setSlot k v).rampFrom = x.rampFrom := rfl
@[simp] theorem Tile.setSlot_matOps (x : Tile) (k : Nat) (v : Slot) : (x.setSlot k v).matOps = x.matOps := rfl
@[simp] theorem Tile.setSlot_lastFired (x : Tile) (k : Nat) (v : Slot) : (x.setSlot k v).lastFired = x.lastFired := rfl
@[simp] theorem Tile.setSlot_fired (x : Tile) (k : Nat) (v : Slot) : (x.setSlot k v).fired = x.fired := rfl
@[simp] theorem Tile.setSlot_nextUid (x : Tile) (k : Nat) (v : Slot) : (x.setSlot k v).nextUid = x.nextUid := rfl
@[simp] theorem Tile.setSlot_firing (x : Tile) (k : Nat) (v : Slot) : (x.setSlot k v).firing = x.firing := rfl
@[simp] theorem Tile.setSlot_debugLog (x : Tile) (k : Nat) (v : Slot) : (x.setSlot k v).debugLog = x.debugLog := rfl
@[simp] theorem Tile.setSlot_poolUsed (x : Tile) (k : Nat) (v : Slot) : (x.setSlot k v).poolUsed = x.poolUsed := rfl

/-! Tile.modSlot -/

@[simp] theorem Tile.modSlot_sram (x : Tile) (k : Nat) (g : Slot → Slot) : (x.modSlot k g).sram = x.sram := rfl
@[simp] theorem Tile.modSlot_order (x : Tile) (k : Nat) (g : Slot → Slot) : (x.modSlot k g).order = x.order := rfl
@[simp] theorem Tile.modSlot_coreSeen (x : Tile) (k : Nat) (g : Slot → Slot) : (x.modSlot k g).coreSeen = x.coreSeen := rfl
@[simp] theorem Tile.modSlot_engineSeen (x : Tile) (k : Nat) (g : Slot → Slot) : (x.modSlot k g).engineSeen = x.engineSeen := rfl
@[simp] theorem Tile.modSlot_coreAcq (x : Tile) (k : Nat) (g : Slot → Slot) : (x.modSlot k g).coreAcq = x.coreAcq := rfl
@[simp] theorem Tile.modSlot_fetchAcq (x : Tile) (k : Nat) (g : Slot → Slot) : (x.modSlot k g).fetchAcq = x.fetchAcq := rfl
@[simp] theorem Tile.modSlot_fetchSeen (x : Tile) (k : Nat) (g : Slot → Slot) : (x.modSlot k g).fetchSeen = x.fetchSeen := rfl
@[simp] theorem Tile.modSlot_view (x : Tile) (k : Nat) (g : Slot → Slot) : (x.modSlot k g).view = x.view := rfl
@[simp] theorem Tile.modSlot_ended (x : Tile) (k : Nat) (g : Slot → Slot) : (x.modSlot k g).ended = x.ended := rfl
@[simp] theorem Tile.modSlot_poisoned (x : Tile) (k : Nat) (g : Slot → Slot) : (x.modSlot k g).poisoned = x.poisoned := rfl
@[simp] theorem Tile.modSlot_uncorrectable (x : Tile) (k : Nat) (g : Slot → Slot) : (x.modSlot k g).uncorrectable = x.uncorrectable := rfl
@[simp] theorem Tile.modSlot_singleError (x : Tile) (k : Nat) (g : Slot → Slot) : (x.modSlot k g).singleError = x.singleError := rfl
@[simp] theorem Tile.modSlot_inbox (x : Tile) (k : Nat) (g : Slot → Slot) : (x.modSlot k g).inbox = x.inbox := rfl
@[simp] theorem Tile.modSlot_stamp (x : Tile) (k : Nat) (g : Slot → Slot) : (x.modSlot k g).stamp = x.stamp := rfl
@[simp] theorem Tile.modSlot_streams (x : Tile) (k : Nat) (g : Slot → Slot) : (x.modSlot k g).streams = x.streams := rfl
@[simp] theorem Tile.modSlot_keptStreams (x : Tile) (k : Nat) (g : Slot → Slot) : (x.modSlot k g).keptStreams = x.keptStreams := rfl
@[simp] theorem Tile.modSlot_runs (x : Tile) (k : Nat) (g : Slot → Slot) : (x.modSlot k g).runs = x.runs := rfl
@[simp] theorem Tile.modSlot_barred (x : Tile) (k : Nat) (g : Slot → Slot) : (x.modSlot k g).barred = x.barred := rfl
@[simp] theorem Tile.modSlot_copies (x : Tile) (k : Nat) (g : Slot → Slot) : (x.modSlot k g).copies = x.copies := rfl
@[simp] theorem Tile.modSlot_atomics (x : Tile) (k : Nat) (g : Slot → Slot) : (x.modSlot k g).atomics = x.atomics := rfl
@[simp] theorem Tile.modSlot_nextOp (x : Tile) (k : Nat) (g : Slot → Slot) : (x.modSlot k g).nextOp = x.nextOp := rfl
@[simp] theorem Tile.modSlot_sems (x : Tile) (k : Nat) (g : Slot → Slot) : (x.modSlot k g).sems = x.sems := rfl
@[simp] theorem Tile.modSlot_barriers (x : Tile) (k : Nat) (g : Slot → Slot) : (x.modSlot k g).barriers = x.barriers := rfl
@[simp] theorem Tile.modSlot_barInfo (x : Tile) (k : Nat) (g : Slot → Slot) : (x.modSlot k g).barInfo = x.barInfo := rfl
@[simp] theorem Tile.modSlot_cwords (x : Tile) (k : Nat) (g : Slot → Slot) : (x.modSlot k g).cwords = x.cwords := rfl
@[simp] theorem Tile.modSlot_gauge (x : Tile) (k : Nat) (g : Slot → Slot) : (x.modSlot k g).gauge = x.gauge := rfl
@[simp] theorem Tile.modSlot_nptr (x : Tile) (k : Nat) (g : Slot → Slot) : (x.modSlot k g).nptr = x.nptr := rfl
@[simp] theorem Tile.modSlot_edgeTab (x : Tile) (k : Nat) (g : Slot → Slot) : (x.modSlot k g).edgeTab = x.edgeTab := rfl
@[simp] theorem Tile.modSlot_scopeCopy (x : Tile) (k : Nat) (g : Slot → Slot) : (x.modSlot k g).scopeCopy = x.scopeCopy := rfl
@[simp] theorem Tile.modSlot_cycles (x : Tile) (k : Nat) (g : Slot → Slot) : (x.modSlot k g).cycles = x.cycles := rfl
@[simp] theorem Tile.modSlot_gating (x : Tile) (k : Nat) (g : Slot → Slot) : (x.modSlot k g).gating = x.gating := rfl
@[simp] theorem Tile.modSlot_array (x : Tile) (k : Nat) (g : Slot → Slot) : (x.modSlot k g).array = x.array := rfl
@[simp] theorem Tile.modSlot_rampFrom (x : Tile) (k : Nat) (g : Slot → Slot) : (x.modSlot k g).rampFrom = x.rampFrom := rfl
@[simp] theorem Tile.modSlot_matOps (x : Tile) (k : Nat) (g : Slot → Slot) : (x.modSlot k g).matOps = x.matOps := rfl
@[simp] theorem Tile.modSlot_lastFired (x : Tile) (k : Nat) (g : Slot → Slot) : (x.modSlot k g).lastFired = x.lastFired := rfl
@[simp] theorem Tile.modSlot_fired (x : Tile) (k : Nat) (g : Slot → Slot) : (x.modSlot k g).fired = x.fired := rfl
@[simp] theorem Tile.modSlot_nextUid (x : Tile) (k : Nat) (g : Slot → Slot) : (x.modSlot k g).nextUid = x.nextUid := rfl
@[simp] theorem Tile.modSlot_firing (x : Tile) (k : Nat) (g : Slot → Slot) : (x.modSlot k g).firing = x.firing := rfl
@[simp] theorem Tile.modSlot_debugLog (x : Tile) (k : Nat) (g : Slot → Slot) : (x.modSlot k g).debugLog = x.debugLog := rfl
@[simp] theorem Tile.modSlot_poolUsed (x : Tile) (k : Nat) (g : Slot → Slot) : (x.modSlot k g).poolUsed = x.poolUsed := rfl

/-! Tile.setEntry -/

@[simp] theorem Tile.setEntry_sram (x : Tile) (i : Nat) (e : InboxEntry) : (x.setEntry i e).sram = x.sram := rfl
@[simp] theorem Tile.setEntry_order (x : Tile) (i : Nat) (e : InboxEntry) : (x.setEntry i e).order = x.order := rfl
@[simp] theorem Tile.setEntry_coreSeen (x : Tile) (i : Nat) (e : InboxEntry) : (x.setEntry i e).coreSeen = x.coreSeen := rfl
@[simp] theorem Tile.setEntry_engineSeen (x : Tile) (i : Nat) (e : InboxEntry) : (x.setEntry i e).engineSeen = x.engineSeen := rfl
@[simp] theorem Tile.setEntry_coreAcq (x : Tile) (i : Nat) (e : InboxEntry) : (x.setEntry i e).coreAcq = x.coreAcq := rfl
@[simp] theorem Tile.setEntry_fetchAcq (x : Tile) (i : Nat) (e : InboxEntry) : (x.setEntry i e).fetchAcq = x.fetchAcq := rfl
@[simp] theorem Tile.setEntry_fetchSeen (x : Tile) (i : Nat) (e : InboxEntry) : (x.setEntry i e).fetchSeen = x.fetchSeen := rfl
@[simp] theorem Tile.setEntry_view (x : Tile) (i : Nat) (e : InboxEntry) : (x.setEntry i e).view = x.view := rfl
@[simp] theorem Tile.setEntry_ended (x : Tile) (i : Nat) (e : InboxEntry) : (x.setEntry i e).ended = x.ended := rfl
@[simp] theorem Tile.setEntry_poisoned (x : Tile) (i : Nat) (e : InboxEntry) : (x.setEntry i e).poisoned = x.poisoned := rfl
@[simp] theorem Tile.setEntry_uncorrectable (x : Tile) (i : Nat) (e : InboxEntry) : (x.setEntry i e).uncorrectable = x.uncorrectable := rfl
@[simp] theorem Tile.setEntry_singleError (x : Tile) (i : Nat) (e : InboxEntry) : (x.setEntry i e).singleError = x.singleError := rfl
@[simp] theorem Tile.setEntry_slots (x : Tile) (i : Nat) (e : InboxEntry) : (x.setEntry i e).slots = x.slots := rfl
@[simp] theorem Tile.setEntry_stamp (x : Tile) (i : Nat) (e : InboxEntry) : (x.setEntry i e).stamp = x.stamp := rfl
@[simp] theorem Tile.setEntry_streams (x : Tile) (i : Nat) (e : InboxEntry) : (x.setEntry i e).streams = x.streams := rfl
@[simp] theorem Tile.setEntry_keptStreams (x : Tile) (i : Nat) (e : InboxEntry) : (x.setEntry i e).keptStreams = x.keptStreams := rfl
@[simp] theorem Tile.setEntry_runs (x : Tile) (i : Nat) (e : InboxEntry) : (x.setEntry i e).runs = x.runs := rfl
@[simp] theorem Tile.setEntry_barred (x : Tile) (i : Nat) (e : InboxEntry) : (x.setEntry i e).barred = x.barred := rfl
@[simp] theorem Tile.setEntry_copies (x : Tile) (i : Nat) (e : InboxEntry) : (x.setEntry i e).copies = x.copies := rfl
@[simp] theorem Tile.setEntry_atomics (x : Tile) (i : Nat) (e : InboxEntry) : (x.setEntry i e).atomics = x.atomics := rfl
@[simp] theorem Tile.setEntry_nextOp (x : Tile) (i : Nat) (e : InboxEntry) : (x.setEntry i e).nextOp = x.nextOp := rfl
@[simp] theorem Tile.setEntry_sems (x : Tile) (i : Nat) (e : InboxEntry) : (x.setEntry i e).sems = x.sems := rfl
@[simp] theorem Tile.setEntry_barriers (x : Tile) (i : Nat) (e : InboxEntry) : (x.setEntry i e).barriers = x.barriers := rfl
@[simp] theorem Tile.setEntry_barInfo (x : Tile) (i : Nat) (e : InboxEntry) : (x.setEntry i e).barInfo = x.barInfo := rfl
@[simp] theorem Tile.setEntry_cwords (x : Tile) (i : Nat) (e : InboxEntry) : (x.setEntry i e).cwords = x.cwords := rfl
@[simp] theorem Tile.setEntry_gauge (x : Tile) (i : Nat) (e : InboxEntry) : (x.setEntry i e).gauge = x.gauge := rfl
@[simp] theorem Tile.setEntry_nptr (x : Tile) (i : Nat) (e : InboxEntry) : (x.setEntry i e).nptr = x.nptr := rfl
@[simp] theorem Tile.setEntry_edgeTab (x : Tile) (i : Nat) (e : InboxEntry) : (x.setEntry i e).edgeTab = x.edgeTab := rfl
@[simp] theorem Tile.setEntry_scopeCopy (x : Tile) (i : Nat) (e : InboxEntry) : (x.setEntry i e).scopeCopy = x.scopeCopy := rfl
@[simp] theorem Tile.setEntry_cycles (x : Tile) (i : Nat) (e : InboxEntry) : (x.setEntry i e).cycles = x.cycles := rfl
@[simp] theorem Tile.setEntry_gating (x : Tile) (i : Nat) (e : InboxEntry) : (x.setEntry i e).gating = x.gating := rfl
@[simp] theorem Tile.setEntry_array (x : Tile) (i : Nat) (e : InboxEntry) : (x.setEntry i e).array = x.array := rfl
@[simp] theorem Tile.setEntry_rampFrom (x : Tile) (i : Nat) (e : InboxEntry) : (x.setEntry i e).rampFrom = x.rampFrom := rfl
@[simp] theorem Tile.setEntry_matOps (x : Tile) (i : Nat) (e : InboxEntry) : (x.setEntry i e).matOps = x.matOps := rfl
@[simp] theorem Tile.setEntry_lastFired (x : Tile) (i : Nat) (e : InboxEntry) : (x.setEntry i e).lastFired = x.lastFired := rfl
@[simp] theorem Tile.setEntry_fired (x : Tile) (i : Nat) (e : InboxEntry) : (x.setEntry i e).fired = x.fired := rfl
@[simp] theorem Tile.setEntry_nextUid (x : Tile) (i : Nat) (e : InboxEntry) : (x.setEntry i e).nextUid = x.nextUid := rfl
@[simp] theorem Tile.setEntry_firing (x : Tile) (i : Nat) (e : InboxEntry) : (x.setEntry i e).firing = x.firing := rfl
@[simp] theorem Tile.setEntry_debugLog (x : Tile) (i : Nat) (e : InboxEntry) : (x.setEntry i e).debugLog = x.debugLog := rfl
@[simp] theorem Tile.setEntry_poolUsed (x : Tile) (i : Nat) (e : InboxEntry) : (x.setEntry i e).poolUsed = x.poolUsed := rfl

/-! Tile.reserve -/

@[simp] theorem Tile.reserve_sram (x : Tile) (k : Nat) (i : Nat) (sw : Nat) : (x.reserve k i sw).sram = x.sram := rfl
@[simp] theorem Tile.reserve_order (x : Tile) (k : Nat) (i : Nat) (sw : Nat) : (x.reserve k i sw).order = x.order := rfl
@[simp] theorem Tile.reserve_coreSeen (x : Tile) (k : Nat) (i : Nat) (sw : Nat) : (x.reserve k i sw).coreSeen = x.coreSeen := rfl
@[simp] theorem Tile.reserve_engineSeen (x : Tile) (k : Nat) (i : Nat) (sw : Nat) : (x.reserve k i sw).engineSeen = x.engineSeen := rfl
@[simp] theorem Tile.reserve_coreAcq (x : Tile) (k : Nat) (i : Nat) (sw : Nat) : (x.reserve k i sw).coreAcq = x.coreAcq := rfl
@[simp] theorem Tile.reserve_fetchAcq (x : Tile) (k : Nat) (i : Nat) (sw : Nat) : (x.reserve k i sw).fetchAcq = x.fetchAcq := rfl
@[simp] theorem Tile.reserve_fetchSeen (x : Tile) (k : Nat) (i : Nat) (sw : Nat) : (x.reserve k i sw).fetchSeen = x.fetchSeen := rfl
@[simp] theorem Tile.reserve_view (x : Tile) (k : Nat) (i : Nat) (sw : Nat) : (x.reserve k i sw).view = x.view := rfl
@[simp] theorem Tile.reserve_ended (x : Tile) (k : Nat) (i : Nat) (sw : Nat) : (x.reserve k i sw).ended = x.ended := rfl
@[simp] theorem Tile.reserve_poisoned (x : Tile) (k : Nat) (i : Nat) (sw : Nat) : (x.reserve k i sw).poisoned = x.poisoned := rfl
@[simp] theorem Tile.reserve_uncorrectable (x : Tile) (k : Nat) (i : Nat) (sw : Nat) : (x.reserve k i sw).uncorrectable = x.uncorrectable := rfl
@[simp] theorem Tile.reserve_singleError (x : Tile) (k : Nat) (i : Nat) (sw : Nat) : (x.reserve k i sw).singleError = x.singleError := rfl
@[simp] theorem Tile.reserve_slots (x : Tile) (k : Nat) (i : Nat) (sw : Nat) : (x.reserve k i sw).slots = x.slots := rfl
@[simp] theorem Tile.reserve_stamp (x : Tile) (k : Nat) (i : Nat) (sw : Nat) : (x.reserve k i sw).stamp = x.stamp := rfl
@[simp] theorem Tile.reserve_streams (x : Tile) (k : Nat) (i : Nat) (sw : Nat) : (x.reserve k i sw).streams = x.streams := rfl
@[simp] theorem Tile.reserve_keptStreams (x : Tile) (k : Nat) (i : Nat) (sw : Nat) : (x.reserve k i sw).keptStreams = x.keptStreams := rfl
@[simp] theorem Tile.reserve_runs (x : Tile) (k : Nat) (i : Nat) (sw : Nat) : (x.reserve k i sw).runs = x.runs := rfl
@[simp] theorem Tile.reserve_barred (x : Tile) (k : Nat) (i : Nat) (sw : Nat) : (x.reserve k i sw).barred = x.barred := rfl
@[simp] theorem Tile.reserve_copies (x : Tile) (k : Nat) (i : Nat) (sw : Nat) : (x.reserve k i sw).copies = x.copies := rfl
@[simp] theorem Tile.reserve_atomics (x : Tile) (k : Nat) (i : Nat) (sw : Nat) : (x.reserve k i sw).atomics = x.atomics := rfl
@[simp] theorem Tile.reserve_nextOp (x : Tile) (k : Nat) (i : Nat) (sw : Nat) : (x.reserve k i sw).nextOp = x.nextOp := rfl
@[simp] theorem Tile.reserve_sems (x : Tile) (k : Nat) (i : Nat) (sw : Nat) : (x.reserve k i sw).sems = x.sems := rfl
@[simp] theorem Tile.reserve_barriers (x : Tile) (k : Nat) (i : Nat) (sw : Nat) : (x.reserve k i sw).barriers = x.barriers := rfl
@[simp] theorem Tile.reserve_barInfo (x : Tile) (k : Nat) (i : Nat) (sw : Nat) : (x.reserve k i sw).barInfo = x.barInfo := rfl
@[simp] theorem Tile.reserve_cwords (x : Tile) (k : Nat) (i : Nat) (sw : Nat) : (x.reserve k i sw).cwords = x.cwords := rfl
@[simp] theorem Tile.reserve_gauge (x : Tile) (k : Nat) (i : Nat) (sw : Nat) : (x.reserve k i sw).gauge = x.gauge := rfl
@[simp] theorem Tile.reserve_nptr (x : Tile) (k : Nat) (i : Nat) (sw : Nat) : (x.reserve k i sw).nptr = x.nptr := rfl
@[simp] theorem Tile.reserve_edgeTab (x : Tile) (k : Nat) (i : Nat) (sw : Nat) : (x.reserve k i sw).edgeTab = x.edgeTab := rfl
@[simp] theorem Tile.reserve_scopeCopy (x : Tile) (k : Nat) (i : Nat) (sw : Nat) : (x.reserve k i sw).scopeCopy = x.scopeCopy := rfl
@[simp] theorem Tile.reserve_cycles (x : Tile) (k : Nat) (i : Nat) (sw : Nat) : (x.reserve k i sw).cycles = x.cycles := rfl
@[simp] theorem Tile.reserve_gating (x : Tile) (k : Nat) (i : Nat) (sw : Nat) : (x.reserve k i sw).gating = x.gating := rfl
@[simp] theorem Tile.reserve_array (x : Tile) (k : Nat) (i : Nat) (sw : Nat) : (x.reserve k i sw).array = x.array := rfl
@[simp] theorem Tile.reserve_rampFrom (x : Tile) (k : Nat) (i : Nat) (sw : Nat) : (x.reserve k i sw).rampFrom = x.rampFrom := rfl
@[simp] theorem Tile.reserve_matOps (x : Tile) (k : Nat) (i : Nat) (sw : Nat) : (x.reserve k i sw).matOps = x.matOps := rfl
@[simp] theorem Tile.reserve_lastFired (x : Tile) (k : Nat) (i : Nat) (sw : Nat) : (x.reserve k i sw).lastFired = x.lastFired := rfl
@[simp] theorem Tile.reserve_fired (x : Tile) (k : Nat) (i : Nat) (sw : Nat) : (x.reserve k i sw).fired = x.fired := rfl
@[simp] theorem Tile.reserve_nextUid (x : Tile) (k : Nat) (i : Nat) (sw : Nat) : (x.reserve k i sw).nextUid = x.nextUid := rfl
@[simp] theorem Tile.reserve_firing (x : Tile) (k : Nat) (i : Nat) (sw : Nat) : (x.reserve k i sw).firing = x.firing := rfl
@[simp] theorem Tile.reserve_debugLog (x : Tile) (k : Nat) (i : Nat) (sw : Nat) : (x.reserve k i sw).debugLog = x.debugLog := rfl
@[simp] theorem Tile.reserve_poolUsed (x : Tile) (k : Nat) (i : Nat) (sw : Nat) : (x.reserve k i sw).poolUsed = x.poolUsed := rfl

/-! Tile.setStream -/

@[simp] theorem Tile.setStream_sram (x : Tile) (k : Nat) (r : Words) : (x.setStream k r).sram = x.sram := rfl
@[simp] theorem Tile.setStream_order (x : Tile) (k : Nat) (r : Words) : (x.setStream k r).order = x.order := rfl
@[simp] theorem Tile.setStream_coreSeen (x : Tile) (k : Nat) (r : Words) : (x.setStream k r).coreSeen = x.coreSeen := rfl
@[simp] theorem Tile.setStream_engineSeen (x : Tile) (k : Nat) (r : Words) : (x.setStream k r).engineSeen = x.engineSeen := rfl
@[simp] theorem Tile.setStream_coreAcq (x : Tile) (k : Nat) (r : Words) : (x.setStream k r).coreAcq = x.coreAcq := rfl
@[simp] theorem Tile.setStream_fetchAcq (x : Tile) (k : Nat) (r : Words) : (x.setStream k r).fetchAcq = x.fetchAcq := rfl
@[simp] theorem Tile.setStream_fetchSeen (x : Tile) (k : Nat) (r : Words) : (x.setStream k r).fetchSeen = x.fetchSeen := rfl
@[simp] theorem Tile.setStream_view (x : Tile) (k : Nat) (r : Words) : (x.setStream k r).view = x.view := rfl
@[simp] theorem Tile.setStream_ended (x : Tile) (k : Nat) (r : Words) : (x.setStream k r).ended = x.ended := rfl
@[simp] theorem Tile.setStream_poisoned (x : Tile) (k : Nat) (r : Words) : (x.setStream k r).poisoned = x.poisoned := rfl
@[simp] theorem Tile.setStream_uncorrectable (x : Tile) (k : Nat) (r : Words) : (x.setStream k r).uncorrectable = x.uncorrectable := rfl
@[simp] theorem Tile.setStream_singleError (x : Tile) (k : Nat) (r : Words) : (x.setStream k r).singleError = x.singleError := rfl
@[simp] theorem Tile.setStream_slots (x : Tile) (k : Nat) (r : Words) : (x.setStream k r).slots = x.slots := rfl
@[simp] theorem Tile.setStream_inbox (x : Tile) (k : Nat) (r : Words) : (x.setStream k r).inbox = x.inbox := rfl
@[simp] theorem Tile.setStream_stamp (x : Tile) (k : Nat) (r : Words) : (x.setStream k r).stamp = x.stamp := rfl
@[simp] theorem Tile.setStream_keptStreams (x : Tile) (k : Nat) (r : Words) : (x.setStream k r).keptStreams = x.keptStreams := rfl
@[simp] theorem Tile.setStream_runs (x : Tile) (k : Nat) (r : Words) : (x.setStream k r).runs = x.runs := rfl
@[simp] theorem Tile.setStream_barred (x : Tile) (k : Nat) (r : Words) : (x.setStream k r).barred = x.barred := rfl
@[simp] theorem Tile.setStream_copies (x : Tile) (k : Nat) (r : Words) : (x.setStream k r).copies = x.copies := rfl
@[simp] theorem Tile.setStream_atomics (x : Tile) (k : Nat) (r : Words) : (x.setStream k r).atomics = x.atomics := rfl
@[simp] theorem Tile.setStream_nextOp (x : Tile) (k : Nat) (r : Words) : (x.setStream k r).nextOp = x.nextOp := rfl
@[simp] theorem Tile.setStream_sems (x : Tile) (k : Nat) (r : Words) : (x.setStream k r).sems = x.sems := rfl
@[simp] theorem Tile.setStream_barriers (x : Tile) (k : Nat) (r : Words) : (x.setStream k r).barriers = x.barriers := rfl
@[simp] theorem Tile.setStream_barInfo (x : Tile) (k : Nat) (r : Words) : (x.setStream k r).barInfo = x.barInfo := rfl
@[simp] theorem Tile.setStream_cwords (x : Tile) (k : Nat) (r : Words) : (x.setStream k r).cwords = x.cwords := rfl
@[simp] theorem Tile.setStream_gauge (x : Tile) (k : Nat) (r : Words) : (x.setStream k r).gauge = x.gauge := rfl
@[simp] theorem Tile.setStream_nptr (x : Tile) (k : Nat) (r : Words) : (x.setStream k r).nptr = x.nptr := rfl
@[simp] theorem Tile.setStream_edgeTab (x : Tile) (k : Nat) (r : Words) : (x.setStream k r).edgeTab = x.edgeTab := rfl
@[simp] theorem Tile.setStream_scopeCopy (x : Tile) (k : Nat) (r : Words) : (x.setStream k r).scopeCopy = x.scopeCopy := rfl
@[simp] theorem Tile.setStream_cycles (x : Tile) (k : Nat) (r : Words) : (x.setStream k r).cycles = x.cycles := rfl
@[simp] theorem Tile.setStream_gating (x : Tile) (k : Nat) (r : Words) : (x.setStream k r).gating = x.gating := rfl
@[simp] theorem Tile.setStream_array (x : Tile) (k : Nat) (r : Words) : (x.setStream k r).array = x.array := rfl
@[simp] theorem Tile.setStream_rampFrom (x : Tile) (k : Nat) (r : Words) : (x.setStream k r).rampFrom = x.rampFrom := rfl
@[simp] theorem Tile.setStream_matOps (x : Tile) (k : Nat) (r : Words) : (x.setStream k r).matOps = x.matOps := rfl
@[simp] theorem Tile.setStream_lastFired (x : Tile) (k : Nat) (r : Words) : (x.setStream k r).lastFired = x.lastFired := rfl
@[simp] theorem Tile.setStream_fired (x : Tile) (k : Nat) (r : Words) : (x.setStream k r).fired = x.fired := rfl
@[simp] theorem Tile.setStream_nextUid (x : Tile) (k : Nat) (r : Words) : (x.setStream k r).nextUid = x.nextUid := rfl
@[simp] theorem Tile.setStream_firing (x : Tile) (k : Nat) (r : Words) : (x.setStream k r).firing = x.firing := rfl
@[simp] theorem Tile.setStream_debugLog (x : Tile) (k : Nat) (r : Words) : (x.setStream k r).debugLog = x.debugLog := rfl
@[simp] theorem Tile.setStream_poolUsed (x : Tile) (k : Nat) (r : Words) : (x.setStream k r).poolUsed = x.poolUsed := rfl

/-! Tile.setRun -/

@[simp] theorem Tile.setRun_sram (x : Tile) (k : Nat) (r : StreamRun) : (x.setRun k r).sram = x.sram := rfl
@[simp] theorem Tile.setRun_order (x : Tile) (k : Nat) (r : StreamRun) : (x.setRun k r).order = x.order := rfl
@[simp] theorem Tile.setRun_coreSeen (x : Tile) (k : Nat) (r : StreamRun) : (x.setRun k r).coreSeen = x.coreSeen := rfl
@[simp] theorem Tile.setRun_engineSeen (x : Tile) (k : Nat) (r : StreamRun) : (x.setRun k r).engineSeen = x.engineSeen := rfl
@[simp] theorem Tile.setRun_coreAcq (x : Tile) (k : Nat) (r : StreamRun) : (x.setRun k r).coreAcq = x.coreAcq := rfl
@[simp] theorem Tile.setRun_fetchAcq (x : Tile) (k : Nat) (r : StreamRun) : (x.setRun k r).fetchAcq = x.fetchAcq := rfl
@[simp] theorem Tile.setRun_fetchSeen (x : Tile) (k : Nat) (r : StreamRun) : (x.setRun k r).fetchSeen = x.fetchSeen := rfl
@[simp] theorem Tile.setRun_view (x : Tile) (k : Nat) (r : StreamRun) : (x.setRun k r).view = x.view := rfl
@[simp] theorem Tile.setRun_ended (x : Tile) (k : Nat) (r : StreamRun) : (x.setRun k r).ended = x.ended := rfl
@[simp] theorem Tile.setRun_poisoned (x : Tile) (k : Nat) (r : StreamRun) : (x.setRun k r).poisoned = x.poisoned := rfl
@[simp] theorem Tile.setRun_uncorrectable (x : Tile) (k : Nat) (r : StreamRun) : (x.setRun k r).uncorrectable = x.uncorrectable := rfl
@[simp] theorem Tile.setRun_singleError (x : Tile) (k : Nat) (r : StreamRun) : (x.setRun k r).singleError = x.singleError := rfl
@[simp] theorem Tile.setRun_slots (x : Tile) (k : Nat) (r : StreamRun) : (x.setRun k r).slots = x.slots := rfl
@[simp] theorem Tile.setRun_inbox (x : Tile) (k : Nat) (r : StreamRun) : (x.setRun k r).inbox = x.inbox := rfl
@[simp] theorem Tile.setRun_stamp (x : Tile) (k : Nat) (r : StreamRun) : (x.setRun k r).stamp = x.stamp := rfl
@[simp] theorem Tile.setRun_streams (x : Tile) (k : Nat) (r : StreamRun) : (x.setRun k r).streams = x.streams := rfl
@[simp] theorem Tile.setRun_keptStreams (x : Tile) (k : Nat) (r : StreamRun) : (x.setRun k r).keptStreams = x.keptStreams := rfl
@[simp] theorem Tile.setRun_barred (x : Tile) (k : Nat) (r : StreamRun) : (x.setRun k r).barred = x.barred := rfl
@[simp] theorem Tile.setRun_copies (x : Tile) (k : Nat) (r : StreamRun) : (x.setRun k r).copies = x.copies := rfl
@[simp] theorem Tile.setRun_atomics (x : Tile) (k : Nat) (r : StreamRun) : (x.setRun k r).atomics = x.atomics := rfl
@[simp] theorem Tile.setRun_nextOp (x : Tile) (k : Nat) (r : StreamRun) : (x.setRun k r).nextOp = x.nextOp := rfl
@[simp] theorem Tile.setRun_sems (x : Tile) (k : Nat) (r : StreamRun) : (x.setRun k r).sems = x.sems := rfl
@[simp] theorem Tile.setRun_barriers (x : Tile) (k : Nat) (r : StreamRun) : (x.setRun k r).barriers = x.barriers := rfl
@[simp] theorem Tile.setRun_barInfo (x : Tile) (k : Nat) (r : StreamRun) : (x.setRun k r).barInfo = x.barInfo := rfl
@[simp] theorem Tile.setRun_cwords (x : Tile) (k : Nat) (r : StreamRun) : (x.setRun k r).cwords = x.cwords := rfl
@[simp] theorem Tile.setRun_gauge (x : Tile) (k : Nat) (r : StreamRun) : (x.setRun k r).gauge = x.gauge := rfl
@[simp] theorem Tile.setRun_nptr (x : Tile) (k : Nat) (r : StreamRun) : (x.setRun k r).nptr = x.nptr := rfl
@[simp] theorem Tile.setRun_edgeTab (x : Tile) (k : Nat) (r : StreamRun) : (x.setRun k r).edgeTab = x.edgeTab := rfl
@[simp] theorem Tile.setRun_scopeCopy (x : Tile) (k : Nat) (r : StreamRun) : (x.setRun k r).scopeCopy = x.scopeCopy := rfl
@[simp] theorem Tile.setRun_cycles (x : Tile) (k : Nat) (r : StreamRun) : (x.setRun k r).cycles = x.cycles := rfl
@[simp] theorem Tile.setRun_gating (x : Tile) (k : Nat) (r : StreamRun) : (x.setRun k r).gating = x.gating := rfl
@[simp] theorem Tile.setRun_array (x : Tile) (k : Nat) (r : StreamRun) : (x.setRun k r).array = x.array := rfl
@[simp] theorem Tile.setRun_rampFrom (x : Tile) (k : Nat) (r : StreamRun) : (x.setRun k r).rampFrom = x.rampFrom := rfl
@[simp] theorem Tile.setRun_matOps (x : Tile) (k : Nat) (r : StreamRun) : (x.setRun k r).matOps = x.matOps := rfl
@[simp] theorem Tile.setRun_lastFired (x : Tile) (k : Nat) (r : StreamRun) : (x.setRun k r).lastFired = x.lastFired := rfl
@[simp] theorem Tile.setRun_fired (x : Tile) (k : Nat) (r : StreamRun) : (x.setRun k r).fired = x.fired := rfl
@[simp] theorem Tile.setRun_nextUid (x : Tile) (k : Nat) (r : StreamRun) : (x.setRun k r).nextUid = x.nextUid := rfl
@[simp] theorem Tile.setRun_firing (x : Tile) (k : Nat) (r : StreamRun) : (x.setRun k r).firing = x.firing := rfl
@[simp] theorem Tile.setRun_debugLog (x : Tile) (k : Nat) (r : StreamRun) : (x.setRun k r).debugLog = x.debugLog := rfl
@[simp] theorem Tile.setRun_poolUsed (x : Tile) (k : Nat) (r : StreamRun) : (x.setRun k r).poolUsed = x.poolUsed := rfl

/-! Tile.putBytes -/

@[simp] theorem Tile.putBytes_coreSeen (x : Tile) (p : Stamp) (a : Nat) (bs : List Byte) (core : Bool) : (x.putBytes p a bs core).coreSeen = x.coreSeen := rfl
@[simp] theorem Tile.putBytes_engineSeen (x : Tile) (p : Stamp) (a : Nat) (bs : List Byte) (core : Bool) : (x.putBytes p a bs core).engineSeen = x.engineSeen := rfl
@[simp] theorem Tile.putBytes_coreAcq (x : Tile) (p : Stamp) (a : Nat) (bs : List Byte) (core : Bool) : (x.putBytes p a bs core).coreAcq = x.coreAcq := rfl
@[simp] theorem Tile.putBytes_fetchAcq (x : Tile) (p : Stamp) (a : Nat) (bs : List Byte) (core : Bool) : (x.putBytes p a bs core).fetchAcq = x.fetchAcq := rfl
@[simp] theorem Tile.putBytes_fetchSeen (x : Tile) (p : Stamp) (a : Nat) (bs : List Byte) (core : Bool) : (x.putBytes p a bs core).fetchSeen = x.fetchSeen := rfl
@[simp] theorem Tile.putBytes_view (x : Tile) (p : Stamp) (a : Nat) (bs : List Byte) (core : Bool) : (x.putBytes p a bs core).view = x.view := rfl
@[simp] theorem Tile.putBytes_ended (x : Tile) (p : Stamp) (a : Nat) (bs : List Byte) (core : Bool) : (x.putBytes p a bs core).ended = x.ended := rfl
@[simp] theorem Tile.putBytes_poisoned (x : Tile) (p : Stamp) (a : Nat) (bs : List Byte) (core : Bool) : (x.putBytes p a bs core).poisoned = x.poisoned := rfl
@[simp] theorem Tile.putBytes_uncorrectable (x : Tile) (p : Stamp) (a : Nat) (bs : List Byte) (core : Bool) : (x.putBytes p a bs core).uncorrectable = x.uncorrectable := rfl
@[simp] theorem Tile.putBytes_singleError (x : Tile) (p : Stamp) (a : Nat) (bs : List Byte) (core : Bool) : (x.putBytes p a bs core).singleError = x.singleError := rfl
@[simp] theorem Tile.putBytes_slots (x : Tile) (p : Stamp) (a : Nat) (bs : List Byte) (core : Bool) : (x.putBytes p a bs core).slots = x.slots := rfl
@[simp] theorem Tile.putBytes_inbox (x : Tile) (p : Stamp) (a : Nat) (bs : List Byte) (core : Bool) : (x.putBytes p a bs core).inbox = x.inbox := rfl
@[simp] theorem Tile.putBytes_stamp (x : Tile) (p : Stamp) (a : Nat) (bs : List Byte) (core : Bool) : (x.putBytes p a bs core).stamp = x.stamp := rfl
@[simp] theorem Tile.putBytes_streams (x : Tile) (p : Stamp) (a : Nat) (bs : List Byte) (core : Bool) : (x.putBytes p a bs core).streams = x.streams := rfl
@[simp] theorem Tile.putBytes_keptStreams (x : Tile) (p : Stamp) (a : Nat) (bs : List Byte) (core : Bool) : (x.putBytes p a bs core).keptStreams = x.keptStreams := rfl
@[simp] theorem Tile.putBytes_runs (x : Tile) (p : Stamp) (a : Nat) (bs : List Byte) (core : Bool) : (x.putBytes p a bs core).runs = x.runs := rfl
@[simp] theorem Tile.putBytes_barred (x : Tile) (p : Stamp) (a : Nat) (bs : List Byte) (core : Bool) : (x.putBytes p a bs core).barred = x.barred := rfl
@[simp] theorem Tile.putBytes_copies (x : Tile) (p : Stamp) (a : Nat) (bs : List Byte) (core : Bool) : (x.putBytes p a bs core).copies = x.copies := rfl
@[simp] theorem Tile.putBytes_atomics (x : Tile) (p : Stamp) (a : Nat) (bs : List Byte) (core : Bool) : (x.putBytes p a bs core).atomics = x.atomics := rfl
@[simp] theorem Tile.putBytes_nextOp (x : Tile) (p : Stamp) (a : Nat) (bs : List Byte) (core : Bool) : (x.putBytes p a bs core).nextOp = x.nextOp := rfl
@[simp] theorem Tile.putBytes_sems (x : Tile) (p : Stamp) (a : Nat) (bs : List Byte) (core : Bool) : (x.putBytes p a bs core).sems = x.sems := rfl
@[simp] theorem Tile.putBytes_barriers (x : Tile) (p : Stamp) (a : Nat) (bs : List Byte) (core : Bool) : (x.putBytes p a bs core).barriers = x.barriers := rfl
@[simp] theorem Tile.putBytes_barInfo (x : Tile) (p : Stamp) (a : Nat) (bs : List Byte) (core : Bool) : (x.putBytes p a bs core).barInfo = x.barInfo := rfl
@[simp] theorem Tile.putBytes_cwords (x : Tile) (p : Stamp) (a : Nat) (bs : List Byte) (core : Bool) : (x.putBytes p a bs core).cwords = x.cwords := rfl
@[simp] theorem Tile.putBytes_gauge (x : Tile) (p : Stamp) (a : Nat) (bs : List Byte) (core : Bool) : (x.putBytes p a bs core).gauge = x.gauge := rfl
@[simp] theorem Tile.putBytes_nptr (x : Tile) (p : Stamp) (a : Nat) (bs : List Byte) (core : Bool) : (x.putBytes p a bs core).nptr = x.nptr := rfl
@[simp] theorem Tile.putBytes_edgeTab (x : Tile) (p : Stamp) (a : Nat) (bs : List Byte) (core : Bool) : (x.putBytes p a bs core).edgeTab = x.edgeTab := rfl
@[simp] theorem Tile.putBytes_scopeCopy (x : Tile) (p : Stamp) (a : Nat) (bs : List Byte) (core : Bool) : (x.putBytes p a bs core).scopeCopy = x.scopeCopy := rfl
@[simp] theorem Tile.putBytes_cycles (x : Tile) (p : Stamp) (a : Nat) (bs : List Byte) (core : Bool) : (x.putBytes p a bs core).cycles = x.cycles := rfl
@[simp] theorem Tile.putBytes_gating (x : Tile) (p : Stamp) (a : Nat) (bs : List Byte) (core : Bool) : (x.putBytes p a bs core).gating = x.gating := rfl
@[simp] theorem Tile.putBytes_array (x : Tile) (p : Stamp) (a : Nat) (bs : List Byte) (core : Bool) : (x.putBytes p a bs core).array = x.array := rfl
@[simp] theorem Tile.putBytes_rampFrom (x : Tile) (p : Stamp) (a : Nat) (bs : List Byte) (core : Bool) : (x.putBytes p a bs core).rampFrom = x.rampFrom := rfl
@[simp] theorem Tile.putBytes_matOps (x : Tile) (p : Stamp) (a : Nat) (bs : List Byte) (core : Bool) : (x.putBytes p a bs core).matOps = x.matOps := rfl
@[simp] theorem Tile.putBytes_lastFired (x : Tile) (p : Stamp) (a : Nat) (bs : List Byte) (core : Bool) : (x.putBytes p a bs core).lastFired = x.lastFired := rfl
@[simp] theorem Tile.putBytes_fired (x : Tile) (p : Stamp) (a : Nat) (bs : List Byte) (core : Bool) : (x.putBytes p a bs core).fired = x.fired := rfl
@[simp] theorem Tile.putBytes_nextUid (x : Tile) (p : Stamp) (a : Nat) (bs : List Byte) (core : Bool) : (x.putBytes p a bs core).nextUid = x.nextUid := rfl
@[simp] theorem Tile.putBytes_firing (x : Tile) (p : Stamp) (a : Nat) (bs : List Byte) (core : Bool) : (x.putBytes p a bs core).firing = x.firing := rfl
@[simp] theorem Tile.putBytes_debugLog (x : Tile) (p : Stamp) (a : Nat) (bs : List Byte) (core : Bool) : (x.putBytes p a bs core).debugLog = x.debugLog := rfl
@[simp] theorem Tile.putBytes_poolUsed (x : Tile) (p : Stamp) (a : Nat) (bs : List Byte) (core : Bool) : (x.putBytes p a bs core).poolUsed = x.poolUsed := rfl

/-! Tile.storeAfter -/

@[simp] theorem Tile.storeAfter_engineSeen (x : Tile) (floor : Stamp) (c : Nat) (a : Nat) (bs : List Byte) : (x.storeAfter floor c a bs).engineSeen = x.engineSeen := rfl
@[simp] theorem Tile.storeAfter_coreAcq (x : Tile) (floor : Stamp) (c : Nat) (a : Nat) (bs : List Byte) : (x.storeAfter floor c a bs).coreAcq = x.coreAcq := rfl
@[simp] theorem Tile.storeAfter_fetchAcq (x : Tile) (floor : Stamp) (c : Nat) (a : Nat) (bs : List Byte) : (x.storeAfter floor c a bs).fetchAcq = x.fetchAcq := rfl
@[simp] theorem Tile.storeAfter_fetchSeen (x : Tile) (floor : Stamp) (c : Nat) (a : Nat) (bs : List Byte) : (x.storeAfter floor c a bs).fetchSeen = x.fetchSeen := rfl
@[simp] theorem Tile.storeAfter_view (x : Tile) (floor : Stamp) (c : Nat) (a : Nat) (bs : List Byte) : (x.storeAfter floor c a bs).view = x.view := rfl
@[simp] theorem Tile.storeAfter_ended (x : Tile) (floor : Stamp) (c : Nat) (a : Nat) (bs : List Byte) : (x.storeAfter floor c a bs).ended = x.ended := rfl
@[simp] theorem Tile.storeAfter_poisoned (x : Tile) (floor : Stamp) (c : Nat) (a : Nat) (bs : List Byte) : (x.storeAfter floor c a bs).poisoned = x.poisoned := rfl
@[simp] theorem Tile.storeAfter_uncorrectable (x : Tile) (floor : Stamp) (c : Nat) (a : Nat) (bs : List Byte) : (x.storeAfter floor c a bs).uncorrectable = x.uncorrectable := rfl
@[simp] theorem Tile.storeAfter_singleError (x : Tile) (floor : Stamp) (c : Nat) (a : Nat) (bs : List Byte) : (x.storeAfter floor c a bs).singleError = x.singleError := rfl
@[simp] theorem Tile.storeAfter_slots (x : Tile) (floor : Stamp) (c : Nat) (a : Nat) (bs : List Byte) : (x.storeAfter floor c a bs).slots = x.slots := rfl
@[simp] theorem Tile.storeAfter_inbox (x : Tile) (floor : Stamp) (c : Nat) (a : Nat) (bs : List Byte) : (x.storeAfter floor c a bs).inbox = x.inbox := rfl
@[simp] theorem Tile.storeAfter_stamp (x : Tile) (floor : Stamp) (c : Nat) (a : Nat) (bs : List Byte) : (x.storeAfter floor c a bs).stamp = x.stamp := rfl
@[simp] theorem Tile.storeAfter_streams (x : Tile) (floor : Stamp) (c : Nat) (a : Nat) (bs : List Byte) : (x.storeAfter floor c a bs).streams = x.streams := rfl
@[simp] theorem Tile.storeAfter_keptStreams (x : Tile) (floor : Stamp) (c : Nat) (a : Nat) (bs : List Byte) : (x.storeAfter floor c a bs).keptStreams = x.keptStreams := rfl
@[simp] theorem Tile.storeAfter_runs (x : Tile) (floor : Stamp) (c : Nat) (a : Nat) (bs : List Byte) : (x.storeAfter floor c a bs).runs = x.runs := rfl
@[simp] theorem Tile.storeAfter_barred (x : Tile) (floor : Stamp) (c : Nat) (a : Nat) (bs : List Byte) : (x.storeAfter floor c a bs).barred = x.barred := rfl
@[simp] theorem Tile.storeAfter_copies (x : Tile) (floor : Stamp) (c : Nat) (a : Nat) (bs : List Byte) : (x.storeAfter floor c a bs).copies = x.copies := rfl
@[simp] theorem Tile.storeAfter_atomics (x : Tile) (floor : Stamp) (c : Nat) (a : Nat) (bs : List Byte) : (x.storeAfter floor c a bs).atomics = x.atomics := rfl
@[simp] theorem Tile.storeAfter_nextOp (x : Tile) (floor : Stamp) (c : Nat) (a : Nat) (bs : List Byte) : (x.storeAfter floor c a bs).nextOp = x.nextOp := rfl
@[simp] theorem Tile.storeAfter_sems (x : Tile) (floor : Stamp) (c : Nat) (a : Nat) (bs : List Byte) : (x.storeAfter floor c a bs).sems = x.sems := rfl
@[simp] theorem Tile.storeAfter_barriers (x : Tile) (floor : Stamp) (c : Nat) (a : Nat) (bs : List Byte) : (x.storeAfter floor c a bs).barriers = x.barriers := rfl
@[simp] theorem Tile.storeAfter_barInfo (x : Tile) (floor : Stamp) (c : Nat) (a : Nat) (bs : List Byte) : (x.storeAfter floor c a bs).barInfo = x.barInfo := rfl
@[simp] theorem Tile.storeAfter_cwords (x : Tile) (floor : Stamp) (c : Nat) (a : Nat) (bs : List Byte) : (x.storeAfter floor c a bs).cwords = x.cwords := rfl
@[simp] theorem Tile.storeAfter_gauge (x : Tile) (floor : Stamp) (c : Nat) (a : Nat) (bs : List Byte) : (x.storeAfter floor c a bs).gauge = x.gauge := rfl
@[simp] theorem Tile.storeAfter_nptr (x : Tile) (floor : Stamp) (c : Nat) (a : Nat) (bs : List Byte) : (x.storeAfter floor c a bs).nptr = x.nptr := rfl
@[simp] theorem Tile.storeAfter_edgeTab (x : Tile) (floor : Stamp) (c : Nat) (a : Nat) (bs : List Byte) : (x.storeAfter floor c a bs).edgeTab = x.edgeTab := rfl
@[simp] theorem Tile.storeAfter_scopeCopy (x : Tile) (floor : Stamp) (c : Nat) (a : Nat) (bs : List Byte) : (x.storeAfter floor c a bs).scopeCopy = x.scopeCopy := rfl
@[simp] theorem Tile.storeAfter_cycles (x : Tile) (floor : Stamp) (c : Nat) (a : Nat) (bs : List Byte) : (x.storeAfter floor c a bs).cycles = x.cycles := rfl
@[simp] theorem Tile.storeAfter_gating (x : Tile) (floor : Stamp) (c : Nat) (a : Nat) (bs : List Byte) : (x.storeAfter floor c a bs).gating = x.gating := rfl
@[simp] theorem Tile.storeAfter_array (x : Tile) (floor : Stamp) (c : Nat) (a : Nat) (bs : List Byte) : (x.storeAfter floor c a bs).array = x.array := rfl
@[simp] theorem Tile.storeAfter_rampFrom (x : Tile) (floor : Stamp) (c : Nat) (a : Nat) (bs : List Byte) : (x.storeAfter floor c a bs).rampFrom = x.rampFrom := rfl
@[simp] theorem Tile.storeAfter_matOps (x : Tile) (floor : Stamp) (c : Nat) (a : Nat) (bs : List Byte) : (x.storeAfter floor c a bs).matOps = x.matOps := rfl
@[simp] theorem Tile.storeAfter_lastFired (x : Tile) (floor : Stamp) (c : Nat) (a : Nat) (bs : List Byte) : (x.storeAfter floor c a bs).lastFired = x.lastFired := rfl
@[simp] theorem Tile.storeAfter_fired (x : Tile) (floor : Stamp) (c : Nat) (a : Nat) (bs : List Byte) : (x.storeAfter floor c a bs).fired = x.fired := rfl
@[simp] theorem Tile.storeAfter_nextUid (x : Tile) (floor : Stamp) (c : Nat) (a : Nat) (bs : List Byte) : (x.storeAfter floor c a bs).nextUid = x.nextUid := rfl
@[simp] theorem Tile.storeAfter_firing (x : Tile) (floor : Stamp) (c : Nat) (a : Nat) (bs : List Byte) : (x.storeAfter floor c a bs).firing = x.firing := rfl
@[simp] theorem Tile.storeAfter_debugLog (x : Tile) (floor : Stamp) (c : Nat) (a : Nat) (bs : List Byte) : (x.storeAfter floor c a bs).debugLog = x.debugLog := rfl
@[simp] theorem Tile.storeAfter_poolUsed (x : Tile) (floor : Stamp) (c : Nat) (a : Nat) (bs : List Byte) : (x.storeAfter floor c a bs).poolUsed = x.poolUsed := rfl

/-! Tile.seeRead -/

@[simp] theorem Tile.seeRead_sram (x : Tile) (p : Stamp) (a : Nat) (n : Nat) : (x.seeRead p a n).sram = x.sram := rfl
@[simp] theorem Tile.seeRead_engineSeen (x : Tile) (p : Stamp) (a : Nat) (n : Nat) : (x.seeRead p a n).engineSeen = x.engineSeen := rfl
@[simp] theorem Tile.seeRead_coreAcq (x : Tile) (p : Stamp) (a : Nat) (n : Nat) : (x.seeRead p a n).coreAcq = x.coreAcq := rfl
@[simp] theorem Tile.seeRead_fetchAcq (x : Tile) (p : Stamp) (a : Nat) (n : Nat) : (x.seeRead p a n).fetchAcq = x.fetchAcq := rfl
@[simp] theorem Tile.seeRead_fetchSeen (x : Tile) (p : Stamp) (a : Nat) (n : Nat) : (x.seeRead p a n).fetchSeen = x.fetchSeen := rfl
@[simp] theorem Tile.seeRead_view (x : Tile) (p : Stamp) (a : Nat) (n : Nat) : (x.seeRead p a n).view = x.view := rfl
@[simp] theorem Tile.seeRead_ended (x : Tile) (p : Stamp) (a : Nat) (n : Nat) : (x.seeRead p a n).ended = x.ended := rfl
@[simp] theorem Tile.seeRead_poisoned (x : Tile) (p : Stamp) (a : Nat) (n : Nat) : (x.seeRead p a n).poisoned = x.poisoned := rfl
@[simp] theorem Tile.seeRead_uncorrectable (x : Tile) (p : Stamp) (a : Nat) (n : Nat) : (x.seeRead p a n).uncorrectable = x.uncorrectable := rfl
@[simp] theorem Tile.seeRead_singleError (x : Tile) (p : Stamp) (a : Nat) (n : Nat) : (x.seeRead p a n).singleError = x.singleError := rfl
@[simp] theorem Tile.seeRead_slots (x : Tile) (p : Stamp) (a : Nat) (n : Nat) : (x.seeRead p a n).slots = x.slots := rfl
@[simp] theorem Tile.seeRead_inbox (x : Tile) (p : Stamp) (a : Nat) (n : Nat) : (x.seeRead p a n).inbox = x.inbox := rfl
@[simp] theorem Tile.seeRead_stamp (x : Tile) (p : Stamp) (a : Nat) (n : Nat) : (x.seeRead p a n).stamp = x.stamp := rfl
@[simp] theorem Tile.seeRead_streams (x : Tile) (p : Stamp) (a : Nat) (n : Nat) : (x.seeRead p a n).streams = x.streams := rfl
@[simp] theorem Tile.seeRead_keptStreams (x : Tile) (p : Stamp) (a : Nat) (n : Nat) : (x.seeRead p a n).keptStreams = x.keptStreams := rfl
@[simp] theorem Tile.seeRead_runs (x : Tile) (p : Stamp) (a : Nat) (n : Nat) : (x.seeRead p a n).runs = x.runs := rfl
@[simp] theorem Tile.seeRead_barred (x : Tile) (p : Stamp) (a : Nat) (n : Nat) : (x.seeRead p a n).barred = x.barred := rfl
@[simp] theorem Tile.seeRead_copies (x : Tile) (p : Stamp) (a : Nat) (n : Nat) : (x.seeRead p a n).copies = x.copies := rfl
@[simp] theorem Tile.seeRead_atomics (x : Tile) (p : Stamp) (a : Nat) (n : Nat) : (x.seeRead p a n).atomics = x.atomics := rfl
@[simp] theorem Tile.seeRead_nextOp (x : Tile) (p : Stamp) (a : Nat) (n : Nat) : (x.seeRead p a n).nextOp = x.nextOp := rfl
@[simp] theorem Tile.seeRead_sems (x : Tile) (p : Stamp) (a : Nat) (n : Nat) : (x.seeRead p a n).sems = x.sems := rfl
@[simp] theorem Tile.seeRead_barriers (x : Tile) (p : Stamp) (a : Nat) (n : Nat) : (x.seeRead p a n).barriers = x.barriers := rfl
@[simp] theorem Tile.seeRead_barInfo (x : Tile) (p : Stamp) (a : Nat) (n : Nat) : (x.seeRead p a n).barInfo = x.barInfo := rfl
@[simp] theorem Tile.seeRead_cwords (x : Tile) (p : Stamp) (a : Nat) (n : Nat) : (x.seeRead p a n).cwords = x.cwords := rfl
@[simp] theorem Tile.seeRead_gauge (x : Tile) (p : Stamp) (a : Nat) (n : Nat) : (x.seeRead p a n).gauge = x.gauge := rfl
@[simp] theorem Tile.seeRead_nptr (x : Tile) (p : Stamp) (a : Nat) (n : Nat) : (x.seeRead p a n).nptr = x.nptr := rfl
@[simp] theorem Tile.seeRead_edgeTab (x : Tile) (p : Stamp) (a : Nat) (n : Nat) : (x.seeRead p a n).edgeTab = x.edgeTab := rfl
@[simp] theorem Tile.seeRead_scopeCopy (x : Tile) (p : Stamp) (a : Nat) (n : Nat) : (x.seeRead p a n).scopeCopy = x.scopeCopy := rfl
@[simp] theorem Tile.seeRead_cycles (x : Tile) (p : Stamp) (a : Nat) (n : Nat) : (x.seeRead p a n).cycles = x.cycles := rfl
@[simp] theorem Tile.seeRead_gating (x : Tile) (p : Stamp) (a : Nat) (n : Nat) : (x.seeRead p a n).gating = x.gating := rfl
@[simp] theorem Tile.seeRead_array (x : Tile) (p : Stamp) (a : Nat) (n : Nat) : (x.seeRead p a n).array = x.array := rfl
@[simp] theorem Tile.seeRead_rampFrom (x : Tile) (p : Stamp) (a : Nat) (n : Nat) : (x.seeRead p a n).rampFrom = x.rampFrom := rfl
@[simp] theorem Tile.seeRead_matOps (x : Tile) (p : Stamp) (a : Nat) (n : Nat) : (x.seeRead p a n).matOps = x.matOps := rfl
@[simp] theorem Tile.seeRead_lastFired (x : Tile) (p : Stamp) (a : Nat) (n : Nat) : (x.seeRead p a n).lastFired = x.lastFired := rfl
@[simp] theorem Tile.seeRead_fired (x : Tile) (p : Stamp) (a : Nat) (n : Nat) : (x.seeRead p a n).fired = x.fired := rfl
@[simp] theorem Tile.seeRead_nextUid (x : Tile) (p : Stamp) (a : Nat) (n : Nat) : (x.seeRead p a n).nextUid = x.nextUid := rfl
@[simp] theorem Tile.seeRead_firing (x : Tile) (p : Stamp) (a : Nat) (n : Nat) : (x.seeRead p a n).firing = x.firing := rfl
@[simp] theorem Tile.seeRead_debugLog (x : Tile) (p : Stamp) (a : Nat) (n : Nat) : (x.seeRead p a n).debugLog = x.debugLog := rfl
@[simp] theorem Tile.seeRead_poolUsed (x : Tile) (p : Stamp) (a : Nat) (n : Nat) : (x.seeRead p a n).poolUsed = x.poolUsed := rfl

/-! Tile.acquire -/

@[simp] theorem Tile.acquire_sram (x : Tile) (r : Reach) : (x.acquire r).sram = x.sram := rfl
@[simp] theorem Tile.acquire_order (x : Tile) (r : Reach) : (x.acquire r).order = x.order := rfl
@[simp] theorem Tile.acquire_fetchAcq (x : Tile) (r : Reach) : (x.acquire r).fetchAcq = x.fetchAcq := rfl
@[simp] theorem Tile.acquire_fetchSeen (x : Tile) (r : Reach) : (x.acquire r).fetchSeen = x.fetchSeen := rfl
@[simp] theorem Tile.acquire_ended (x : Tile) (r : Reach) : (x.acquire r).ended = x.ended := rfl
@[simp] theorem Tile.acquire_poisoned (x : Tile) (r : Reach) : (x.acquire r).poisoned = x.poisoned := rfl
@[simp] theorem Tile.acquire_uncorrectable (x : Tile) (r : Reach) : (x.acquire r).uncorrectable = x.uncorrectable := rfl
@[simp] theorem Tile.acquire_singleError (x : Tile) (r : Reach) : (x.acquire r).singleError = x.singleError := rfl
@[simp] theorem Tile.acquire_slots (x : Tile) (r : Reach) : (x.acquire r).slots = x.slots := rfl
@[simp] theorem Tile.acquire_inbox (x : Tile) (r : Reach) : (x.acquire r).inbox = x.inbox := rfl
@[simp] theorem Tile.acquire_stamp (x : Tile) (r : Reach) : (x.acquire r).stamp = x.stamp := rfl
@[simp] theorem Tile.acquire_streams (x : Tile) (r : Reach) : (x.acquire r).streams = x.streams := rfl
@[simp] theorem Tile.acquire_keptStreams (x : Tile) (r : Reach) : (x.acquire r).keptStreams = x.keptStreams := rfl
@[simp] theorem Tile.acquire_runs (x : Tile) (r : Reach) : (x.acquire r).runs = x.runs := rfl
@[simp] theorem Tile.acquire_barred (x : Tile) (r : Reach) : (x.acquire r).barred = x.barred := rfl
@[simp] theorem Tile.acquire_copies (x : Tile) (r : Reach) : (x.acquire r).copies = x.copies := rfl
@[simp] theorem Tile.acquire_atomics (x : Tile) (r : Reach) : (x.acquire r).atomics = x.atomics := rfl
@[simp] theorem Tile.acquire_nextOp (x : Tile) (r : Reach) : (x.acquire r).nextOp = x.nextOp := rfl
@[simp] theorem Tile.acquire_sems (x : Tile) (r : Reach) : (x.acquire r).sems = x.sems := rfl
@[simp] theorem Tile.acquire_barriers (x : Tile) (r : Reach) : (x.acquire r).barriers = x.barriers := rfl
@[simp] theorem Tile.acquire_barInfo (x : Tile) (r : Reach) : (x.acquire r).barInfo = x.barInfo := rfl
@[simp] theorem Tile.acquire_cwords (x : Tile) (r : Reach) : (x.acquire r).cwords = x.cwords := rfl
@[simp] theorem Tile.acquire_gauge (x : Tile) (r : Reach) : (x.acquire r).gauge = x.gauge := rfl
@[simp] theorem Tile.acquire_nptr (x : Tile) (r : Reach) : (x.acquire r).nptr = x.nptr := rfl
@[simp] theorem Tile.acquire_edgeTab (x : Tile) (r : Reach) : (x.acquire r).edgeTab = x.edgeTab := rfl
@[simp] theorem Tile.acquire_scopeCopy (x : Tile) (r : Reach) : (x.acquire r).scopeCopy = x.scopeCopy := rfl
@[simp] theorem Tile.acquire_cycles (x : Tile) (r : Reach) : (x.acquire r).cycles = x.cycles := rfl
@[simp] theorem Tile.acquire_gating (x : Tile) (r : Reach) : (x.acquire r).gating = x.gating := rfl
@[simp] theorem Tile.acquire_array (x : Tile) (r : Reach) : (x.acquire r).array = x.array := rfl
@[simp] theorem Tile.acquire_rampFrom (x : Tile) (r : Reach) : (x.acquire r).rampFrom = x.rampFrom := rfl
@[simp] theorem Tile.acquire_matOps (x : Tile) (r : Reach) : (x.acquire r).matOps = x.matOps := rfl
@[simp] theorem Tile.acquire_lastFired (x : Tile) (r : Reach) : (x.acquire r).lastFired = x.lastFired := rfl
@[simp] theorem Tile.acquire_fired (x : Tile) (r : Reach) : (x.acquire r).fired = x.fired := rfl
@[simp] theorem Tile.acquire_nextUid (x : Tile) (r : Reach) : (x.acquire r).nextUid = x.nextUid := rfl
@[simp] theorem Tile.acquire_firing (x : Tile) (r : Reach) : (x.acquire r).firing = x.firing := rfl
@[simp] theorem Tile.acquire_debugLog (x : Tile) (r : Reach) : (x.acquire r).debugLog = x.debugLog := rfl
@[simp] theorem Tile.acquire_poolUsed (x : Tile) (r : Reach) : (x.acquire r).poolUsed = x.poolUsed := rfl

/-! Firing.writeV -/

@[simp] theorem Firing.writeV_slot (f : Firing) (d : Nat) (v : Lanes) : (f.writeV d v).slot = f.slot := rfl
@[simp] theorem Firing.writeV_uid (f : Firing) (d : Nat) (v : Lanes) : (f.writeV d v).uid = f.uid := rfl
@[simp] theorem Firing.writeV_pc (f : Firing) (d : Nat) (v : Lanes) : (f.writeV d v).pc = f.pc := rfl
@[simp] theorem Firing.writeV_sregs (f : Firing) (d : Nat) (v : Lanes) : (f.writeV d v).sregs = f.sregs := rfl
@[simp] theorem Firing.writeV_mregs (f : Firing) (d : Nat) (v : Lanes) : (f.writeV d v).mregs = f.mregs := rfl
@[simp] theorem Firing.writeV_accs (f : Firing) (d : Nat) (v : Lanes) : (f.writeV d v).accs = f.accs := rfl
@[simp] theorem Firing.writeV_levels (f : Firing) (d : Nat) (v : Lanes) : (f.writeV d v).levels = f.levels := rfl
@[simp] theorem Firing.writeV_savedLevels (f : Firing) (d : Nat) (v : Lanes) : (f.writeV d v).savedLevels = f.savedLevels := rfl
@[simp] theorem Firing.writeV_round (f : Firing) (d : Nat) (v : Lanes) : (f.writeV d v).round = f.round := rfl
@[simp] theorem Firing.writeV_fflags (f : Firing) (d : Nat) (v : Lanes) : (f.writeV d v).fflags = f.fflags := rfl
@[simp] theorem Firing.writeV_mctl (f : Firing) (d : Nat) (v : Lanes) : (f.writeV d v).mctl = f.mctl := rfl
@[simp] theorem Firing.writeV_tvec (f : Firing) (d : Nat) (v : Lanes) : (f.writeV d v).tvec = f.tvec := rfl
@[simp] theorem Firing.writeV_tpc (f : Firing) (d : Nat) (v : Lanes) : (f.writeV d v).tpc = f.tpc := rfl
@[simp] theorem Firing.writeV_tstat (f : Firing) (d : Nat) (v : Lanes) : (f.writeV d v).tstat = f.tstat := rfl
@[simp] theorem Firing.writeV_evdl (f : Firing) (d : Nat) (v : Lanes) : (f.writeV d v).evdl = f.evdl := rfl
@[simp] theorem Firing.writeV_evDue (f : Firing) (d : Nat) (v : Lanes) : (f.writeV d v).evDue = f.evDue := rfl
@[simp] theorem Firing.writeV_evpend (f : Firing) (d : Nat) (v : Lanes) : (f.writeV d v).evpend = f.evpend := rfl
@[simp] theorem Firing.writeV_spent (f : Firing) (d : Nat) (v : Lanes) : (f.writeV d v).spent = f.spent := rfl
@[simp] theorem Firing.writeV_cursors (f : Firing) (d : Nat) (v : Lanes) : (f.writeV d v).cursors = f.cursors := rfl
@[simp] theorem Firing.writeV_staged (f : Firing) (d : Nat) (v : Lanes) : (f.writeV d v).staged = f.staged := rfl
@[simp] theorem Firing.writeV_marks (f : Firing) (d : Nat) (v : Lanes) : (f.writeV d v).marks = f.marks := rfl
@[simp] theorem Firing.writeV_scales (f : Firing) (d : Nat) (v : Lanes) : (f.writeV d v).scales = f.scales := rfl
@[simp] theorem Firing.writeV_journal (f : Firing) (d : Nat) (v : Lanes) : (f.writeV d v).journal = f.journal := rfl
@[simp] theorem Firing.writeV_messages (f : Firing) (d : Nat) (v : Lanes) : (f.writeV d v).messages = f.messages := rfl
@[simp] theorem Firing.writeV_deferred (f : Firing) (d : Nat) (v : Lanes) : (f.writeV d v).deferred = f.deferred := rfl
@[simp] theorem Firing.writeV_seals (f : Firing) (d : Nat) (v : Lanes) : (f.writeV d v).seals = f.seals := rfl
@[simp] theorem Firing.writeV_semChanges (f : Firing) (d : Nat) (v : Lanes) : (f.writeV d v).semChanges = f.semChanges := rfl
@[simp] theorem Firing.writeV_barChanges (f : Firing) (d : Nat) (v : Lanes) : (f.writeV d v).barChanges = f.barChanges := rfl
@[simp] theorem Firing.writeV_haltq (f : Firing) (d : Nat) (v : Lanes) : (f.writeV d v).haltq = f.haltq := rfl
@[simp] theorem Firing.writeV_delta (f : Firing) (d : Nat) (v : Lanes) : (f.writeV d v).delta = f.delta := rfl
@[simp] theorem Firing.writeV_readyAtStart (f : Firing) (d : Nat) (v : Lanes) : (f.writeV d v).readyAtStart = f.readyAtStart := rfl
@[simp] theorem Firing.writeV_bpPassed (f : Firing) (d : Nat) (v : Lanes) : (f.writeV d v).bpPassed = f.bpPassed := rfl
@[simp] theorem Firing.writeV_phase (f : Firing) (d : Nat) (v : Lanes) : (f.writeV d v).phase = f.phase := rfl
@[simp] theorem Firing.writeV_msgEntry (f : Firing) (d : Nat) (v : Lanes) : (f.writeV d v).msgEntry = f.msgEntry := rfl

/-! Firing.stage -/

@[simp] theorem Firing.stage_slot (f : Firing) (p : Nat) (ws : List Word32) : (f.stage p ws).slot = f.slot := rfl
@[simp] theorem Firing.stage_uid (f : Firing) (p : Nat) (ws : List Word32) : (f.stage p ws).uid = f.uid := rfl
@[simp] theorem Firing.stage_pc (f : Firing) (p : Nat) (ws : List Word32) : (f.stage p ws).pc = f.pc := rfl
@[simp] theorem Firing.stage_sregs (f : Firing) (p : Nat) (ws : List Word32) : (f.stage p ws).sregs = f.sregs := rfl
@[simp] theorem Firing.stage_vregs (f : Firing) (p : Nat) (ws : List Word32) : (f.stage p ws).vregs = f.vregs := rfl
@[simp] theorem Firing.stage_mregs (f : Firing) (p : Nat) (ws : List Word32) : (f.stage p ws).mregs = f.mregs := rfl
@[simp] theorem Firing.stage_accs (f : Firing) (p : Nat) (ws : List Word32) : (f.stage p ws).accs = f.accs := rfl
@[simp] theorem Firing.stage_levels (f : Firing) (p : Nat) (ws : List Word32) : (f.stage p ws).levels = f.levels := rfl
@[simp] theorem Firing.stage_savedLevels (f : Firing) (p : Nat) (ws : List Word32) : (f.stage p ws).savedLevels = f.savedLevels := rfl
@[simp] theorem Firing.stage_round (f : Firing) (p : Nat) (ws : List Word32) : (f.stage p ws).round = f.round := rfl
@[simp] theorem Firing.stage_fflags (f : Firing) (p : Nat) (ws : List Word32) : (f.stage p ws).fflags = f.fflags := rfl
@[simp] theorem Firing.stage_mctl (f : Firing) (p : Nat) (ws : List Word32) : (f.stage p ws).mctl = f.mctl := rfl
@[simp] theorem Firing.stage_tvec (f : Firing) (p : Nat) (ws : List Word32) : (f.stage p ws).tvec = f.tvec := rfl
@[simp] theorem Firing.stage_tpc (f : Firing) (p : Nat) (ws : List Word32) : (f.stage p ws).tpc = f.tpc := rfl
@[simp] theorem Firing.stage_tstat (f : Firing) (p : Nat) (ws : List Word32) : (f.stage p ws).tstat = f.tstat := rfl
@[simp] theorem Firing.stage_evdl (f : Firing) (p : Nat) (ws : List Word32) : (f.stage p ws).evdl = f.evdl := rfl
@[simp] theorem Firing.stage_evDue (f : Firing) (p : Nat) (ws : List Word32) : (f.stage p ws).evDue = f.evDue := rfl
@[simp] theorem Firing.stage_evpend (f : Firing) (p : Nat) (ws : List Word32) : (f.stage p ws).evpend = f.evpend := rfl
@[simp] theorem Firing.stage_spent (f : Firing) (p : Nat) (ws : List Word32) : (f.stage p ws).spent = f.spent := rfl
@[simp] theorem Firing.stage_cursors (f : Firing) (p : Nat) (ws : List Word32) : (f.stage p ws).cursors = f.cursors := rfl
@[simp] theorem Firing.stage_marks (f : Firing) (p : Nat) (ws : List Word32) : (f.stage p ws).marks = f.marks := rfl
@[simp] theorem Firing.stage_scales (f : Firing) (p : Nat) (ws : List Word32) : (f.stage p ws).scales = f.scales := rfl
@[simp] theorem Firing.stage_journal (f : Firing) (p : Nat) (ws : List Word32) : (f.stage p ws).journal = f.journal := rfl
@[simp] theorem Firing.stage_messages (f : Firing) (p : Nat) (ws : List Word32) : (f.stage p ws).messages = f.messages := rfl
@[simp] theorem Firing.stage_deferred (f : Firing) (p : Nat) (ws : List Word32) : (f.stage p ws).deferred = f.deferred := rfl
@[simp] theorem Firing.stage_seals (f : Firing) (p : Nat) (ws : List Word32) : (f.stage p ws).seals = f.seals := rfl
@[simp] theorem Firing.stage_semChanges (f : Firing) (p : Nat) (ws : List Word32) : (f.stage p ws).semChanges = f.semChanges := rfl
@[simp] theorem Firing.stage_barChanges (f : Firing) (p : Nat) (ws : List Word32) : (f.stage p ws).barChanges = f.barChanges := rfl
@[simp] theorem Firing.stage_haltq (f : Firing) (p : Nat) (ws : List Word32) : (f.stage p ws).haltq = f.haltq := rfl
@[simp] theorem Firing.stage_delta (f : Firing) (p : Nat) (ws : List Word32) : (f.stage p ws).delta = f.delta := rfl
@[simp] theorem Firing.stage_readyAtStart (f : Firing) (p : Nat) (ws : List Word32) : (f.stage p ws).readyAtStart = f.readyAtStart := rfl
@[simp] theorem Firing.stage_bpPassed (f : Firing) (p : Nat) (ws : List Word32) : (f.stage p ws).bpPassed = f.bpPassed := rfl
@[simp] theorem Firing.stage_phase (f : Firing) (p : Nat) (ws : List Word32) : (f.stage p ws).phase = f.phase := rfl
@[simp] theorem Firing.stage_msgEntry (f : Firing) (p : Nat) (ws : List Word32) : (f.stage p ws).msgEntry = f.msgEntry := rfl

/-! Firing.complete -/

@[simp] theorem Firing.complete_slot (f : Firing) (len : Nat) : (f.complete len).slot = f.slot := rfl
@[simp] theorem Firing.complete_uid (f : Firing) (len : Nat) : (f.complete len).uid = f.uid := rfl
@[simp] theorem Firing.complete_sregs (f : Firing) (len : Nat) : (f.complete len).sregs = f.sregs := rfl
@[simp] theorem Firing.complete_vregs (f : Firing) (len : Nat) : (f.complete len).vregs = f.vregs := rfl
@[simp] theorem Firing.complete_mregs (f : Firing) (len : Nat) : (f.complete len).mregs = f.mregs := rfl
@[simp] theorem Firing.complete_accs (f : Firing) (len : Nat) : (f.complete len).accs = f.accs := rfl
@[simp] theorem Firing.complete_savedLevels (f : Firing) (len : Nat) : (f.complete len).savedLevels = f.savedLevels := rfl
@[simp] theorem Firing.complete_round (f : Firing) (len : Nat) : (f.complete len).round = f.round := rfl
@[simp] theorem Firing.complete_fflags (f : Firing) (len : Nat) : (f.complete len).fflags = f.fflags := rfl
@[simp] theorem Firing.complete_mctl (f : Firing) (len : Nat) : (f.complete len).mctl = f.mctl := rfl
@[simp] theorem Firing.complete_tvec (f : Firing) (len : Nat) : (f.complete len).tvec = f.tvec := rfl
@[simp] theorem Firing.complete_tpc (f : Firing) (len : Nat) : (f.complete len).tpc = f.tpc := rfl
@[simp] theorem Firing.complete_tstat (f : Firing) (len : Nat) : (f.complete len).tstat = f.tstat := rfl
@[simp] theorem Firing.complete_evdl (f : Firing) (len : Nat) : (f.complete len).evdl = f.evdl := rfl
@[simp] theorem Firing.complete_evDue (f : Firing) (len : Nat) : (f.complete len).evDue = f.evDue := rfl
@[simp] theorem Firing.complete_evpend (f : Firing) (len : Nat) : (f.complete len).evpend = f.evpend := rfl
@[simp] theorem Firing.complete_spent (f : Firing) (len : Nat) : (f.complete len).spent = f.spent := rfl
@[simp] theorem Firing.complete_cursors (f : Firing) (len : Nat) : (f.complete len).cursors = f.cursors := rfl
@[simp] theorem Firing.complete_staged (f : Firing) (len : Nat) : (f.complete len).staged = f.staged := rfl
@[simp] theorem Firing.complete_marks (f : Firing) (len : Nat) : (f.complete len).marks = f.marks := rfl
@[simp] theorem Firing.complete_scales (f : Firing) (len : Nat) : (f.complete len).scales = f.scales := rfl
@[simp] theorem Firing.complete_journal (f : Firing) (len : Nat) : (f.complete len).journal = f.journal := rfl
@[simp] theorem Firing.complete_messages (f : Firing) (len : Nat) : (f.complete len).messages = f.messages := rfl
@[simp] theorem Firing.complete_deferred (f : Firing) (len : Nat) : (f.complete len).deferred = f.deferred := rfl
@[simp] theorem Firing.complete_seals (f : Firing) (len : Nat) : (f.complete len).seals = f.seals := rfl
@[simp] theorem Firing.complete_semChanges (f : Firing) (len : Nat) : (f.complete len).semChanges = f.semChanges := rfl
@[simp] theorem Firing.complete_barChanges (f : Firing) (len : Nat) : (f.complete len).barChanges = f.barChanges := rfl
@[simp] theorem Firing.complete_haltq (f : Firing) (len : Nat) : (f.complete len).haltq = f.haltq := rfl
@[simp] theorem Firing.complete_delta (f : Firing) (len : Nat) : (f.complete len).delta = f.delta := rfl
@[simp] theorem Firing.complete_readyAtStart (f : Firing) (len : Nat) : (f.complete len).readyAtStart = f.readyAtStart := rfl
@[simp] theorem Firing.complete_bpPassed (f : Firing) (len : Nat) : (f.complete len).bpPassed = f.bpPassed := rfl
@[simp] theorem Firing.complete_phase (f : Firing) (len : Nat) : (f.complete len).phase = f.phase := rfl
@[simp] theorem Firing.complete_msgEntry (f : Firing) (len : Nat) : (f.complete len).msgEntry = f.msgEntry := rfl

/-! Firing.transfer -/

@[simp] theorem Firing.transfer_slot (f : Firing) (target : Nat) (call : Bool) : (f.transfer target call).slot = f.slot := rfl
@[simp] theorem Firing.transfer_uid (f : Firing) (target : Nat) (call : Bool) : (f.transfer target call).uid = f.uid := rfl
@[simp] theorem Firing.transfer_sregs (f : Firing) (target : Nat) (call : Bool) : (f.transfer target call).sregs = f.sregs := rfl
@[simp] theorem Firing.transfer_vregs (f : Firing) (target : Nat) (call : Bool) : (f.transfer target call).vregs = f.vregs := rfl
@[simp] theorem Firing.transfer_mregs (f : Firing) (target : Nat) (call : Bool) : (f.transfer target call).mregs = f.mregs := rfl
@[simp] theorem Firing.transfer_accs (f : Firing) (target : Nat) (call : Bool) : (f.transfer target call).accs = f.accs := rfl
@[simp] theorem Firing.transfer_savedLevels (f : Firing) (target : Nat) (call : Bool) : (f.transfer target call).savedLevels = f.savedLevels := rfl
@[simp] theorem Firing.transfer_round (f : Firing) (target : Nat) (call : Bool) : (f.transfer target call).round = f.round := rfl
@[simp] theorem Firing.transfer_fflags (f : Firing) (target : Nat) (call : Bool) : (f.transfer target call).fflags = f.fflags := rfl
@[simp] theorem Firing.transfer_mctl (f : Firing) (target : Nat) (call : Bool) : (f.transfer target call).mctl = f.mctl := rfl
@[simp] theorem Firing.transfer_tvec (f : Firing) (target : Nat) (call : Bool) : (f.transfer target call).tvec = f.tvec := rfl
@[simp] theorem Firing.transfer_tpc (f : Firing) (target : Nat) (call : Bool) : (f.transfer target call).tpc = f.tpc := rfl
@[simp] theorem Firing.transfer_tstat (f : Firing) (target : Nat) (call : Bool) : (f.transfer target call).tstat = f.tstat := rfl
@[simp] theorem Firing.transfer_evdl (f : Firing) (target : Nat) (call : Bool) : (f.transfer target call).evdl = f.evdl := rfl
@[simp] theorem Firing.transfer_evDue (f : Firing) (target : Nat) (call : Bool) : (f.transfer target call).evDue = f.evDue := rfl
@[simp] theorem Firing.transfer_evpend (f : Firing) (target : Nat) (call : Bool) : (f.transfer target call).evpend = f.evpend := rfl
@[simp] theorem Firing.transfer_spent (f : Firing) (target : Nat) (call : Bool) : (f.transfer target call).spent = f.spent := rfl
@[simp] theorem Firing.transfer_cursors (f : Firing) (target : Nat) (call : Bool) : (f.transfer target call).cursors = f.cursors := rfl
@[simp] theorem Firing.transfer_staged (f : Firing) (target : Nat) (call : Bool) : (f.transfer target call).staged = f.staged := rfl
@[simp] theorem Firing.transfer_marks (f : Firing) (target : Nat) (call : Bool) : (f.transfer target call).marks = f.marks := rfl
@[simp] theorem Firing.transfer_scales (f : Firing) (target : Nat) (call : Bool) : (f.transfer target call).scales = f.scales := rfl
@[simp] theorem Firing.transfer_journal (f : Firing) (target : Nat) (call : Bool) : (f.transfer target call).journal = f.journal := rfl
@[simp] theorem Firing.transfer_messages (f : Firing) (target : Nat) (call : Bool) : (f.transfer target call).messages = f.messages := rfl
@[simp] theorem Firing.transfer_deferred (f : Firing) (target : Nat) (call : Bool) : (f.transfer target call).deferred = f.deferred := rfl
@[simp] theorem Firing.transfer_seals (f : Firing) (target : Nat) (call : Bool) : (f.transfer target call).seals = f.seals := rfl
@[simp] theorem Firing.transfer_semChanges (f : Firing) (target : Nat) (call : Bool) : (f.transfer target call).semChanges = f.semChanges := rfl
@[simp] theorem Firing.transfer_barChanges (f : Firing) (target : Nat) (call : Bool) : (f.transfer target call).barChanges = f.barChanges := rfl
@[simp] theorem Firing.transfer_haltq (f : Firing) (target : Nat) (call : Bool) : (f.transfer target call).haltq = f.haltq := rfl
@[simp] theorem Firing.transfer_delta (f : Firing) (target : Nat) (call : Bool) : (f.transfer target call).delta = f.delta := rfl
@[simp] theorem Firing.transfer_readyAtStart (f : Firing) (target : Nat) (call : Bool) : (f.transfer target call).readyAtStart = f.readyAtStart := rfl
@[simp] theorem Firing.transfer_bpPassed (f : Firing) (target : Nat) (call : Bool) : (f.transfer target call).bpPassed = f.bpPassed := rfl
@[simp] theorem Firing.transfer_phase (f : Firing) (target : Nat) (call : Bool) : (f.transfer target call).phase = f.phase := rfl
@[simp] theorem Firing.transfer_msgEntry (f : Firing) (target : Nat) (call : Bool) : (f.transfer target call).msgEntry = f.msgEntry := rfl

/-! Firing.writeReg -/

@[simp] theorem Firing.writeReg_slot (f : Firing) (d : Nat) (v : Word64) : (f.writeReg d v).slot = f.slot := by
  unfold Firing.writeReg; (repeat' split) <;> rfl
@[simp] theorem Firing.writeReg_uid (f : Firing) (d : Nat) (v : Word64) : (f.writeReg d v).uid = f.uid := by
  unfold Firing.writeReg; (repeat' split) <;> rfl
@[simp] theorem Firing.writeReg_pc (f : Firing) (d : Nat) (v : Word64) : (f.writeReg d v).pc = f.pc := by
  unfold Firing.writeReg; (repeat' split) <;> rfl
@[simp] theorem Firing.writeReg_vregs (f : Firing) (d : Nat) (v : Word64) : (f.writeReg d v).vregs = f.vregs := by
  unfold Firing.writeReg; (repeat' split) <;> rfl
@[simp] theorem Firing.writeReg_mregs (f : Firing) (d : Nat) (v : Word64) : (f.writeReg d v).mregs = f.mregs := by
  unfold Firing.writeReg; (repeat' split) <;> rfl
@[simp] theorem Firing.writeReg_accs (f : Firing) (d : Nat) (v : Word64) : (f.writeReg d v).accs = f.accs := by
  unfold Firing.writeReg; (repeat' split) <;> rfl
@[simp] theorem Firing.writeReg_levels (f : Firing) (d : Nat) (v : Word64) : (f.writeReg d v).levels = f.levels := by
  unfold Firing.writeReg; (repeat' split) <;> rfl
@[simp] theorem Firing.writeReg_savedLevels (f : Firing) (d : Nat) (v : Word64) : (f.writeReg d v).savedLevels = f.savedLevels := by
  unfold Firing.writeReg; (repeat' split) <;> rfl
@[simp] theorem Firing.writeReg_round (f : Firing) (d : Nat) (v : Word64) : (f.writeReg d v).round = f.round := by
  unfold Firing.writeReg; (repeat' split) <;> rfl
@[simp] theorem Firing.writeReg_fflags (f : Firing) (d : Nat) (v : Word64) : (f.writeReg d v).fflags = f.fflags := by
  unfold Firing.writeReg; (repeat' split) <;> rfl
@[simp] theorem Firing.writeReg_mctl (f : Firing) (d : Nat) (v : Word64) : (f.writeReg d v).mctl = f.mctl := by
  unfold Firing.writeReg; (repeat' split) <;> rfl
@[simp] theorem Firing.writeReg_tvec (f : Firing) (d : Nat) (v : Word64) : (f.writeReg d v).tvec = f.tvec := by
  unfold Firing.writeReg; (repeat' split) <;> rfl
@[simp] theorem Firing.writeReg_tpc (f : Firing) (d : Nat) (v : Word64) : (f.writeReg d v).tpc = f.tpc := by
  unfold Firing.writeReg; (repeat' split) <;> rfl
@[simp] theorem Firing.writeReg_tstat (f : Firing) (d : Nat) (v : Word64) : (f.writeReg d v).tstat = f.tstat := by
  unfold Firing.writeReg; (repeat' split) <;> rfl
@[simp] theorem Firing.writeReg_evdl (f : Firing) (d : Nat) (v : Word64) : (f.writeReg d v).evdl = f.evdl := by
  unfold Firing.writeReg; (repeat' split) <;> rfl
@[simp] theorem Firing.writeReg_evDue (f : Firing) (d : Nat) (v : Word64) : (f.writeReg d v).evDue = f.evDue := by
  unfold Firing.writeReg; (repeat' split) <;> rfl
@[simp] theorem Firing.writeReg_evpend (f : Firing) (d : Nat) (v : Word64) : (f.writeReg d v).evpend = f.evpend := by
  unfold Firing.writeReg; (repeat' split) <;> rfl
@[simp] theorem Firing.writeReg_spent (f : Firing) (d : Nat) (v : Word64) : (f.writeReg d v).spent = f.spent := by
  unfold Firing.writeReg; (repeat' split) <;> rfl
@[simp] theorem Firing.writeReg_cursors (f : Firing) (d : Nat) (v : Word64) : (f.writeReg d v).cursors = f.cursors := by
  unfold Firing.writeReg; (repeat' split) <;> rfl
@[simp] theorem Firing.writeReg_marks (f : Firing) (d : Nat) (v : Word64) : (f.writeReg d v).marks = f.marks := by
  unfold Firing.writeReg; (repeat' split) <;> rfl
@[simp] theorem Firing.writeReg_scales (f : Firing) (d : Nat) (v : Word64) : (f.writeReg d v).scales = f.scales := by
  unfold Firing.writeReg; (repeat' split) <;> rfl
@[simp] theorem Firing.writeReg_journal (f : Firing) (d : Nat) (v : Word64) : (f.writeReg d v).journal = f.journal := by
  unfold Firing.writeReg; (repeat' split) <;> rfl
@[simp] theorem Firing.writeReg_messages (f : Firing) (d : Nat) (v : Word64) : (f.writeReg d v).messages = f.messages := by
  unfold Firing.writeReg; (repeat' split) <;> rfl
@[simp] theorem Firing.writeReg_deferred (f : Firing) (d : Nat) (v : Word64) : (f.writeReg d v).deferred = f.deferred := by
  unfold Firing.writeReg; (repeat' split) <;> rfl
@[simp] theorem Firing.writeReg_seals (f : Firing) (d : Nat) (v : Word64) : (f.writeReg d v).seals = f.seals := by
  unfold Firing.writeReg; (repeat' split) <;> rfl
@[simp] theorem Firing.writeReg_semChanges (f : Firing) (d : Nat) (v : Word64) : (f.writeReg d v).semChanges = f.semChanges := by
  unfold Firing.writeReg; (repeat' split) <;> rfl
@[simp] theorem Firing.writeReg_barChanges (f : Firing) (d : Nat) (v : Word64) : (f.writeReg d v).barChanges = f.barChanges := by
  unfold Firing.writeReg; (repeat' split) <;> rfl
@[simp] theorem Firing.writeReg_haltq (f : Firing) (d : Nat) (v : Word64) : (f.writeReg d v).haltq = f.haltq := by
  unfold Firing.writeReg; (repeat' split) <;> rfl
@[simp] theorem Firing.writeReg_delta (f : Firing) (d : Nat) (v : Word64) : (f.writeReg d v).delta = f.delta := by
  unfold Firing.writeReg; (repeat' split) <;> rfl
@[simp] theorem Firing.writeReg_readyAtStart (f : Firing) (d : Nat) (v : Word64) : (f.writeReg d v).readyAtStart = f.readyAtStart := by
  unfold Firing.writeReg; (repeat' split) <;> rfl
@[simp] theorem Firing.writeReg_bpPassed (f : Firing) (d : Nat) (v : Word64) : (f.writeReg d v).bpPassed = f.bpPassed := by
  unfold Firing.writeReg; (repeat' split) <;> rfl
@[simp] theorem Firing.writeReg_phase (f : Firing) (d : Nat) (v : Word64) : (f.writeReg d v).phase = f.phase := by
  unfold Firing.writeReg; (repeat' split) <;> rfl
@[simp] theorem Firing.writeReg_msgEntry (f : Firing) (d : Nat) (v : Word64) : (f.writeReg d v).msgEntry = f.msgEntry := by
  unfold Firing.writeReg; (repeat' split) <;> rfl

end Sys2Proof.Machine
end

