-- ==== Sys2Proof/Laws/Ops.lean ====
section
/-! SUPPORT. What the shared operations do, said once: places of tiles, slots and registers, reading operands, issuing and completing. -/

namespace Sys2Proof.Machine

/-! ### Tiles, slots and swatches -/

@[simp] theorem State.tile_setTile_self (s : State) (t : Nat) (x : Tile) : (s.setTile t x).tile t = x := Map.get_set_self ..

theorem State.tile_setTile_ne (s : State) {t u : Nat} (x : Tile) (h : t ≠ u) : (s.setTile t x).tile u = s.tile u :=
  Map.get_set_ne _ _ _ h

theorem State.tile_setTile (s : State) (t u : Nat) (x : Tile) : (s.setTile t x).tile u = if t = u then x else s.tile u :=
  Map.get_set ..

@[simp] theorem State.tile_modTile_self (s : State) (t : Nat) (g : Tile → Tile) : (s.modTile t g).tile t = g (s.tile t) :=
  Map.get_set_self ..

theorem State.tile_modTile_ne (s : State) {t u : Nat} (g : Tile → Tile) (h : t ≠ u) : (s.modTile t g).tile u = s.tile u :=
  Map.get_set_ne _ _ _ h

theorem State.tile_modTile (s : State) (t u : Nat) (g : Tile → Tile) : (s.modTile t g).tile u = if t = u then g (s.tile t) else s.tile u :=
  Map.get_set ..

@[simp] theorem Tile.slot_setSlot_self (x : Tile) (k : Nat) (v : Slot) : (x.setSlot k v).slot k = v := Map.get_set_self ..

theorem Tile.slot_setSlot_ne (x : Tile) {k j : Nat} (v : Slot) (h : k ≠ j) : (x.setSlot k v).slot j = x.slot j := Map.get_set_ne _ _ _ h

@[simp] theorem Tile.slot_modSlot_self (x : Tile) (k : Nat) (g : Slot → Slot) : (x.modSlot k g).slot k = g (x.slot k) := Map.get_set_self ..

theorem Tile.slot_modSlot_ne (x : Tile) {k j : Nat} (g : Slot → Slot) (h : k ≠ j) : (x.modSlot k g).slot j = x.slot j :=
  Map.get_set_ne _ _ _ h

@[simp] theorem State.slot_modSlot_self (s : State) (t k : Nat) (g : Slot → Slot) : (s.modSlot t k g).slot t k = g (s.slot t k) := by
  simp [State.slot, State.modSlot]

@[simp] theorem Tile.entry_setEntry_self (x : Tile) (i : Nat) (e : InboxEntry) : (x.setEntry i e).entry i = e := Map.get_set_self ..

theorem Tile.entry_setEntry_ne (x : Tile) {i j : Nat} (e : InboxEntry) (h : i ≠ j) : (x.setEntry i e).entry j = x.entry j :=
  Map.get_set_ne _ _ _ h

@[simp] theorem Tile.stream_setStream_self (x : Tile) (k : Nat) (r : Words) : (x.setStream k r).stream k = r := Map.get_set_self ..

@[simp] theorem State.swatch_setSwatch_self (s : State) (n : Nat) (w : Swatch) : (s.setSwatch n w).swatch n = w := Map.get_set_self ..

theorem State.swatch_setSwatch_ne (s : State) {n m : Nat} (w : Swatch) (h : n ≠ m) : (s.setSwatch n w).swatch m = s.swatch m :=
  Map.get_set_ne _ _ _ h

@[simp] theorem State.swatch_modSwatch_self (s : State) (n : Nat) (g : Swatch → Swatch) : (s.modSwatch n g).swatch n = g (s.swatch n) :=
  Map.get_set_self ..

@[simp] theorem State.tile_setSwatch (s : State) (n t : Nat) (w : Swatch) : (s.setSwatch n w).tile t = s.tile t := rfl

@[simp] theorem State.tile_modSwatch (s : State) (n t : Nat) (g : Swatch → Swatch) : (s.modSwatch n g).tile t = s.tile t := rfl

@[simp] theorem State.tile_send (s : State) (p : Packet) (t : Nat) : (s.send p).tile t = s.tile t := rfl

@[simp] theorem State.swatch_setTile (s : State) (t n : Nat) (x : Tile) : (s.setTile t x).swatch n = s.swatch n := rfl

@[simp] theorem State.swatch_modTile (s : State) (t n : Nat) (g : Tile → Tile) : (s.modTile t g).swatch n = s.swatch n := rfl

@[simp] theorem State.setTile_setTile (s : State) (t : Nat) (x y : Tile) : ((s.setTile t x).setTile t y).tile t = y := by simp

/-! ### Registers (R35, R86, R226) -/

@[simp] theorem Firing.sreg_zero (f : Firing) : f.sreg 0 = 0 := rfl

theorem Firing.sreg_writeReg_self (f : Firing) (d : Nat) (v : Word64) (h0 : d ≠ 0) (h : d < 24) : (f.writeReg d v).sreg d = v := by
  simp [Firing.writeReg, Firing.sreg, h0, h]

theorem Firing.sreg_writeReg_ne (f : Firing) {d r : Nat} (v : Word64) (h : r ≠ d) : (f.writeReg d v).sreg r = f.sreg r := by
  unfold Firing.writeReg
  split
  · rfl
  · split
    · simp only [Firing.sreg, Map.get_set_ne _ _ _ (Ne.symm h)]
    · rfl

/-- A result for s0 is discarded. -/
theorem Firing.writeReg_zero (f : Firing) (v : Word64) : f.writeReg 0 v = f := rfl

/-- A result for a q register is staged on its port. -/
theorem Firing.writeReg_port (f : Firing) (d : Nat) (v : Word64) (h : 24 ≤ d) : f.writeReg d v = f.stage (d - 24) [v.truncate 32] := by
  simp [Firing.writeReg, show d ≠ 0 by omega, show ¬ d < 24 by omega]


@[simp] theorem Firing.vreg_writeV_self (f : Firing) (d : Nat) (v : Lanes) : (f.writeV d v).vreg d = v := Map.get_set_self ..

theorem Firing.vreg_writeV_ne (f : Firing) {d i : Nat} (v : Lanes) (h : d ≠ i) : (f.writeV d v).vreg i = f.vreg i := Map.get_set_ne _ _ _ h

/-! ### Reading operands (R35, R115, R116) -/

@[simp] theorem State.ctxOf_slot (s : State) (f : Firing) : (s.ctxOf f).slot = s.actor f := rfl

theorem readable_of (s : State) (f : Firing) (ws : List (Nat × Nat)) (h : Readable s f ws) : readable (s.ctxOf f) ws = .ok () := by
  have h1 : (ws.any fun w => badWindow (s.actor f) w.1 w.2) = false := List.any_eq_false.2 fun w hw => by simp [(h w hw).1]
  have h2 : (ws.find? fun w => !isPresent (s.actor f) w.1 w.2) = none := List.find?_eq_none.2 fun w hw => by simp [(h w hw).2.1]
  have h3 : (ws.find? fun w => isVoidWord (s.actor f) w.1 w.2) = none := List.find?_eq_none.2 fun w hw => by simp [(h w hw).2.2]
  simp [readable, h1, h2, h3]

/-- Source fields that can be read are read: their values, and the cursors past them. -/
theorem readSrcs_of (s : State) (f : Firing) (srcs : List Nat) (dst : Option Nat) (h : Reads s f srcs) (hd : ∀ d ∈ dst, Accepts s f d) :
    readSrcs (s.ctxOf f) srcs dst = .ok (srcValues f (s.actor f) srcs f.cursors, s.ctxOf (f.pastReads srcs)) := by
  have h1 : ((portReads srcs f.cursors).any fun w => badWindow (s.actor f) w.1 w.2) = false :=
    List.any_eq_false.2 fun w hw => by simp [(h w hw).1]
  have h2 : dst.any (badDest (s.ctxOf f)) = false := by
    cases dst with
    | none => rfl
    | some d => exact hd d rfl
  have h3 := readable_of s f _ h
  unfold readSrcs
  simp only [State.ctxOf_slot, show (s.ctxOf f).f = f from rfl, h1, h2, h3, Bool.or_self, Bool.false_eq_true, if_false]
  rfl

/-! ### Issuing -/

/-- An instruction that issues has the outcome of its body. -/
theorem issueThen_of (s : State) (f : Firing) (len : Nat) (body : Ctx → Res Ctx) (after : State → State) (h : Issues s f len) :
    issueThen s len body after =
      match body (s.ctxOf f) with
      | .ok c => .next (after c.retire)
      | .error (.fault cause unit_ detail) => .next (s.takeFault s.focus cause unit_ detail)
      | .error (.badWord w unit_ detail) => .next (s.takeBadWord s.focus w unit_ detail)
      | .error (.failed s' cause unit_ detail) => .next (s'.takeFault s.focus cause unit_ detail)
      | .error (.wait w) => .next (s.setWaiting s.focus f w)
      | .error (.void p k) => .next (s.voidCommit s.focus (some (p, k))) := by
  have h2 : ¬ (s.slot s.focus f.slot).budget * 256 ≤ f.spent := Nat.not_le.2 h.budget
  have h3 : ¬ (len = 8 ∧ (f.levels.head?.any fun l => l.le == f.pc) = true) := by
    rintro ⟨h8, ha⟩
    obtain ⟨l, hl, he⟩ : ∃ l, f.levels.head? = some l ∧ l.le = f.pc := by
      cases hh : f.levels.head? with
      | none => simp [hh] at ha
      | some l => exact ⟨l, rfl, by simpa [hh] using ha⟩
    exact h.straddle h8 l hl he
  unfold issueThen
  simp only [h.firing, h.running, if_true, if_neg h2, if_neg h3]
  rfl

/-- Everything an instruction that answers a next state can have come to (R91, R94, R106, R116, R165, R185). -/
theorem issueThen_next (s t : State) (len : Nat) (body : Ctx → Res Ctx) (after : State → State) (h : issueThen s len body after = .next t) :
    ∃ f, (s.tile s.focus).firing = some f ∧ f.phase = .running ∧
      (t = s.overBudget s.focus ∨ t = s.takeFault s.focus 0x01 0 f.pc ∨
        (∃ c, body (s.ctxOf f) = .ok c ∧ t = after c.retire) ∨
        (∃ cause unit_ detail, body (s.ctxOf f) = .error (.fault cause unit_ detail) ∧ t = s.takeFault s.focus cause unit_ detail) ∨
        (∃ w unit_ detail, body (s.ctxOf f) = .error (.badWord w unit_ detail) ∧ t = s.takeBadWord s.focus w unit_ detail) ∨
        (∃ s' cause unit_ detail, body (s.ctxOf f) = .error (.failed s' cause unit_ detail) ∧ t = s'.takeFault s.focus cause unit_ detail) ∨
        (∃ w, body (s.ctxOf f) = .error (.wait w) ∧ t = s.setWaiting s.focus f w) ∨
        ∃ p k, body (s.ctxOf f) = .error (.void p k) ∧ t = s.voidCommit s.focus (some (p, k))) := by
  unfold issueThen at h
  split at h
  · cases h
  · next f hf =>
    split at h
    · next hr =>
      refine ⟨f, hf, hr, ?_⟩
      split at h
      · exact .inl (Host.Outcome.next.inj h).symm
      · split at h
        · exact .inr (.inl (Host.Outcome.next.inj h).symm)
        · refine .inr (.inr ?_)
          change (match body (s.ctxOf f) with
            | .ok c => Host.Outcome.next (after c.retire)
            | .error (.fault cause unit_ detail) => .next (s.takeFault s.focus cause unit_ detail)
            | .error (.badWord w unit_ detail) => .next (s.takeBadWord s.focus w unit_ detail)
            | .error (.failed s' cause unit_ detail) => .next (s'.takeFault s.focus cause unit_ detail)
            | .error (.wait w) => .next (s.setWaiting s.focus f w)
            | .error (.void p k) => .next (s.voidCommit s.focus (some (p, k)))) = .next t at h
          split at h <;> have h' := (Host.Outcome.next.inj h).symm
          · next c hb => exact .inl ⟨c, hb, h'⟩
          · next a b c hb => exact .inr (.inl ⟨a, b, c, hb, h'⟩)
          · next a b c hb => exact .inr (.inr (.inl ⟨a, b, c, hb, h'⟩))
          · next a b c d hb => exact .inr (.inr (.inr (.inl ⟨a, b, c, d, hb, h'⟩)))
          · next w hb => exact .inr (.inr (.inr (.inr (.inl ⟨w, hb, h'⟩))))
          · next p k hb => exact .inr (.inr (.inr (.inr (.inr ⟨p, k, hb, h'⟩))))
    · cases h

/-- An instruction that issues and whose body completes answers the completed state. -/
theorem coreOp_of (s : State) (f : Firing) (len : Nat) (body : Ctx → Res Ctx) (c : Ctx) (h : Issues s f len)
    (hb : body (s.ctxOf f) = .ok c) : coreOp s len body = .next c.retire := by
  rw [coreOp, issueThen_of s f len body _ h, hb]

/-- An instruction that issues and whose body raises a fault takes it (R185). -/
theorem coreOp_fault (s : State) (f : Firing) (len : Nat) (body : Ctx → Res Ctx) (cause unit_ detail : Nat) (h : Issues s f len)
    (hb : body (s.ctxOf f) = .error (.fault cause unit_ detail)) : coreOp s len body = .next (s.takeFault s.focus cause unit_ detail) := by
  rw [coreOp, issueThen_of s f len body _ h, hb]

/-- A scalar form whose operands can be read writes its result and completes. -/
theorem scalarOp_of (s : State) (f : Firing) (srcs : List Nat) (d : Nat) (op : Ctx → List Word64 → Res Word64) (v : Word64)
    (h : Issues s f 4) (hs : Reads s f srcs) (hd : Accepts s f d)
    (hv : op (s.ctxOf f) (srcValues f (s.actor f) srcs f.cursors) = .ok v) : scalarOp s srcs d op = .next (s.wrote f srcs d v) := by
  refine coreOp_of s f 4 _ _ h ?_
  simp only [readSrcs_of s f srcs (some d) hs fun d' hd' => by cases hd'; exact hd, bind, Except.bind, hv]
  rfl

/-- With the debugger not stepping, completion counts its tc and leaves the rest of the machine alone. -/
theorem State.after_eq (s : State) (x : Tile) (f : Firing)
    (hstep : bitField (x.cword 0x400) 0 1 ≠ 1 ∨ bitField (x.cword 0x400) 3 1 ≠ 1) :
    s.after x f = s.setTile s.focus { x with
      cycles := (x.cycles + 1 + Config.stall s.tick s.focus) % 2 ^ 64, firing := some { f with spent := f.spent + 1 + Config.stall s.tick s.focus, bpPassed := false } } := by
  unfold State.after Ctx.retire
  simp only
  rw [if_neg]
  rintro ⟨_, h1, h2⟩
  rcases hstep with h | h
  · exact h h1
  · exact h h2

end Sys2Proof.Machine
end

