-- ==== Sys2Proof/Laws/Order.lean ====
section
/-! SUPPORT. Places in a service order: what one may cite of Stamp, readPlace and Order.newStamp in place of unfolding them. -/

namespace Sys2Proof.Machine

theorem Stamp.lt_iff (a b : Stamp) : a.lt b = true ↔ a.num * 2 ^ b.exp < b.num * 2 ^ a.exp := decide_eq_true_iff

theorem Stamp.lt_irrefl (a : Stamp) : a.lt a = false := by simp [Stamp.lt]

theorem Stamp.lt_trans {a b c : Stamp} (h : a.lt b = true) (k : b.lt c = true) : a.lt c = true := by
  rw [Stamp.lt_iff] at *
  have hb : 0 < 2 ^ b.exp := Nat.two_pow_pos _
  refine Nat.lt_of_mul_lt_mul_right (a := 2 ^ b.exp) ?_
  calc a.num * 2 ^ c.exp * 2 ^ b.exp = a.num * 2 ^ b.exp * 2 ^ c.exp := by ac_rfl
    _ < b.num * 2 ^ a.exp * 2 ^ c.exp := Nat.mul_lt_mul_of_pos_right h (Nat.two_pow_pos _)
    _ = b.num * 2 ^ c.exp * 2 ^ a.exp := by ac_rfl
    _ < c.num * 2 ^ b.exp * 2 ^ a.exp := Nat.mul_lt_mul_of_pos_right k (Nat.two_pow_pos _)
    _ = c.num * 2 ^ a.exp * 2 ^ b.exp := by ac_rfl

/-- A place that neither stands before nor after is passed on by the order. -/
theorem Stamp.lt_of_not_lt {a b c : Stamp} (h : b.lt a = false) (k : b.lt c = true) : a.lt c = true := by
  rw [Stamp.lt_iff] at *
  have h' : a.num * 2 ^ b.exp ≤ b.num * 2 ^ a.exp := by simpa [Stamp.lt] using h
  refine Nat.lt_of_mul_lt_mul_right (a := 2 ^ b.exp) ?_
  calc a.num * 2 ^ c.exp * 2 ^ b.exp = a.num * 2 ^ b.exp * 2 ^ c.exp := by ac_rfl
    _ ≤ b.num * 2 ^ a.exp * 2 ^ c.exp := Nat.mul_le_mul_right _ h'
    _ = b.num * 2 ^ c.exp * 2 ^ a.exp := by ac_rfl
    _ < c.num * 2 ^ b.exp * 2 ^ a.exp := Nat.mul_lt_mul_of_pos_right k (Nat.two_pow_pos _)
    _ = c.num * 2 ^ a.exp * 2 ^ b.exp := by ac_rfl

theorem Stamp.max_not_lt_left (a b : Stamp) : (a.max b).lt a = false := by
  unfold Stamp.max
  split
  · rename_i h
    rw [Stamp.lt_iff] at h
    simpa [Stamp.lt] using Nat.le_of_lt h
  · exact a.lt_irrefl

theorem Stamp.max_not_lt_right (a b : Stamp) : (a.max b).lt b = false := by
  unfold Stamp.max
  split
  · exact b.lt_irrefl
  · simp_all

/-- A place later than every other there is. -/
theorem Stamp.lt_next (a : Stamp) : a.lt a.next = true := by
  simp only [Stamp.lt, Stamp.next, Nat.pow_zero, Nat.mul_one, decide_eq_true_eq]
  exact Nat.lt_mul_of_div_lt (Nat.lt_succ_self _) (Nat.two_pow_pos _)

/-- The place between two stands after what neither stands before and one of them stands after. -/
theorem Stamp.lt_mid {f a b : Stamp} (h : a.lt f = false) (k : f.lt b = true) : f.lt (a.mid b) = true := by
  have h' : f.num * 2 ^ a.exp ≤ a.num * 2 ^ f.exp := by simpa [Stamp.lt] using h
  rw [Stamp.lt_iff] at *
  obtain ⟨i, hi⟩ : ∃ i, Nat.max a.exp b.exp = a.exp + i := Nat.exists_eq_add_of_le (Nat.le_max_left _ _)
  obtain ⟨j, hj⟩ : ∃ j, Nat.max a.exp b.exp = b.exp + j := Nat.exists_eq_add_of_le (Nat.le_max_right _ _)
  have e1 : Nat.max a.exp b.exp - a.exp = i := by omega
  have e2 : Nat.max a.exp b.exp - b.exp = j := by omega
  simp only [Stamp.mid, e1, e2, Nat.pow_succ]
  have p1 : (2 : Nat) ^ Nat.max a.exp b.exp = 2 ^ a.exp * 2 ^ i := by rw [hi, Nat.pow_add]
  have p2 : (2 : Nat) ^ Nat.max a.exp b.exp = 2 ^ b.exp * 2 ^ j := by rw [hj, Nat.pow_add]
  have l1 : f.num * 2 ^ Nat.max a.exp b.exp ≤ a.num * 2 ^ i * 2 ^ f.exp := by
    calc f.num * 2 ^ Nat.max a.exp b.exp = f.num * 2 ^ a.exp * 2 ^ i := by rw [p1]; ac_rfl
      _ ≤ a.num * 2 ^ f.exp * 2 ^ i := Nat.mul_le_mul_right _ h'
      _ = a.num * 2 ^ i * 2 ^ f.exp := by ac_rfl
  have l2 : f.num * 2 ^ Nat.max a.exp b.exp < b.num * 2 ^ j * 2 ^ f.exp := by
    calc f.num * 2 ^ Nat.max a.exp b.exp = f.num * 2 ^ b.exp * 2 ^ j := by rw [p2]; ac_rfl
      _ < b.num * 2 ^ f.exp * 2 ^ j := Nat.mul_lt_mul_of_pos_right k (Nat.two_pow_pos _)
      _ = b.num * 2 ^ j * 2 ^ f.exp := by ac_rfl
  calc f.num * (2 ^ Nat.max a.exp b.exp * 2) = f.num * 2 ^ Nat.max a.exp b.exp + f.num * 2 ^ Nat.max a.exp b.exp 
      := by rw [← Nat.mul_assoc, Nat.mul_two]
    _ < a.num * 2 ^ i * 2 ^ f.exp + b.num * 2 ^ j * 2 ^ f.exp := Nat.add_lt_add_of_le_of_lt l1 l2
    _ = (a.num * 2 ^ i + b.num * 2 ^ j) * 2 ^ f.exp := (Nat.add_mul ..).symm

/-- A write that must come after a floor does, whatever it comes before. -/
theorem Order.newStamp_after (o : Order) (floor : Stamp) (node c : Nat) : floor.lt (o.newStamp floor node c) = true := by
  have hnext : floor.lt (floor.max o.last).next = true :=
    Stamp.lt_of_not_lt (floor.max_not_lt_left o.last) (floor.max o.last).lt_next
  have hall : ∀ p ∈ (o.hist.filter fun e => e.node == node && floor.lt e.stamp).map (·.stamp), floor.lt p = true := by
    intro p hp
    obtain ⟨e, he, rfl⟩ := List.mem_map.1 hp
    simpa using (List.mem_filter.1 he).2 |> fun h => (Bool.and_eq_true _ _ ▸ h).2
  have hasym : ∀ p, floor.lt p = true → p.lt floor = false := by
    intro p hp
    rw [Stamp.lt_iff] at hp
    simpa [Stamp.lt] using Nat.le_of_lt hp
  unfold Order.newStamp
  generalize (o.hist.filter fun e => e.node == node && floor.lt e.stamp).map (·.stamp) = l at hall ⊢
  dsimp only
  split
  · exact hnext
  · split
    · exact hnext
    · rename_i next rest hd
      refine Stamp.lt_mid ?_ (hall next (List.mem_of_mem_drop (hd ▸ List.mem_cons_self)))
      cases hb : (l.take (l.length - c % (l.length + 1))).getLast? with
      | none => exact floor.lt_irrefl
      | some p => exact hasym p (hall p (List.mem_of_mem_take (List.mem_of_getLast? hb)))

/-- A read stands at its floor or right after a write that stands after it. -/
theorem readPlace_mem (l : List Stamp) (floor : Stamp) (c : Nat) : readPlace l floor c = floor ∨ readPlace l floor c ∈ l := by
  unfold readPlace
  split
  · exact .inl rfl
  · cases h : (l.take (l.length - c % (l.length + 1))).getLast? with
    | none => exact .inl rfl
    | some p => exact .inr (List.mem_of_mem_take (List.mem_of_getLast? h))

/-- A read that no unordered write stands after finds its floor. -/
@[simp] theorem readPlace_nil (floor : Stamp) (c : Nat) : readPlace [] floor c = floor := rfl

end Sys2Proof.Machine
end

