-- ==== Sys2Proof/Tests/Slice0.lean ====
section
/-! SUPPORT. Small checks of the model. The words of the decode tests are put together from the encodings of the spec, and every expected value
is one that the spec prints or that was worked out by hand from its rule. The witnesses at the end meet the hypotheses of the statements of
Certificates/Slice0/Obligations.lean, clause by clause. -/

namespace Sys2Proof.Tests

open Sys2Proof.Machine

set_option maxRecDepth 100000

/-! ### Decoding -/

/-- Each word of a list decodes to the instruction beside it. -/
def decodesAll (l : List (Nat × Nat × Instr)) : Bool :=
  l.all fun e => match decodeWords e.1 e.2.1 with
    | .ok i => decide (i = e.2.2)
    | .error _ => false

/-- Words of the groups written out bit by bit from their encodings: the fields of R37 and R43 to R57 in their order. -/
theorem test_decodeBits1 : decodesAll [
    (0b000000_00000_00000_000000010001_0001, 0, .trap 17),
    (0b000000_00111_00000_000000010001_0100, 0, .cwr 7 0x011),
    (0b000001_00011_00001_00010_00000000000, 0, .add 3 1 2),
    (0b000001_00011_00001_00000_00000110010, 0, .popc 3 1),
    (0b000010_00101_00100_1111111111111111, 0, .addi 5 4 0xFFFF),
    (0b001001_00001_00010_0010_000000_111111, 0, .srai 1 2 63),
    (0b001010_00001_00010_01_00_000100_000111, 0, .insr 1 2 4 7),
    (0b001010_00001_00010_10_011_00101_000000, 0, .addsh 1 2 3 5),
    (0b001101_00001_00010_1111111111111110, 0, .bne 1 2 0xFFFE),
    (0b010010_11111111111111111111111111, 0, .jal 0x3FFFFFF),
    (0b010100_00000_00011_0000000000000100, 0, .loop 3 4),
    (0b010101_00001_00010_101_1111111111100, 0, .ldsWn 1 2 0x1FFC),
    (0b010110_00001_00010_110_0000000001000, 0, .stsD 1 2 8)] = true := by decide

/-- Words of the groups written out bit by bit from their encodings: the fields of R37 and R43 to R57 in their order. -/
theorem test_decodeBits2 : decodesAll [
    (0b010111_00001_00010_100_00011_010_1_00_01, 0, .vldx 1 2 3 2 true 1),
    (0b011000_00001_00010_001_0000000000100, 0, .vsts 1 2 4),
    (0b011010_00001_00010_00011_00000000010, 0, .peek 1 2 3),
    (0b011011_00001_00010_00000_00000000111, 0, .scope 1 2),
    (0b100000_00001_00010_00011_001_0_01_00000, 0, .vfadd 1 2 3 1 false .f16),
    (0b100001_00001_00010_00011_010_1_10_00100, 0, .vmulhN 1 2 3 2 true .w8),
    (0b100010_00001_00010_00011_00100_01_000_0, 0, .vfmsV4 1 2 3 4 0 false),
    (0b100011_00001_00010_00011_101_0_00_01000, 0, .vsel 1 2 3 5),
    (0b100100_00001_00010_00101_000_0_0010100, 0, .vpkE2m1 1 2 5 0 false),
    (0b100101_00001_00010_00000_000_0_10_00001, 0, .vrmin 1 2 0 .n32),
    (0b100110_00001_00010_01111_000_0_0000011, 0, .vslided 1 2 15 0 false),
    (0b100111_00001_00010_00111_000_0_0000011, 0, .vext 1 2 7),
    (0b101100_00_011_000_00100_0000000000000, 0, .mshape 3 4)] = true := by decide

/-- Words of the groups written out bit by bit from their encodings: the fields of R37 and R43 to R57 in their order. -/
theorem test_decodeBits3 : decodesAll [
    (0b101101_00_011_000_00100_0000000000001, 0, .mldT 3 4),
    (0b101110_10_011_100_00000_0000000000001, 0, .mmaS 2 3 4),
    (0b101111_10_000_000_00100_000000_0100_001, 0, .mdrain 2 4 .e5m2),
    (0b110100_00001_00010_00000_00000000010, 0, .sstat 1 2),
    (0b110101_00000_00010_00011_00000000001, 0, .semdec 2 3),
    (0b110110_00001_00010_00011_00000000010, 0, .arrivedrop 1 2 3),
    (0b111000_00001_00010_01_01_1000_00000000, 0x12345678, .scfg 1 2 .dst .dram .i8 0x12345678),
    (0b111001_00001_00010_11_00000000000000, 0xFFFFFFFC, .sdim 1 2 3 0xFFFFFFFC),
    (0b111010_00001_00010_00011_00000000000, 7, .copy 1 2 3 7),
    (0b111011_00001_00010_00011_000_0_010_0111, 9, .acas 1 2 3 .w32 9),
    (0b111011_00001_00010_00000_000_1_011_0100, 9, .amin 1 2 true .w64 9),
    (0b111100_00001_00010_0000000000000101, 0x1000, .send 1 2 5 0x1000)] = true := by decide

/-- Words of every form of the family, put together from the masks and patterns of spec/opcode_table.json (R34 to R57). -/
theorem test_decodeSys : decodesAll [
    (0x000007F1, 0, .trap 127),
    (0x00000002, 0, .tret),
    (0x000007F3, 0, .brk 127),
    (0x02A004F4, 0, .cwr 21 79),
    (0x000A04F5, 0, .cww 10 79),
    (0x02AA0006, 0, .waitev 21 10),
    (0x02A00007, 0, .rdcyc 21),
    (0x00000008, 0, .haltq)] = true := by decide

/-- Words of every form of the family, put together from the masks and patterns of spec/opcode_table.json (R34 to R57). -/
theorem test_decodeSop1 : decodesAll [
    (0x06AA6800, 0, .add 21 10 13),
    (0x06AA6801, 0, .sub 21 10 13),
    (0x06AA6802, 0, .and 21 10 13),
    (0x06AA6803, 0, .or 21 10 13),
    (0x06AA6804, 0, .xor 21 10 13),
    (0x06AA6805, 0, .andn 21 10 13),
    (0x06AA6806, 0, .orn 21 10 13),
    (0x06AA6807, 0, .xnor 21 10 13),
    (0x06AA6808, 0, .sll 21 10 13),
    (0x06AA6809, 0, .srl 21 10 13),
    (0x06AA680A, 0, .sra 21 10 13),
    (0x06AA680B, 0, .rol 21 10 13),
    (0x06AA680C, 0, .ror 21 10 13),
    (0x06AA6810, 0, .slt 21 10 13),
    (0x06AA6811, 0, .sltn 21 10 13),
    (0x06AA6812, 0, .min 21 10 13),
    (0x06AA6813, 0, .max 21 10 13),
    (0x06AA6814, 0, .minn 21 10 13),
    (0x06AA6815, 0, .maxn 21 10 13),
    (0x06AA6818, 0, .addw 21 10 13)] = true := by decide

/-- Words of every form of the family, put together from the masks and patterns of spec/opcode_table.json (R34 to R57). -/
theorem test_decodeSop2 : decodesAll [
    (0x06AA6819, 0, .subw 21 10 13),
    (0x06AA6820, 0, .mul 21 10 13),
    (0x06AA6821, 0, .mulh 21 10 13),
    (0x06AA6822, 0, .mulhn 21 10 13),
    (0x06AA6824, 0, .div 21 10 13),
    (0x06AA6825, 0, .divn 21 10 13),
    (0x06AA6826, 0, .rem 21 10 13),
    (0x06AA6827, 0, .remn 21 10 13),
    (0x06AA0030, 0, .clz 21 10),
    (0x06AA0031, 0, .ctz 21 10),
    (0x06AA0032, 0, .popc 21 10),
    (0x06AA0033, 0, .bswap 21 10),
    (0x06AA0034, 0, .sextI8 21 10),
    (0x06AA0035, 0, .sextI16 21 10),
    (0x06AA0036, 0, .sextI32 21 10),
    (0x06AA0038, 0, .zextN8 21 10),
    (0x06AA0039, 0, .zextN16 21 10),
    (0x06AA003A, 0, .zextN32 21 10)] = true := by decide

/-- Words of every form of the family, put together from the masks and patterns of spec/opcode_table.json (R34 to R57). -/
theorem test_decodeImmediates : decodesAll [
    (0x0AAA8001, 0, .addi 21 10 0x8001),
    (0x0EAA8001, 0, .andi 21 10 0x8001),
    (0x12AA8001, 0, .ori 21 10 0x8001),
    (0x16AA8001, 0, .xori 21 10 0x8001),
    (0x1AAA8001, 0, .slti 21 10 0x8001),
    (0x1EAA8001, 0, .sltin 21 10 0x8001),
    (0x22AA8001, 0, .lih 21 10 0x8001),
    (0x26AA0021, 0, .slli 21 10 33),
    (0x26AA1021, 0, .srli 21 10 33),
    (0x26AA2021, 0, .srai 21 10 33),
    (0x26AA3021, 0, .rori 21 10 33),
    (0x2AAA0189, 0, .extr 21 10 6 9),
    (0x2AAA4189, 0, .insr 21 10 6 9),
    (0x2AAAAB40, 0, .addsh 21 10 5 13)] = true := by decide

/-- Words of every form of the family, put together from the masks and patterns of spec/opcode_table.json (R34 to R57). -/
theorem test_decodeControl : decodesAll [
    (0x314D8005, 0, .beq 10 13 0x8005),
    (0x354D8005, 0, .bne 10 13 0x8005),
    (0x394D8005, 0, .blt 10 13 0x8005),
    (0x3D4D8005, 0, .bge 10 13 0x8005),
    (0x414D8005, 0, .bltn 10 13 0x8005),
    (0x454D8005, 0, .bgen 10 13 0x8005),
    (0x4A000005, 0, .jal 0x2000005),
    (0x4EAA8001, 0, .jalr 21 10 0x8001),
    (0x500A0009, 0, .loop 10 9)] = true := by decide

/-- Words of every form of the family, put together from the masks and patterns of spec/opcode_table.json (R34 to R57). -/
theorem test_decodeLocal : decodesAll [
    (0x56AA1005, 0, .ldsB 21 10 0x1005),
    (0x56AA3005, 0, .ldsBn 21 10 0x1005),
    (0x56AA5005, 0, .ldsH 21 10 0x1005),
    (0x56AA7005, 0, .ldsHn 21 10 0x1005),
    (0x56AA9005, 0, .ldsW 21 10 0x1005),
    (0x56AAB005, 0, .ldsWn 21 10 0x1005),
    (0x56AAD005, 0, .ldsD 21 10 0x1005),
    (0x5AAA1005, 0, .stsB 21 10 0x1005),
    (0x5AAA5005, 0, .stsH 21 10 0x1005),
    (0x5AAA9005, 0, .stsW 21 10 0x1005),
    (0x5AAAD005, 0, .stsD 21 10 0x1005),
    (0x5EAA1005, 0, .vld 21 10 0x1005),
    (0x5EAA3005, 0, .vlds 21 10 0x1005),
    (0x5EAA5005, 0, .vldz 21 10 0x1005),
    (0x5EAA7005, 0, .vldb 21 10 0x1005),
    (0x5EAA8DB3, 0, .vldx 21 10 13 5 true 3),
    (0x62AA1005, 0, .vst 21 10 0x1005),
    (0x62AA3005, 0, .vsts 21 10 0x1005),
    (0x62AA5005, 0, .vstz 21 10 0x1005),
    (0x62AA8DA3, 0, .vstx 21 10 13 5 3)] = true := by decide

/-- Words of every form of the family, put together from the masks and patterns of spec/opcode_table.json (R34 to R57). -/
theorem test_decodePorts1 : decodesAll [
    (0x6AA03000, 0, .pcnt 21 6),
    (0x6AA03001, 0, .pfree 21 6),
    (0x6AAA3002, 0, .peek 21 10 6),
    (0x680A3003, 0, .pskip 10 6),
    (0x6AA03004, 0, .vtake 21 6),
    (0x680A3005, 0, .vput 10 6),
    (0x6AA03006, 0, .pscale 21 6),
    (0x680A3007, 0, .pscalew 10 6),
    (0x68003008, 0, .pmark 6),
    (0x6AA03009, 0, .pismark 21 6),
    (0x6AA0100A, 0, .gauge 21 2),
    (0x6AA0100B, 0, .nptr 21 2),
    (0x6AA0000C, 0, .fctr 21),
    (0x6C000000, 0, .endF),
    (0x6C000001, 0, .voidf),
    (0x6C000002, 0, .aborts),
    (0x6EAA0003, 0, .jstW 21 10),
    (0x6EAA0004, 0, .jstD 21 10),
    (0x6EA03005, 0, .taken 21 6),
    (0x6EA03006, 0, .made 21 6)] = true := by decide

/-- Words of every form of the family, put together from the masks and patterns of spec/opcode_table.json (R34 to R57). -/
theorem test_decodePorts2 : decodesAll [
    (0x6EAA0007, 0, .scope 21 10),
    (0x6C0A0008, 0, .seal 10),
    (0x6EA00009, 0, .ordinal 21)] = true := by decide

/-- Words of every form of the family, put together from the masks and patterns of spec/opcode_table.json (R34 to R57). -/
theorem test_decodeVectorFloat : decodesAll [
    (0x82AA6DC0, 0, .vfadd 21 10 13 5 true .bf16),
    (0x82AA6D81, 0, .vfsub 21 10 13 5 true .f32),
    (0x82AA6DA2, 0, .vfmul 21 10 13 5 true .f16),
    (0x82AA6DC3, 0, .vfdiv 21 10 13 5 true .bf16),
    (0x82AA0584, 0, .vfsqrt 21 10 5 true .f32),
    (0x82AA6DA5, 0, .vfmin 21 10 13 5 true .f16),
    (0x82AA6DC6, 0, .vfmax 21 10 13 5 true .bf16),
    (0x82AA0587, 0, .vfabs 21 10 5 true .f32),
    (0x82AA05A8, 0, .vfneg 21 10 5 true .f16),
    (0x82AA05C9, 0, .vfclass 21 10 5 true .bf16),
    (0x82AA6D8A, 0, .vfmaVfp 21 10 13 5 true .f32),
    (0x82AA6DAB, 0, .vfmsVfp 21 10 13 5 true .f16),
    (0x82AA6DCC, 0, .vfnmaVfp 21 10 13 5 true .bf16),
    (0x82AA6D8D, 0, .vfnmsVfp 21 10 13 5 true .f32),
    (0x8AAA688B, 0, .vfmaV4 21 10 13 2 5 true),
    (0x8AAA689B, 0, .vfmsV4 21 10 13 2 5 true),
    (0x8AAA68AB, 0, .vfnmaV4 21 10 13 2 5 true),
    (0x8AAA68BB, 0, .vfnmsV4 21 10 13 2 5 true)] = true := by decide

/-- Words of every form of the family, put together from the masks and patterns of spec/opcode_table.json (R34 to R57). -/
theorem test_decodeVectorInteger1 : decodesAll [
    (0x86AA6DC0, 0, .vadd 21 10 13 5 true .w8),
    (0x86AA6D81, 0, .vsub 21 10 13 5 true .w32),
    (0x86AA6DA2, 0, .vmul 21 10 13 5 true .w16),
    (0x86AA6DC3, 0, .vmulhI 21 10 13 5 true .w8),
    (0x86AA6D84, 0, .vmulhN 21 10 13 5 true .w32),
    (0x86AA6DA5, 0, .vand 21 10 13 5 true .w16),
    (0x86AA6DC6, 0, .vor 21 10 13 5 true .w8),
    (0x86AA6D87, 0, .vxor 21 10 13 5 true .w32),
    (0x86AA6DA8, 0, .vandn 21 10 13 5 true .w16),
    (0x86AA6DC9, 0, .vsll 21 10 13 5 true .w8),
    (0x86AA6D8A, 0, .vsrl 21 10 13 5 true .w32),
    (0x86AA6DAB, 0, .vsra 21 10 13 5 true .w16),
    (0x86AA6DCC, 0, .vminI 21 10 13 5 true .w8),
    (0x86AA6D8D, 0, .vminN 21 10 13 5 true .w32),
    (0x86AA6DAE, 0, .vmaxI 21 10 13 5 true .w16),
    (0x86AA6DCF, 0, .vmaxN 21 10 13 5 true .w8),
    (0x86AA6D90, 0, .vaddsI 21 10 13 5 true .w32),
    (0x86AA6DB1, 0, .vaddsN 21 10 13 5 true .w16),
    (0x86AA6DD2, 0, .vsubsI 21 10 13 5 true .w8),
    (0x86AA6D93, 0, .vsubsN 21 10 13 5 true .w32)] = true := by decide

/-- Words of every form of the family, put together from the masks and patterns of spec/opcode_table.json (R34 to R57). -/
theorem test_decodeVectorInteger2 : decodesAll [
    (0x86AA6DB4, 0, .vabsdI 21 10 13 5 true .w16),
    (0x86AA6DD5, 0, .vabsdN 21 10 13 5 true .w8),
    (0x86AA6DD6, 0, .vdot4I8 21 10 13 5 true),
    (0x86AA6DD7, 0, .vdot4N8 21 10 13 5 true)] = true := by decide

/-- Words of every form of the family, put together from the masks and patterns of spec/opcode_table.json (R34 to R57). -/
theorem test_decodeVectorCompare : decodesAll [
    (0x8EAA6DC0, 0, .vceq 21 10 13 5 true .n32),
    (0x8EAA6DA1, 0, .vcne 21 10 13 5 true .i32),
    (0x8EAA6DC2, 0, .vclt 21 10 13 5 true .n32),
    (0x8EAA6DA3, 0, .vcle 21 10 13 5 true .i32),
    (0x8EAA6DC4, 0, .vcgt 21 10 13 5 true .n32),
    (0x8EAA6DA5, 0, .vcge 21 10 13 5 true .i32),
    (0x8EAA6D86, 0, .vcun 21 10 13 5 true),
    (0x8EAA6E08, 0, .vsel 21 10 13 6)] = true := by decide

/-- Words of every form of the family, put together from the masks and patterns of spec/opcode_table.json (R34 to R57). -/
theorem test_decodeVectorConvert : decodesAll [
    (0x92AA0580, 0, .vcvtF32I32 21 10 5 true),
    (0x92AA0581, 0, .vcvtF32N32 21 10 5 true),
    (0x92AA0582, 0, .vcvtI32F32 21 10 5 true),
    (0x92AA0583, 0, .vcvtN32F32 21 10 5 true),
    (0x92AA6D84, 0, .vpkF16 21 10 13 5 true),
    (0x92AA6D85, 0, .vpkBf16 21 10 13 5 true),
    (0x92AA0D86, 0, .vupkF16 21 10 1 5 true),
    (0x92AA0D87, 0, .vupkBf16 21 10 1 5 true),
    (0x92AA0D90, 0, .vpkE4m3 21 10 1 5 true),
    (0x92AA0D91, 0, .vpkE5m2 21 10 1 5 true),
    (0x92AA0D92, 0, .vpkE3m2 21 10 1 5 true),
    (0x92AA0D93, 0, .vpkE2m3 21 10 1 5 true),
    (0x92AA0D94, 0, .vpkE2m1 21 10 1 5 true),
    (0x92AA0D98, 0, .vupkE4m3 21 10 1 5 true),
    (0x92AA0D99, 0, .vupkE5m2 21 10 1 5 true),
    (0x92AA0D9A, 0, .vupkE3m2 21 10 1 5 true),
    (0x92AA0D9B, 0, .vupkE2m3 21 10 1 5 true),
    (0x92AA0D9C, 0, .vupkE2m1 21 10 1 5 true)] = true := by decide

/-- Words of every form of the family, put together from the masks and patterns of spec/opcode_table.json (R34 to R57). -/
theorem test_decodeVectorReduce : decodesAll [
    (0x96AA0540, 0, .vrsum 21 10 5 .n32),
    (0x96AA0521, 0, .vrmin 21 10 5 .i32),
    (0x96AA0542, 0, .vrmax 21 10 5 .n32),
    (0x96AA0523, 0, .vrand 21 10 5 .i32),
    (0x96AA0544, 0, .vror 21 10 5 .n32),
    (0x96AA0525, 0, .vrxor 21 10 5 .i32),
    (0x9AAA6D80, 0, .vperm 21 10 13 5 true),
    (0x9AAA6D81, 0, .vshuf 21 10 13 5 true),
    (0x9AAA1D82, 0, .vslideu 21 10 3 5 true),
    (0x9AAA1D83, 0, .vslided 21 10 3 5 true),
    (0x9EAA0580, 0, .vmv 21 10 5 true),
    (0x9EAA0581, 0, .vsplat 21 10 5 true),
    (0x9EAA1D82, 0, .vins 21 10 3 5 true),
    (0x9EAA1803, 0, .vext 21 10 3),
    (0x9EAA0004, 0, .vmsk 21 10)] = true := by decide

/-- Words of every form of the family, put together from the masks and patterns of spec/opcode_table.json (R34 to R57). -/
theorem test_decodeMatrix : decodesAll [
    (0xB0A26000, 0, .mshape 5 19),
    (0xB2000001, 0, .mzero 2),
    (0xB2026002, 0, .manch 2 19),
    (0xB2026003, 0, .mflags 2 19),
    (0xB4A26000, 0, .mld 5 19),
    (0xB4A26001, 0, .mldT 5 19),
    (0xB4A26002, 0, .mst 5 19),
    (0xB4A26003, 0, .mlds 5 19),
    (0xB4A26004, 0, .mldx 5 19),
    (0xBAC40000, 0, .mma 2 6 1),
    (0xBAC40001, 0, .mmaS 2 6 1),
    (0xBAC40002, 0, .mmaQ 2 6 1),
    (0xBE006000, 0, .madda 2 3),
    (0xBE026031, 0, .mdrain 2 19 .e2m3),
    (0xBE026012, 0, .mdrainM 2 19 .bf16),
    (0xBE026003, 0, .mread 2 19)] = true := by decide

/-- Words of every form of the family, put together from the masks and patterns of spec/opcode_table.json (R34 to R57). -/
theorem test_decodeStream : decodesAll [
    (0xD00A0000, 0, .sgo 10),
    (0xD00A0001, 0, .sstop 10),
    (0xD2AA0002, 0, .sstat 21 10),
    (0xD00A0003, 0, .sbar 10),
    (0xD00A0010, 0, .creq 10),
    (0xD0000011, 0, .waitmsg),
    (0xD2A00012, 0, .msgtake 21),
    (0xD2A00013, 0, .msgcnt 21),
    (0xD0000014, 0, .msgdrop)] = true := by decide

/-- Words of every form of the family, put together from the masks and patterns of spec/opcode_table.json (R34 to R57). -/
theorem test_decodeSync : decodesAll [
    (0xD40A6800, 0, .seminc 10 13),
    (0xD40A6801, 0, .semdec 10 13),
    (0xD40A6802, 0, .semwait 10 13),
    (0xD6A06803, 0, .semrd 21 13),
    (0xD40A6804, 0, .semset 10 13),
    (0xD4000010, 0, .fenceCore),
    (0xD4000011, 0, .fenceXpath),
    (0xD40A0012, 0, .fenceStr 10),
    (0xD4004813, 0, .fenceLvl 9),
    (0xD80A6800, 0, .binit 10 13),
    (0xDAAA6801, 0, .arrive 21 10 13),
    (0xDAAA6802, 0, .arrivedrop 21 10 13),
    (0xD80A6803, 0, .bwait 10 13),
    (0xDAAA6804, 0, .btest 21 10 13),
    (0xD80A0005, 0, .bret 10),
    (0xD80A6806, 0, .bexp 10 13)] = true := by decide

/-- Two-word forms, put together from the field tables of R54 to R57. -/
theorem test_decodeLong : decodesAll [
    (0xE0AA4900, 0x80000001, .scfg 5 10 .dst .sram .i16 0x80000001),
    (0xE4AA8000, 0xfffffffc, .sdim 5 10 2 0xFFFFFFFC),
    (0xEAAA6800, 0x7, .copy 21 10 13 7),
    (0xF2AA8005, 0x1000, .send 21 10 0x8005 0x1000),
    (0xEEAA0020, 0x80000009, .aadd 21 10 .w32 0x80000009),
    (0xEEAA0031, 0x80000009, .aand 21 10 .w64 0x80000009),
    (0xEEAA0022, 0x80000009, .aor 21 10 .w32 0x80000009),
    (0xEEAA0033, 0x80000009, .axor 21 10 .w64 0x80000009),
    (0xEEAA00A4, 0x80000009, .amin 21 10 true .w32 0x80000009),
    (0xEEAA0035, 0x80000009, .amax 21 10 false .w64 0x80000009),
    (0xEEAA0026, 0x80000009, .aswap 21 10 .w32 0x80000009),
    (0xEEAA6837, 0x80000009, .acas 21 10 13 .w64 0x80000009),
    (0xEEAA6848, 0x80000009, .axadd 21 10 13 0x80000009),
    (0xEEAA18A9, 0x80000009, .awatch 21 10 3 true .w32 0x80000009)] = true := by decide

/-- Reserved majors, functions, bits and operands are refused by name (R38, R39). -/
theorem test_decodeRefused :
    decodeWords 0b000000_00000_00000_000000000000_0000 0 = .error .badFunc ∧
    decodeWords 0b001011_00000_00000_0000000000000000 0 = .error .badMajor ∧
    decodeWords 0b000001_00011_00001_00010_00000001101 0 = .error .badFunc ∧
    decodeWords 0b000001_00011_00001_00001_00000110010 0 = .error .reservedBits ∧
    decodeWords 0b010100_00000_00011_0000000000000000 0 = .error .badOperand := ⟨rfl, rfl, rfl, rfl, rfl⟩

/-- Each check of Instr.wf refuses a term that breaks it: registers, ports, directions, streams, semaphores, matrix registers and
accumulators, masks, zeroing without a mask, immediates, offsets, shifts, bit fields, loop lengths, codes, control words, lanes, quarters,
types, formats, levels, conditions, tags and the second word (R34 to R57). -/
theorem test_wf_refuses :
    ([.add 32 0 0, .add 0 32 0, .add 0 0 32, .pcnt 0 8, .gauge 0 4, .sgo 16, .scfg 16 0 .src .sram .f32 0, .seminc 0 32, .mld 8 0,
      .mma 4 0 0, .mma 0 8 0, .vmv 0 0 8 false, .vmv 0 0 0 true, .vst 0 0 8192, .addi 0 0 65536, .beq 0 0 65536, .jal 67108864,
      .slli 0 0 64, .extr 0 0 64 0, .extr 0 0 0 64, .extr 0 0 32 32, .addsh 0 0 8 0, .loop 0 0, .loop 0 65536, .trap 4096, .brk 4096,
      .cwr 0 0x007, .cww 0 0x051, .vldx 0 0 0 0 false 4, .vext 0 0 16, .vupkF16 0 0 2 0 false, .vpkE4m3 0 0 4 0 false,
      .vupkE2m1 0 0 8 0 false, .vrand 0 0 0 .f32, .vsel 0 0 0 0, .scfg 0 0 .src .sram .e2m1 0, .scfg 0 0 .src .sram .f32 4294967296,
      .sdim 0 0 4 0, .copy 0 0 0 4294967296, .send 0 0 65536 0, .awatch 0 0 4 false .w32 0, .fenceLvl 32, .cwLcWrite 2 0] : List Instr).all
      (fun i => !i.wf) = true := by decide

/-- A term at the edge of every range is well formed. -/
theorem test_wf_accepts :
    ([.add 31 31 31, .pcnt 31 7, .gauge 31 3, .sgo 15, .seminc 31 31, .mma 3 7 7, .vmv 31 31 7 true, .vst 31 31 8191, .addi 31 31 65535,
      .jal 67108863, .slli 31 31 63, .extr 31 31 32 31, .addsh 31 31 7 31, .loop 31 65535, .trap 4095, .cwr 31 0x405, .vext 31 31 15,
      .vupkE2m1 31 31 7 7 true, .scfg 15 31 .dst .port .n64 4294967295, .awatch 31 31 3 true .w64 4294967295] : List Instr).all
      Instr.wf = true := by decide

/-! ### Numbers: the worked rows of R75, R77, R234 -/

/-- The worked conversions of R75. -/
theorem test_worked_conversions :
    narrow fmtF32 fmtE4m3 0 0x43960000 = (0x79, 1) ∧ narrow fmtF32 fmtE4m3 3 0x43960000 = (0x7A, 1) ∧
    narrow fmtF32 fmtE4m3 0 0x43FA0000 = (0x7E, 5) ∧ narrow fmtF32 fmtE2m1 0 0x402CCCCD = (0x5, 1) ∧
    narrow fmtF32 fmtE2m1 0 0xBE800000 = (0x8, 3) ∧ narrow fmtF32 fmtBf16 0 0x40490FDB = (0x4049, 1) ∧
    narrow fmtF32 fmtE4m3 2 0x7FA00000 = (0x7F, 16) ∧ narrow fmtF32 fmtE2m3 1 0x7FA00000 = (0x00, 16) ∧
    narrow fmtF32 fmtE3m2 4 0x7F800000 = (0x1F, 4) := by decide

/-- The worked scale words of R77: 1.0, 0.75, 2.5, the zero block and the NaN block; a scale is n x 2^e. -/
theorem test_worked_scales :
    scaleOf 0x0007F000 = .mul 4096 (-12) ∧ scaleOf 0x0007E800 = .mul 6144 (-13) ∧ scaleOf 0x00080400 = .mul 5120 (-11) ∧
    scaleOf 0 = .zero ∧ scaleOf 0x000FF000 = .nan := by decide

/-- The worked elements of R234, in the modes RNE, RUP and RTZ where it names one. -/
theorem test_worked_elements :
    fpAdd fmtF16 0 0x3C00 0x1000 = (0x3C00, 1) ∧ fpAdd fmtF16 3 0x3C00 0x1000 = (0x3C01, 1) ∧ fpAdd fmtF16 0 0x7BFF 0x7BFF = (0x7C00, 5) ∧
    fpAdd fmtF16 1 0x7BFF 0x7BFF = (0x7BFF, 5) ∧ fpDiv fmtF32 0 0x3F800000 0 = (0x7F800000, 8) ∧
    fpDiv fmtF32 0 0 0x80000000 = (0x7FC00000, 16) ∧ fpSqrt fmtF32 0 0xBF800000 = (0x7FC00000, 16) ∧
    fpMinMax fmtF32 false 0 0x80000000 = (0x80000000, 0) ∧ fpMinMax fmtF32 false 0x7FA00000 0x3F800000 = (0x3F800000, 16) ∧
    fpFused fmtF32 0 false false 0 0x7F800000 0x7FC00000 = (0x7FC00000, 16) := by decide

/-! ### Single steps on a small machine -/

/-- A node record: handler 0x1000, the largest budget, class and disposition as given; input port 0 of twenty one-word tokens, a scaled input
port 1, output port 0 of twenty words, a scaled output port 1; state firing (R154 to R160). -/
def recordOf (cls disp : Nat) : Words :=
  [(0, 0x1000#32), (1, BitVec.ofNat 32 (0xFFFF0000 + 64 * disp + 16 * cls)), (2, 3#32), (7, 0x03000000#32), (8, 0x14010020#32),
    (9, 0x00200005#32), (11, 0x02010030#32), (12, 0x00200006#32), (33, 0x00142001#32), (34, 0x001E0007#32), (37, 0x00013000#32),
    (38, 0x001E0008#32)]

def tok (n : Nat) : Token := { words := [BitVec.ofNat 32 n], void := false, mark := false, tag := 3 }

def slotOf (cls disp : Nat) : Slot :=
  { emptySlot with record := recordOf cls disp, swatch := 1,
                   inq := [(0, { toks := (List.range 20).map tok, views := [], scales := [], pos := 0, refilling := [] }),
                           (1, { toks := [tok 9, tok 8], views := [], scales := [{ word := 0x7F000#32, void := false }], pos := 0, refilling := [] })] }

/-- Tile 0: slot 0 firing, protected windows of slots 0 and 1 over granules 0 to 7 and 8 to 15, a scratch window of slot 0 over 16 to 23,
four streams and four semaphores. -/
def tileOf (cls disp : Nat) (f : Firing) : Tile :=
  { emptyTile with
    slots := [(0, slotOf cls disp)]
    cwords := [(0x040, 0x00008000#32), (0x041, 0x00008008#32), (0x060, 0x00008010#32), (0x0A0, 0x80#32), (0x0C0, 0x80#32)]
    firing := some f
    nextUid := 2 }

def fresh : Firing := freshFiring 0 1 0x1000 [] none

/-- The machine with that firing on tile 0, in a swatch of two tiles. -/
def machine (cls disp : Nat) (f : Firing) : State :=
  { State.reset with tiles := [(0, tileOf cls disp f)],
                     swatches := [(1, { emptySwatch with w := 2, h := 1, tag := 3, phase := .open_, gates := true, tableLoaded := true })] }

/-- A firing with values in s1, s2 and s3. -/
def withS (a b d : Nat) : Firing :=
  { fresh with sregs := [(1, BitVec.ofNat 64 a), (2, BitVec.ofNat 64 b), (3, BitVec.ofNat 64 d)] }

/-- The state with the budget of the firing on tile 0 as at its start. -/
def rested (s : State) : State := s.modTile 0 fun x => { x with firing := x.firing.map fun f => { f with spent := 0 } }

/-- Register d of tile 0 after one instruction of a firing of class direct. -/
def result (i : Instr) (f : Firing) (d : Nat) : Option Word64 :=
  match exec i (machine 2 0 f) with
  | .next t => (t.tile 0).firing.map (·.sreg d)
  | _ => none

/-- The cause of the slot's last fault after one instruction. -/
def causeOf (i : Instr) (cls : Nat) (f : Firing) : Option Nat :=
  match exec i (machine cls 0 f) with
  | .next t => some (t.slot 0 0).lastCause
  | _ => none

/-- A lane of v1 and CW.FFLAGS after one instruction on a firing whose v2 and v3 hold a word in every lane. -/
def laneResult (i : Instr) (x y j : Nat) : Option (Nat × Nat) :=
  match exec i (machine 2 0 { fresh with vregs := [(2, List.replicate 16 (BitVec.ofNat 32 x)), (3, List.replicate 16 (BitVec.ofNat 32 y))] }) with
  | .next t => (t.tile 0).firing.map fun f => (f.laneNat 1 j, f.fflags)
  | _ => none

/-- The checked results of R97. -/
theorem test_scalar_checked_results :
    result (.sra 3 1 2) (withS 0xFFFFFFFFFFFFFF00 4 0) 3 = some 0xFFFFFFFFFFFFFFF0 ∧
    result (.rol 3 1 2) (withS 0x8000000000000001 1 0) 3 = some 3 ∧
    result (.ror 3 1 2) (withS 3 65 0) 3 = some 0x8000000000000001 ∧
    result (.addw 3 1 2) (withS 0x7FFFFFFF 1 0) 3 = some 0xFFFFFFFF80000000 ∧
    result (.clz 3 1) (withS 0x10000 0 0) 3 = some 47 ∧
    result (.bswap 3 1) (withS 0x0102030405060708 0 0) 3 = some 0x0807060504030201 ∧
    result (.mulh 3 1 2) (withS 0xFFFFFFFFFFFFFFFF 1 0) 3 = some 0xFFFFFFFFFFFFFFFF ∧
    result (.mulhn 3 1 2) (withS 0xFFFFFFFFFFFFFFFF 1 0) 3 = some 0 := by decide

/-- The checked divisions of R97, and a divisor of 0. -/
theorem test_division :
    result (.div 3 1 2) (withS 0xFFFFFFFFFFFFFFF9 2 0) 3 = some 0xFFFFFFFFFFFFFFFD ∧
    result (.rem 3 1 2) (withS 0xFFFFFFFFFFFFFFF9 2 0) 3 = some 0xFFFFFFFFFFFFFFFF ∧
    result (.div 3 1 2) (withS 0x8000000000000000 0xFFFFFFFFFFFFFFFF 0) 3 = some 0x8000000000000000 ∧
    result (.rem 3 1 2) (withS 0x8000000000000000 0xFFFFFFFFFFFFFFFF 0) 3 = some 0 ∧
    result (.divn 3 1 2) (withS 1000000 7 0) 3 = some 142857 ∧
    causeOf (.div 0 1 2) 0 (withS 7 0 0) = some 0x09 := by decide

/-- SLTIN with -1 compares against 2^64 - 1 (R98); EXTR, INSR and ADDSH by hand (R100). -/
theorem test_immediate_and_fields :
    result (.sltin 3 1 0xFFFF) (withS 0xFFFFFFFFFFFFFFFE 0 0) 3 = some 1 ∧
    result (.sltin 3 1 0xFFFF) (withS 0xFFFFFFFFFFFFFFFF 0 0) 3 = some 0 ∧
    result (.extr 3 1 4 7) (withS 0xABCD 0 0) 3 = some 0xBC ∧
    result (.insr 3 1 4 7) (withS 0xFF 0 0x10000) 3 = some 0x10FF0 ∧
    result (.addsh 3 1 3 2) (withS 1 2 0) 3 = some 17 ∧ causeOf (.insr 24 1 0 0) 0 (withS 1 0 0) = some 0x06 := by decide

/-- A word read from port 0 arrives zero-extended and the cursor moves (R35); two reads take two words. -/
theorem test_port_reads : result (.add 3 24 24) fresh 3 = some 1 ∧ result (.pcnt 3 0) fresh 3 = some 20 ∧
    result (.peek 3 1 0) (withS 4 0 0) 3 = some 4 ∧ causeOf (.pcnt 3 5) 0 fresh = some 0x06 := by decide

/-- A store and what a load reads back in the same firing, then a misaligned, a foreign and an unmapped address (R213, R217). -/
theorem test_local_memory :
    (match exec (.stsD 2 1 0) (machine 2 0 (withS 0x100 0xFFEEDDCCBBAA9988 0)) with
      | .next t => (match exec (.ldsB 3 1 1) (rested t) with
        | .next u => (u.tile 0).firing.map (·.sreg 3)
        | _ => none)
      | _ => none) = some 0xFFFFFFFFFFFFFF99 ∧
    causeOf (.ldsW 3 1 2) 0 (withS 0x100 0 0) = some 0x03 ∧ causeOf (.stsB 2 1 0) 0 (withS 0x2000 0 0) = some 0x11 ∧
    causeOf (.stsB 2 1 0) 0 (withS 0x100 0 0) = some 0x11 ∧ causeOf (.ldsB 3 1 0) 0 (withS 0x300000 0 0) = some 0x04 ∧
    result (.ldsW 3 1 4) (withS 0x3FF008 0 0) 3 = some 0 ∧ causeOf (.ldsB 3 1 0) 0 (withS 0x3FF0C0 0 0) = some 0x05 := by decide

/-- Branches, the link of JALR with sa = sd (R104), and the three ways out of a loop body's last word (R105, R106). -/
theorem test_control :
    (match exec (.beq 1 2 0xFFFF) (machine 0 0 (withS 5 5 0)) with
      | .next t => (t.tile 0).firing.map (·.pc)
      | _ => none) = some 0x0FFC ∧
    (match exec (.jalr 1 1 0) (machine 0 0 (withS 0x40 0 0)) with
      | .next t => (t.tile 0).firing.map fun f => (f.pc, f.sreg 1)
      | _ => none) = some (0x40, 0x1004) ∧
    (fresh.complete 4).pc = 0x1004 ∧
    ({ fresh with levels := [⟨0x0F00, 0x1000, 3⟩] }.complete 4).pc = 0x0F00 ∧
    ({ fresh with levels := [⟨0x0F00, 0x1000, 1⟩] }.complete 4).levels = [] ∧ causeOf (.jalr 0 1 0) 0 (withS 0x300002 0 0) = some 0x04 := by
  decide

/-- TRAP enters the handler that CW.TVEC names and TRET comes back; without a handler TRAP raises 0x29 (R342); BRK raises 0x28 (R343). -/
theorem test_trap :
    (match exec (.trap 5) (machine 0 0 { fresh with tvec := 0x2000 }) with
      | .next t => (t.tile 0).firing.map fun f => (f.pc, f.tpc, f.tstat)
      | _ => none) = some (0x2000, 0x1004, 0x80000050) ∧
    (match exec .tret (machine 0 0 { fresh with tstat := 0x80000050, tpc := 0x1004 }) with
      | .next t => (t.tile 0).firing.map fun f => (f.pc, f.tstat)
      | _ => none) = some (0x1004, 0) ∧
    causeOf (.trap 5) 0 fresh = some 0x29 ∧ causeOf (.brk 1) 0 fresh = some 0x28 ∧ causeOf .tret 0 fresh = some 0x01 ∧
    causeOf .illegalInstruction 0 fresh = some 0x01 := by decide

/-- Mode 5 stored in CW.ROUND reads 0 (R72); a read-only word raises 0x11 (R336); CW.CAP of the W2 (R338). -/
theorem test_control_words :
    (match exec (.cww 1 0x001) (machine 0 0 (withS 5 0 0)) with
      | .next t => (t.tile 0).firing.map (·.round)
      | _ => none) = some 0 ∧
    causeOf (.cww 1 0x000) 0 (withS 5 0 0) = some 0x11 ∧ result (.cwr 3 0x000) fresh 3 = some 0x00010807 := by decide

/-- The worked VDOT4 of R236 and its saturating sum; a compare with a NaN; a select (R237, R238). -/
theorem test_vector_integer :
    laneResult (.vdot4I8 1 2 3 0 false) 0x80FF0102 0x80FF0304 0 = some (0x400C, 0) ∧
    laneResult (.vdot4N8 1 2 3 0 false) 0x80FF0102 0x80FF0304 15 = some (0x13E0C, 0) ∧
    laneResult (.vaddsI 1 2 3 0 false .w8) 0x64 0x64 7 = some (0x7F, 32) ∧
    laneResult (.vclt 1 2 3 0 false .f32) 0x7FC00000 0 0 = some (0, 16) ∧ laneResult (.vcne 1 2 3 0 false .f32) 0x7FC00000 0 0 = some (0xFFFFFFFF, 0) ∧
    laneResult (.vsel 1 2 3 1) 5 6 0 = some (6, 0) := by decide

/-- One lane each of a floating sum, a conversion, a pack, a reduction, a slide and a splat, worked by hand (R231, R239 to R244). -/
theorem test_vector_float :
    laneResult (.vfadd 1 2 3 0 false .f32) 0x3F800000 0x3F800000 0 = some (0x40000000, 0) ∧
    laneResult (.vcvtI32F32 1 2 0 false) 0xBF800000 0 0 = some (0xFFFFFFFF, 0) ∧
    laneResult (.vpkF16 1 2 3 0 false) 0x3F800000 0xBF800000 0 = some (0xBC003C00, 0) ∧
    laneResult (.vrsum 1 2 0 .n32) 2 0 0 = some (32, 0) ∧ laneResult (.vslideu 1 2 3 0 false) 7 0 2 = some (0, 0) := by decide

/-! ### Witnesses: states and operands that meet the hypotheses of the statements, clause by clause -/

theorem reads_of (s : State) (f : Firing) (l : List Nat)
    (h : ((portReads l f.cursors).all fun w =>
      !badWindow (s.actor f) w.1 w.2 && isPresent (s.actor f) w.1 w.2 && !isVoidWord (s.actor f) w.1 w.2) = true) : Reads s f l := by
  intro w hw
  have := List.all_eq_true.mp h w hw
  simp only [Bool.and_eq_true, Bool.not_eq_true'] at this
  exact ⟨this.1.1, this.1.2, this.2⟩

theorem readable_of (s : State) (f : Firing) (l : List (Nat × Nat))
    (h : (l.all fun w =>
      !badWindow (s.actor f) w.1 w.2 && isPresent (s.actor f) w.1 w.2 && !isVoidWord (s.actor f) w.1 w.2) = true) : Readable s f l := by
  intro w hw
  have := List.all_eq_true.mp h w hw
  simp only [Bool.and_eq_true, Bool.not_eq_true'] at this
  exact ⟨this.1.1, this.1.2, this.2⟩

theorem issues_of (cls disp : Nat) (f : Firing) (n : Nat) (h : f.phase = .running)
    (b : f.spent < (((machine cls disp f).tile 0).slot f.slot).budget * 256) (l : n = 8 → ∀ v ∈ f.levels.head?, v.le ≠ f.pc) :
    Issues (machine cls disp f) f n := ⟨rfl, h, b, l⟩

/-- ScalarArithmeticResults, ScalarShiftAndBitResults: register and port sources and destinations, a count of 63. -/
theorem witness_scalar : Issues (machine 0 0 (withS 1 63 0)) (withS 1 63 0) 4 ∧ Reads (machine 0 0 (withS 1 63 0)) (withS 1 63 0) [1, 24] ∧
    Reads (machine 0 0 (withS 1 63 0)) (withS 1 63 0) [1, 2] ∧ Reads (machine 0 0 (withS 1 63 0)) (withS 1 63 0) [1] ∧
    Accepts (machine 0 0 (withS 1 63 0)) (withS 1 63 0) 24 ∧ Accepts (machine 0 0 (withS 1 63 0)) (withS 1 63 0) 0 ∧
    operand (machine 0 0 (withS 1 63 0)) (withS 1 63 0) [1, 2] 1 = 63 :=
  ⟨issues_of _ _ _ _ (by decide) (by decide) (by decide), reads_of _ _ _ (by decide), reads_of _ _ _ (by decide),
    reads_of _ _ _ (by decide), by unfold Accepts; decide, by unfold Accepts; decide, by decide⟩

/-- MultiplyDivideResults: a divisor that is not 0, and one that is. -/
theorem witness_divide : Issues (machine 0 0 (withS 7 2 0)) (withS 7 2 0) 4 ∧ Reads (machine 0 0 (withS 7 2 0)) (withS 7 2 0) [1, 2] ∧
    Accepts (machine 0 0 (withS 7 2 0)) (withS 7 2 0) 3 ∧ operand (machine 0 0 (withS 7 2 0)) (withS 7 2 0) [1, 2] 1 ≠ 0 ∧
    operand (machine 0 0 (withS 7 2 0)) (withS 7 2 0) [1, 0] 1 = 0 ∧ Reads (machine 0 0 (withS 7 2 0)) (withS 7 2 0) [1, 0] :=
  ⟨issues_of _ _ _ _ (by decide) (by decide) (by decide), reads_of _ _ _ (by decide), by unfold Accepts; decide, by decide, by decide,
    reads_of _ _ _ (by decide)⟩

def fA : Firing := withS 7 2 0x100
def mA : State := machine 0 0 fA

theorem issuesA : Issues mA fA 4 := issues_of 0 0 fA 4 (by decide) (by decide) (by decide)

/-- ScalarImmediateResults: the largest immediate, a field that ends at bit 63, a shift of 7; INSR into a q register. -/
theorem witness_immediate : Issues mA fA 4 ∧ Reads mA fA [1] ∧ Reads mA fA [1, 3] ∧ Reads mA fA [1, 2] ∧ Accepts mA fA 3 ∧ (0xFFFF : Nat) < 2 ^ 16 ∧
    0 + 63 < 64 ∧ 7 < 8 ∧ 3 < 24 ∧ 24 ≤ 24 :=
  ⟨issuesA, reads_of _ _ _ (by decide), reads_of _ _ _ (by decide), reads_of _ _ _ (by decide), by unfold Accepts; decide, by decide⟩

def fOdd : Firing := { fA with pc := 0x1002 }
def fTop : Firing := { withS 0x2FFFFC 0x2FFFFE 0x300000 with pc := 0x2FFFFC }
def mTop : State := machine 0 0 fTop

/-- BranchAndJumpResults: a condition that holds and one that does not; targets in the window, beyond it and not a multiple of 4; for JALR the
last word of the window, an odd half of it, and the first address beyond. -/
theorem witness_branch : Issues mTop fTop 4 ∧ Reads mTop fTop [1, 2] ∧ Reads mTop fTop [1] ∧ Reads mTop fTop [2] ∧ Reads mTop fTop [3] ∧
    Accepts mTop fTop 1 ∧ operand mTop fTop [1, 2] 0 ≠ operand mTop fTop [1, 2] 1 ∧
    (operand mTop fTop [1, 2] 0).toInt < (operand mTop fTop [1, 2] 1).toInt ∧
    (0 ≤ (fTop.pc : Int) + 4 * sextInt 16 0xFFFF ∧ (fTop.pc : Int) + 4 * sextInt 16 0xFFFF < 0x300000 ∧
      ((fTop.pc : Int) + 4 * sextInt 16 0xFFFF) % 4 = 0) ∧
    ¬ (0 ≤ (fTop.pc : Int) + 4 * sextInt 16 1 ∧ (fTop.pc : Int) + 4 * sextInt 16 1 < 0x300000) ∧
    ((operand mTop fTop [1] 0).toNat < 0x300000 ∧ (operand mTop fTop [1] 0).toNat % 4 = 0) ∧
    ((operand mTop fTop [2] 0).toNat < 0x300000 ∧ (operand mTop fTop [2] 0).toNat % 4 ≠ 0) ∧
    0x300000 ≤ (operand mTop fTop [3] 0).toNat ∧
    Issues (machine 0 0 fOdd) fOdd 4 ∧ ((fOdd.pc : Int) + 4 * sextInt 16 1) % 4 ≠ 0 :=
  ⟨issues_of 0 0 fTop 4 (by decide) (by decide) (by decide), reads_of _ _ _ (by decide), reads_of _ _ _ (by decide), reads_of _ _ _ (by decide),
    reads_of _ _ _ (by decide), by unfold Accepts; decide, by decide, by decide, by decide, by decide, by decide, by decide, by decide,
    issues_of 0 0 fOdd 4 (by decide) (by decide) (by decide), by decide⟩

def fLoop (n : Nat) (ls : List LoopLevel) : Firing := { withS n 0 0 with levels := ls }
def inner : LoopLevel := ⟨0x0FF0, 0x1010, 2⟩

/-- LoopResults: two levels active; an LE just beyond the window; a body that outlasts the level around it; a count of 1 and a count whose low
32 bits are 0; the three ways of the end check. -/
theorem witness_loop :
    (Issues (machine 0 0 (fLoop 1 [inner, inner])) (fLoop 1 [inner, inner]) 4 ∧ 2 ≤ (fLoop 1 [inner, inner]).levels.length) ∧
    (Issues mTop fTop 4 ∧ fTop.levels.length < 2 ∧ 0x2FFFFC < fTop.pc + 4 * 1) ∧
    (Issues (machine 0 0 (fLoop 1 [inner])) (fLoop 1 [inner]) 4 ∧
      ¬ (∀ v ∈ (fLoop 1 [inner]).levels.head?, v.ls ≤ 0x1000 ∧ 0x1000 ≤ v.le → 0x1000 + 4 * 5 ≤ v.le) ∧
      (∀ v ∈ (fLoop 1 [inner]).levels.head?, v.ls ≤ 0x1000 ∧ 0x1000 ≤ v.le → 0x1000 + 4 * 4 ≤ v.le)) ∧
    Reads (machine 0 0 (fLoop 1 [inner])) (fLoop 1 [inner]) [1] ∧
    (operand (machine 0 0 (fLoop 1 [inner])) (fLoop 1 [inner]) [1] 0).toNat % 2 ^ 32 ≠ 0 ∧
    (operand (machine 0 0 (fLoop (2 ^ 32) [])) (fLoop (2 ^ 32) []) [1] 0).toNat % 2 ^ 32 = 0 ∧
    (∀ l ∈ (fLoop 1 [inner]).levels.head?, l.le ≠ 0x1000 + 4 - 4) ∧ ((fLoop 1 [⟨0, 0x1000, 2⟩]).levels = [⟨0, 0x1000, 2⟩] ∧ 1 < 2) ∧
    ((fLoop 1 [⟨0, 0x1000, 1⟩]).levels = [⟨0, 0x1000, 1⟩] ∧ 1 ≤ 1) :=
  ⟨⟨issues_of 0 0 _ 4 (by decide) (by decide) (by decide), by decide⟩,
    ⟨issues_of 0 0 fTop 4 (by decide) (by decide) (by decide), by decide, by decide⟩,
    ⟨issues_of 0 0 _ 4 (by decide) (by decide) (by decide), by decide, by decide⟩, reads_of _ _ _ (by decide), by decide⟩

/-- A direct firing whose s1 is a local address. -/
def fAt (x : Nat) : Firing := withS x 5 0x1122334455667788

/-- LocalAccessResults: the last aligned double word of slot 0's scratch window; the ends of the register windows; the window of s0; a control
word. -/
theorem witness_local :
    (Issues (machine 2 0 (fAt 0x5FF8)) (fAt 0x5FF8) 4 ∧ Reads (machine 2 0 (fAt 0x5FF8)) (fAt 0x5FF8) [1] ∧
      Reads (machine 2 0 (fAt 0x5FF8)) (fAt 0x5FF8) [1, 3] ∧ Accepts (machine 2 0 (fAt 0x5FF8)) (fAt 0x5FF8) 2 ∧
      LoadOk (machine 2 0 (fAt 0x5FF8)) (fAt 0x5FF8) 8 0x5FF8 ∧ StoreOk (machine 2 0 (fAt 0x5FF8)) (fAt 0x5FF8) 8 0x5FF8 ∧
      ((operand (machine 2 0 (fAt 0x5FF8)) (fAt 0x5FF8) [1] 0) + BitVec.ofInt 64 (sextInt 13 0)).toNat = 0x5FF8) ∧
    (0x3FF0B8 % 8 = 0 ∧ 0x3FF008 ≤ 0x3FF0B8 ∧ 0x3FF0B8 < 0x3FF0C0) ∧ (0x3FF000 % 8 = 0 ∧ 0x3FF000 < 0x3FF008) ∧
    (0x3FE7F8 % 8 = 0 ∧ 0x3FE000 ≤ 0x3FE7F8 ∧ 0x3FE7F8 < 0x3FE800) ∧
    (0x3FD000 % 4 = 0 ∧ 0x3FD000 < 0x3FE000 ∧ cwAssigned ((0x3FD000 - 0x3FD000) / 4) = true) ∧
    ((operand (machine 2 0 (fAt 0x3FF0B8)) (fAt 0x3FF0B8) [1] 0) + BitVec.ofInt 64 (sextInt 13 0)).toNat = 0x3FF0B8 :=
  ⟨⟨issues_of 2 0 _ 4 (by decide) (by decide) (by decide), reads_of _ _ _ (by decide), reads_of _ _ _ (by decide), by unfold Accepts; decide,
    by unfold LoadOk; decide, by unfold StoreOk; decide, by decide⟩, by decide⟩

/-- The machine with an engine write of 4 bytes at 0x4000 that a core read may still come before. -/
def mOld (x : Nat) : State := (machine 2 0 (fAt x)).modTile 0 fun y =>
  { y with
    sram := Memory.writeN [] 0x4000 [1, 2, 3, 4]
    order := { Order.empty with hist := [{ stamp := ⟨1, 0⟩, node := 0, addr := 0x4000, old := [9, 9, 9, 9], core := false }], last := ⟨1, 0⟩ } }

/-- CoreReadPlaces: a read that the write may follow, and reads on either side of it that it does not touch; a load of the former. -/
theorem witness_core_reads : (mOld 0x4000).here.order.writesAfter (mOld 0x4000).here.coreSeen 0 0x4003 1 = [⟨1, 0⟩] ∧
    (mOld 0x4000).here.order.writesAfter (mOld 0x4000).here.coreSeen 0 0x4004 4 = [] ∧
    (mOld 0x4000).here.order.writesAfter (mOld 0x4000).here.coreSeen 0 0x3FFC 4 = [] ∧
    (mOld 0x4000).here.bytesAt ⟨0, 0⟩ 0x4000 4 = [9, 9, 9, 9] ∧ (mOld 0x4000).here.bytesAt ⟨1, 0⟩ 0x4000 4 = [1, 2, 3, 4] ∧
    LoadOk (mOld 0x4000) (fAt 0x4000) 4 0x4000 := by
  refine ⟨by decide, by decide, by decide, by decide, by decide, by unfold LoadOk; decide⟩

def mBar : State := (machine 0 0 (fAt 0x4000)).modTile 0 fun x => { x with barriers := [(0x4000, 0)] }

/-- LocalAccessFaults: each check at the first address that fails it, with every check before it passed. -/
theorem witness_local_faults :
    ¬ (0x300000 < 0x300000 ∨ (0x3FD000 ≤ 0x300000 ∧ 0x300000 < 0x3FE800) ∨ (0x3FF000 ≤ 0x300000 ∧ 0x300000 < 0x3FF100)) ∧
    (0x2FFFFE < 0x300000 ∧ 0x2FFFFE % 4 ≠ 0) ∧ (0x3FF0C0 % 8 = 0 ∧ 0x3FF0C0 < 0x3FF100) ∧
    (0x3FD01C % 4 = 0 ∧ cwAssigned ((0x3FD01C - 0x3FD000) / 4) = false) ∧
    ownerAllows ((machine 0 0 (fAt 0x2000)).here.place 0 0x2000) 0 (((machine 0 0 (fAt 0x2000)).actor (fAt 0x2000)).cls == 2) true = false ∧
    (Issues mBar (fAt 0x4000) 4 ∧ Reads mBar (fAt 0x4000) [1, 3] ∧ Reads mBar (fAt 0x4000) [1] ∧ Accepts mBar (fAt 0x4000) 3 ∧
      ownerAllows (mBar.here.place mBar.focus 0x400C) (fAt 0x4000).slot ((mBar.actor (fAt 0x4000)).cls == 2) true = true ∧
      touchesBarrier mBar.here.barriers 0x400C 4 = true) := by
  refine ⟨by decide, by decide, by decide, by decide, by decide, ⟨rfl, rfl, by decide, by decide⟩, reads_of _ _ _ (by decide),
    reads_of _ _ _ (by decide), by unfold Accepts; decide, by decide, by decide⟩

/-- VectorMemoryResults: sixteen lanes in the scratch window, the last of them at its end, loaded and stored; the last register of the
vector window. -/
theorem witness_vector_memory : Issues (machine 2 0 (fAt 0x5FC0)) (fAt 0x5FC0) 4 ∧ Reads (machine 2 0 (fAt 0x5FC0)) (fAt 0x5FC0) [1] ∧
    (∀ j < 16, (fAt 0x5FC0).enabled 0 j = true → LoadOk (machine 2 0 (fAt 0x5FC0)) (fAt 0x5FC0) 4 (0x5FC0 + 4 * j)) ∧
    (∀ j < 16, (fAt 0x5FC0).enabled 0 j = true → StoreOk (machine 2 0 (fAt 0x5FC0)) (fAt 0x5FC0) 4 (0x5FC0 + 4 * j)) ∧
    (fAt 0x5FC0).enabled 0 15 = true ∧
    (0x3FE7C0 % 64 = 0 ∧ 0x3FE000 ≤ 0x3FE7C0 ∧ 0x3FE7C0 < 0x3FE800 ∧ ((fAt 0).vreg ((0x3FE7C0 - 0x3FE000) / 64)).length = 16) ∧
    (0x7FC + [1, 2, 3, (4 : Byte)].length ≤ 0x800 ∧ ∀ i, ((fAt 0).vreg i).length = 16) :=
  ⟨issues_of _ _ _ _ (by decide) (by decide) (by decide), reads_of _ _ _ (by decide), by unfold LoadOk; decide, by unfold StoreOk; decide,
    by decide, by decide, by decide, fun _ => rfl⟩

def fP : Firing := { withS 19 20 1 with cursors := [(0, 4)], staged := [(0, List.replicate 4 1#32)], scales := [] }
def mP : State := machine 0 0 fP

/-- PortResults: declared and undeclared ports; the last word of the window of PEEK and the first beyond; PSKIP to the end of the window and
beyond; sixteen words to take and to put, and no room for sixteen; marks with and without a staged word; scales with and without room. -/
theorem witness_ports : Issues mP fP 4 ∧ Accepts mP fP 3 ∧ Reads mP fP [1] ∧ Reads mP fP [2] ∧ Reads mP fP [3] ∧
    ((mP.actor fP).inDecl 0 = true ∧ (mP.actor fP).inDecl 2 = false ∧ (mP.actor fP).outDecl 0 = true ∧ (mP.actor fP).outDecl 2 = false) ∧
    Readable mP fP [(0, 4)] ∧ Readable mP fP [(0, 19)] ∧ Readable mP fP [(1, 0)] ∧ (mP.actor fP).inScaled 0 = false ∧
    ((mP.actor fP).inScaled 1 = true ∧ (scaleOfToken ((mP.actor fP).inQueue 1) 0).map (·.void) = some false) ∧
    ((operand mP fP [1] 0).toNat % 2 ^ 32 = 19 ∧ (mP.actor fP).inMax 0 * (mP.actor fP).inWidth 0 ≤ (operand mP fP [2] 0).toNat % 2 ^ 32) ∧
    (ceilDiv 4 1 * 1 + 1 * 1 ≤ (mP.actor fP).inMax 0 * 1 ∧ (mP.actor fP).inMax 0 * 1 < ceilDiv 4 1 * 1 + 1 * 19) ∧
    Readable mP fP ((List.range 5).map fun i => (0, i)) ∧ Readable mP fP (lanes16.map fun j => (0, 4 + j)) ∧
    (fP.stagedCount 0 + 16 ≤ (mP.actor fP).outMax 0 * (mP.actor fP).outWidth 0 ∧ 0 < fP.stagedCount 0) ∧
    ((mP.actor fP).outMax 1 * (mP.actor fP).outWidth 1 < fP.stagedCount 1 + 16 ∧ fP.stagedCount 1 = 0) ∧
    ((mP.actor fP).outDecl 1 = true ∧ (mP.actor fP).outScaled 1 = true ∧ 0 < (mP.actor fP).outMax 1 ∧
      (mP.actor { fP with scales := [(1, [0])] }).outMax 1 ≤ (Map.get [] [(1, [0])] 1).length) :=
  ⟨issues_of 0 0 fP 4 (by decide) (by decide) (by decide), by unfold Accepts; decide, reads_of _ _ _ (by decide), reads_of _ _ _ (by decide),
    reads_of _ _ _ (by decide), by decide, readable_of _ _ _ (by decide), readable_of _ _ _ (by decide), readable_of _ _ _ (by decide), by decide,
    by decide, by decide, by decide, readable_of _ _ _ (by decide), readable_of _ _ _ (by decide), by decide, by decide, by decide⟩

/-- PortResults, the misuse of operands: a window word of an undeclared port, one past the window, a destination without a port; the second
word of two that is not there; the second of two that is of a void token. -/
theorem witness_misuse :
    (portReads [26, 1] fP.cursors = [(2, 0)] ∧ badWindow (mP.actor fP) 2 0 = true) ∧ badWindow (mP.actor fP) 0 20 = true ∧
    ¬ Accepts mP fP 26 ∧
    (let s := mP.modSlot 0 0 fun sl => sl.setInQueue 0 { sl.inQueue 0 with toks := (List.range 5).map tok }
     portReads [24, 24] fP.cursors = [(0, 4), (0, 5)] ∧ badWindow (s.actor fP) 0 5 = false ∧ isPresent (s.actor fP) 0 4 = true ∧
       isPresent (s.actor fP) 0 5 = false) ∧
    (let s := mP.modSlot 0 0 fun sl => sl.setInQueue 0 { sl.inQueue 0 with toks := (List.range 20).map fun i => { tok i with void := i = 5 } }
     portReads [24, 24] fP.cursors = [(0, 4), (0, 5)] ∧ isPresent (s.actor fP) 0 5 = true ∧ isVoidWord (s.actor fP) 0 4 = false ∧
       isVoidWord (s.actor fP) 0 5 = true) ∧ 0 + 63 < 64 ∧ 7 < 8 := by
  refine ⟨by decide, by decide, by unfold Accepts; decide, by decide, by decide, by decide, by decide⟩

/-- Scope 7 open, in the table and in the tile's copy. -/
def mS : State :=
  (mA.modSwatch 1 fun w => { w with scopes := [(7, { words := [(0, 1#32)], log := [], trail := [1#64] })] }).modTile 0 fun x => { x with scopeCopy := [(263, 1)] }

/-- PlaceTimeAndScopeResults: a direction that stays in the mesh from tile 0 and one that leaves it; a scope that is open and one that is
free. -/
theorem witness_place : Issues mA fA 4 ∧ Accepts mA fA 3 ∧ Reads mA fA [1] ∧ (1 < 4 ∧ tileX mA.focus + 1 < meshW mA.variant) ∧
    (0 < 4 ∧ ¬ 0 < tileY mA.focus) ∧ ((mS.ctxOf fA).scopeView 7).toNat % 8 ≠ 0 ∧ ((mA.ctxOf fA).scopeView 7).toNat % 8 = 0 ∧
    (Map.get 0 mS.here.scopeCopy (256 * (mS.actor fA).swatch + 7) ≤ ((mS.swatch (mS.actor fA).swatch).scope 7).trail.length ∧
      0 < (mS.ctxOf fA).scopePlace 7) :=
  ⟨issuesA, by unfold Accepts; decide, reads_of _ _ _ (by decide), by decide⟩

def opIdle : MatOp := { pipe := .array, acc := 0, started := false, uses := [], defs := [24], clamped := false, mflags := 0, pc := 0x1000 }
def fJ (a n : Nat) : Firing := { withS a 0 0x55 with journal := [⟨0, List.replicate n 1⟩] }

/-- FiringEndResults: a busy and an idle matrix unit; rates kept and broken, an entry on a barrier; each check of a journal store, with 252
bytes held and with 256. -/
theorem witness_firing_end :
    (Issues (mA.modTile 0 fun x => { x with matOps := [opIdle] }) fA 4 ∧ (mA.modTile 0 fun x => { x with matOps := [opIdle] }).here.matOps ≠ []) ∧
    mA.here.matOps = [] ∧ rateOk (mA.actor fA) { fA with staged := [(0, List.replicate 20 0#32), (1, [0#32])], scales := [(1, [0])] } = true ∧
    rateOk (mA.actor fA) fA = false ∧
    (∃ e ∈ (fJ 0 4).journal, touchesBarrier [(0, 0)] e.addr e.bytes.length = true) ∧
    (mA.actor fA).cls = 0 ∧ ((machine 1 0 (fJ 0x100 252)).actor (fJ 0x100 252)).cls ≠ 0 ∧
    (Issues (machine 1 0 (fJ 0x100 252)) (fJ 0x100 252) 4 ∧ Reads (machine 1 0 (fJ 0x100 252)) (fJ 0x100 252) [1, 3] ∧
      (operand (machine 1 0 (fJ 0x100 252)) (fJ 0x100 252) [1, 3] 0).toNat = 0x100) ∧
    (winBase ((machine 1 0 fA).here.pwin 0) * 1024 ≤ 0x1FFC ∧
      0x1FFC + 4 ≤ (winBase ((machine 1 0 fA).here.pwin 0) + winLen ((machine 1 0 fA).here.pwin 0)) * 1024) ∧
    ¬ (0x2000 + 4 ≤ (winBase ((machine 1 0 fA).here.pwin 0) + winLen ((machine 1 0 fA).here.pwin 0)) * 1024) ∧ 0x102 % 4 ≠ 0 ∧
    touchesBarrier [(0x100, 0)] 0x10C 4 = true ∧
    ¬ 256 < ((fJ 0 252).journal.map fun e => e.bytes.length).sum + 4 ∧ 256 < ((fJ 0 256).journal.map fun e => e.bytes.length).sum + 4 :=
  ⟨⟨⟨rfl, rfl, by decide, by decide⟩, by decide⟩, by decide, by decide, by decide, by decide, by decide, by decide,
    ⟨issues_of 1 0 _ 4 (by decide) (by decide) (by decide), reads_of _ _ _ (by decide), by decide⟩, by decide⟩

def fTrap (tvec tstat : Nat) : Firing := { fresh with tvec := tvec, tstat := tstat }

/-- TrapAndBreakResults: a handler at the last word of the window, one just beyond, none; an active trap; debug on without STEP, and off. -/
theorem witness_trap : Issues (machine 0 0 (fTrap 0x2FFFFC 0)) (fTrap 0x2FFFFC 0) 4 ∧
    ((fTrap 0x2FFFFC 0).tvec ≠ 0 ∧ ¬ (fTrap 0x2FFFFC 0).tstat / 2 ^ 31 % 2 = 1 ∧ (fTrap 0x2FFFFC 0).tvec < 0x300000) ∧
    0x300000 ≤ (fTrap 0x300000 0).tvec ∧ (fTrap 0 0).tvec = 0 ∧ (fTrap 4 0x80000000).tstat / 2 ^ 31 % 2 = 1 ∧
    bitField (((machine 0 0 fresh).modTile 0 fun x => { x with cwords := [(0x400, 1#32)] }).here.cword 0x400) 0 1 = 1 ∧
    bitField (((machine 0 0 fresh).modTile 0 fun x => { x with cwords := [(0x400, 1#32)] }).here.cword 0x400) 3 1 = 0 ∧
    bitField ((machine 0 0 fresh).here.cword 0x400) 0 1 ≠ 1 ∧
    ((fTrap 4 0x80000000).tpc < 0x300000 ∧ (fTrap 4 0x80000000).tpc % 4 = 0) ∧ 0x2FFFFE % 4 ≠ 0 ∧
    ((machine 0 0 fresh).here.matOps = [] ∧ ((machine 0 0 fresh).swatch ((machine 0 0 fresh).actor fresh).swatch).preempt = none ∧
      ((machine 2 0 fresh).actor fresh).cls = 2) :=
  ⟨issues_of 0 0 _ 4 (by decide) (by decide) (by decide), by decide⟩

/-- ControlWordResults: a mask of no event, one that hits a pending event and one that does not; a word that no program writes. -/
theorem witness_control_words : Issues mA fA 4 ∧ Reads mA fA [1] ∧
    Accepts mA fA 3 ∧ (operand mA fA [0] 0).toNat % 256 = 0 ∧ ({ fA with evpend := 2 }.evpend &&& (operand mA fA [1] 0).toNat % 256) ≠ 0 ∧
    ((operand mA fA [1] 0).toNat % 256 ≠ 0 ∧ (fA.evpend &&& (operand mA fA [1] 0).toNat % 256) = 0) ∧
    0x000 ∉ [0x001, 0x002, 0x011, 0x014, 0x020, 0x030, 0x034, 0x035] :=
  ⟨issuesA, reads_of _ _ _ (by decide), by unfold Accepts; decide, by decide, by decide, by decide, by decide⟩

/-- The vector statements ask that the instruction issues and, some, that a lane number is below 16, a source readable, a destination free, or
the variant one that has or lacks the narrow formats; LaneOrder asks for two words that are no NaN. -/
theorem witness_vector : Issues mA fA 4 ∧ 15 < 16 ∧ Reads mA fA [1] ∧ Accepts mA fA 3 ∧ mA.variant ≠ .w2q ∧
    (Issues { mA with variant := .w2q } fA 4 ∧ { mA with variant := .w2q }.variant = .w2q) ∧
    (0xFF800000 < 2 ^ 32 ∧ 0x7F800000 < 2 ^ 32 ∧ 0xFF800000 % 2 ^ 31 ≤ 0x7F800000 ∧ 0x7F800000 % 2 ^ 31 ≤ 0x7F800000) :=
  ⟨issuesA, by decide, reads_of _ _ _ (by decide), by unfold Accepts; decide, by decide, ⟨⟨rfl, rfl, by decide, by decide⟩, rfl⟩, by decide⟩

/-- NumberConversions: every mode, ties and remainders, codes that are and are not NaN, formats with and without NaN and infinity, values below,
in and above the range, a quotient by 0. -/
theorem witness_numbers : (4 < 5 ∧ 0 < 2 ∧ 3 % 2 ≠ 0) ∧ (fmtF32 ∈ [fmtF32, fmtF16, fmtBf16, fmtE4m3, fmtE5m2, fmtE3m2, fmtE2m3, fmtE2m1] ∧
      0x7FC00000 < 2 ^ fmtF32.width ∧ fmtF32.isNan 0x7FC00000 = true ∧ fmtF32.isNan 0x7F800000 = false) ∧
    (fmtE2m1.hasNan = false ∧ fmtE2m1.hasInf = false ∧ fmtF32.hasInf = true) ∧ ((-128 : Int) ≤ 0 ∧ (0 : Int) ≤ 127) := by decide

def shaped (w : Nat) : MatReg := { emptyMatReg with shape := some w, valid := true }

/-- m0 and m1: int8 operands of a product; m2 and m3: scaled e2m1 operands; m4: a sparse int8 operand, m5 its partner; s1 an address. -/
def fM (a b : Nat) : Firing :=
  { withS a b 0 with mregs := [(0, shaped 0x6008), (1, shaped 0x4006038), (2, shaped 0x103E007), (3, shaped 0x50081F7 ),
                               (4, shaped 0x1A05E008), (5, shaped 0x40062F8)] }

def mM (a b : Nat) : State := (machine 2 0 (fM a b)).modTile 0 fun x => { x with sram := Memory.writeN [] 0x4000 ((List.range 12).map (BitVec.ofNat 8)) }

theorem mat_issues (a b : Nat) (p : MPipe) (z : Bool) (h : (fM a b).spent < ((mM a b).slot (mM a b).focus (fM a b).slot).budget * 256) :
    MatIssues (mM a b) (fM a b) p z := ⟨⟨rfl, rfl, h, fun e => absurd e (by decide)⟩, by show 0 < 4; decide, fun _ => rfl⟩

/-- MatrixTransferResults: a shape word that is refused, accepted, and accepted but for the W2-Q; an accumulator that is pending and one that is
not; MREAD of an s register and of a q register; an address for every kind of transfer, and a register without a shape. -/
theorem witness_matrix_transfer :
    shapeOk 0 = false ∧ (shapeOk 0x6008 = true ∧ ¬ (mA.variant = .w2q ∧ 5 ≤ 0x6008 % 16 ∧ 0x6008 % 16 ≤ 7)) ∧
    (shapeOk 0x6005 = true ∧ 5 ≤ 0x6005 % 16 ∧ 0x6005 % 16 ≤ 7) ∧
    (mA.here.matOps.any fun o => o.defs.contains 24) = false ∧ ([opIdle].any fun o => o.defs.contains 24) = true ∧ 24 ≤ 24 ∧ 23 < 24 ∧
    Reads (mM 0x4000 0) (fM 0x4000 0) [1] ∧ MatIssues (mM 0x4000 0) (fM 0x4000 0) .transfer true ∧ MatIssues (mM 0x4000 0) (fM 0x4000 0) .array false ∧
    ((fM 0 0).mreg 6).shape = none ∧ ((fM 0 0).mreg 0).shape ≠ none ∧ (operand (mM 0x4000 0) (fM 0x4000 0) [1] 0).toNat = 0x4000 ∧
    (((fM 0 0).mreg 0).sh.cb = 8 ∧ ((fM 0 0).mreg 0).sh.mode = 0 ∧ ((fM 0 0).mreg 2).sh.mode = 1 ∧ ((fM 0 0).mreg 4).sh.mode = 2) ∧
    TransferOk (mM 0x4000 0) (fM 0x4000 0) false [(0x5FFC, 4)] ∧ TransferOk (mM 0x4000 0) (fM 0x4000 0) true [(0x4000, 4), (0x5FFC, 4)] ∧
    TransferOk (mM 0x4000 0) (fM 0x4000 0) false [(0x4000, 12)] ∧
    (∀ r < ((fM 0 0).mreg 4).sh.nr, indexRowOk ((fM 0 0).mreg 4).sh.n
      (((((mM 0x4000 0).coreBytes 0x4000 12).drop (r * 12)).take 12).map BitVec.toNat) = true) :=
  ⟨by decide, by decide, by decide, by decide, by decide, by decide, by decide, reads_of _ _ _ (by decide), mat_issues _ _ _ _ (by decide), mat_issues _ _ _ _ (by decide),
    by decide, by decide, by decide, by decide, by unfold TransferOk; decide, by unfold TransferOk; decide, by unfold TransferOk; decide, by decide⟩

/-- MatrixProductResults: operands that a dense, a scaled and a sparse product take, and ones that none takes. -/
theorem witness_matrix_product : MatIssues (mM 0 0) (fM 0 0) .array false ∧ (mM 0 0).variant ≠ .w2q ∧
    (let ok := fun a b modeA modeB => ((fM 0 0).mreg a).shape ≠ none ∧ ((fM 0 0).mreg b).shape ≠ none ∧ ((fM 0 0).mreg a).sh.roleB = false ∧
        ((fM 0 0).mreg b).sh.roleB = true ∧ ((fM 0 0).mreg a).sh.mode = modeA ∧ ((fM 0 0).mreg b).sh.mode = modeB ∧
        fmtClass ((fM 0 0).mreg a).sh.fmt = fmtClass ((fM 0 0).mreg b).sh.fmt ∧ ((fM 0 0).mreg a).sh.k = ((fM 0 0).mreg b).sh.k;
      ok 0 1 0 0 ∧ (ok 2 3 1 1 ∧ fmtClass ((fM 0 0).mreg 2).sh.fmt = 1) ∧
        (ok 4 5 2 0 ∧ ((fM 0 0).mreg 4).valid = true ∧ fmtClass ((fM 0 0).mreg 4).sh.fmt ≠ 0) ∧ ¬ ok 1 0 0 0) ∧
    { mM 0 0 with variant := .w2q }.variant = .w2q ∧ marker ≠ 0 ∧
    (let m := { shaped 0x1A05E008 with index := [(0, 1), (1, 5)] }
     (List.replicate m.sh.sc exactZero).length = m.sh.sc ∧ 0 < m.sh.n ∧ 5 < m.sh.nc ∧
       (let place := fun t => 48 * (t / m.sh.n) + (Map.get 0 m.index (0 * m.sh.sc + t)).toNat % 64
        place 1 = 5 ∧ (∀ u < m.sh.sc, place u = 5 → u = 1) ∧ ∀ t < m.sh.sc, place t ≠ 2)) :=
  ⟨mat_issues _ _ _ _ (by decide), by decide, by decide, rfl, by decide, by decide⟩

/-- GridProduct: a zero block, a NaN block beside one that is not zero, an infinity, and finite values. -/
theorem witness_grid : (Scale.zero = .zero ∨ scaleOne = .zero) ∧ (scaleOne ≠ .zero ∧ Scale.nan ≠ .zero ∧ (scaleOne = .nan ∨ Scale.nan = .nan)) ∧
    (∀ s n d e, Exact.inf false ≠ .fin s n d e) := ⟨by decide, by decide, fun _ _ _ _ h => Exact.noConfusion h⟩

/-- MatrixDrainResults: a rectangle of two by one f32 elements at the far corner for an output port, and the whole of an accumulator as f16 from
the bottom of the scratch window; a format that the W2-Q lacks. -/
theorem witness_matrix_drain :
    (let w := 30 * 2 ^ 8 + 1 * 2 ^ 13 + 31 * 2 ^ 18
     w < 2 ^ 28 ∧ bitField w 3 5 = 0 ∧ bitField w 8 5 + (bitField w 13 5 + 1) ≤ 32 ∧ bitField w 18 5 + (bitField w 23 5 + 1) ≤ 32 ∧
       (bitField w 23 5 + 1) * 32 % 32 = 0 ∧ ((mM w 0).actor (fM w 0)).outDecl (w % 8) = true ∧
       (fM w 0).stagedCount 0 + 2 ≤ ((mM w 0).actor (fM w 0)).outMax 0 * ((mM w 0).actor (fM w 0)).outWidth 0) ∧
    (let w := 0x4000
     bitField w 22 10 = 0 ∧ bitField w 52 12 = 0 ∧ 4 * 16 ≤ 64 ∧ w % 2 ^ 22 % 4 = 0 ∧ 64 % 4 = 0 ∧
       TransferOk (mM w 0) (fM w 0) true ((List.range 32).map fun i => (0x4000 + i * 64, 4 * 16))) ∧
    MatIssues (mM 0x4000 0) (fM 0x4000 0) .transfer false ∧ Reads (mM 0x4000 0) (fM 0x4000 0) [1] ∧ (mM 0 0).variant ≠ .w2q ∧
    ({ mM 0 0 with variant := .w2q }.variant = .w2q ∧ Issues { mM 0 0 with variant := .w2q } (fM 0 0) 4) :=
  ⟨by decide, by refine ⟨by decide, by decide, by decide, by decide, by decide, by unfold TransferOk; decide⟩, mat_issues _ _ _ _ (by decide),
    reads_of _ _ _ (by decide), by decide, rfl, ⟨rfl, rfl, by decide, by decide⟩⟩

/-- MatrixTiming: an older instruction that is settled and one that is not; the states of the array, a ramp of 999 and of 1,000 counts; a clamped and an
unclamped instruction that has started; grants that leave room and 256 of them. -/
theorem witness_matrix_timing :
    (let x : Tile := { emptyTile with matOps := [opIdle, { opIdle with pipe := .transfer, uses := [24] }] }
     x.nextMatOp .array = some 0 ∧ x.nextMatOp .transfer = some 1 ∧ emptyTile.nextMatOp .array = none ∧ opIdle.free (x.matOps.take 0) = true ∧
       MatOp.free { opIdle with pipe := .transfer, uses := [24] } [opIdle] = false) ∧
    ([{ opIdle with started := true }].findIdx? fun o => o.pipe == .array && o.started) = some 0 ∧
    ([opIdle].findIdx? fun o => o.pipe == .array && o.started) = none ∧ opIdle.clamped = false ∧ { opIdle with clamped := true }.clamped = true ∧
    ((∀ o ∈ emptyTile.matOps, o.pipe ≠ .array) ∧ { emptyTile with array := .active }.array = .active) ∧
    ¬ (∀ o ∈ [opIdle], o.pipe ≠ .array) ∧
    { emptyTile with array := .leaving }.array = .leaving ∧ { emptyTile with array := .ramping, rampFrom := 7 }.rampFrom + 1000 ≤ 1007 ∧
    ((List.replicate 256 5).filter fun g => decide (1004 < g + 1000)).length = 256 ∧
    ((List.replicate 256 5).filter fun g => decide (1005 < g + 1000)).length < 256 := by decide

/-! ### Translated DRAM -/

/-- The first GiB of tag 3 and of tag 5 mapped to itself with every right; their context entries at 0x30 and 0x50. -/
def pages : Memory :=
  [(0x030, 0x01), (0x032, 0x01), (0x050, 0x01), (0x052, 0x01), (0x10000, 0x01), (0x10001, 0x10), (0x10002, 0x01), (0x11000, 0x01),
   (0x11001, 0x20), (0x11002, 0x01), (0x12000, 0x1F)]

theorem walk_of_view {s : State} {tag va : Nat} (live : s.tagLive tag = true) (h : s.viewAt tag va = none) :
    s.walk tag va = s.walkFrom tag va 5 (s.root tag) := by simp [State.walk, live, h]

theorem readVirt_one {s : State} {tag va n pa : Nat} (hp : pagePieces va n = [(va, n)]) (h : s.translate tag va 1 = .ok pa) :
    s.readVirt tag va n = .ok (s.physRead pa n) := by
  simp [State.readVirt, hp, h, bind, Except.bind, pure, Except.pure]

/-- The tables of pages, as a state sees them. -/
structure Mapped (s : State) (tag : Nat) : Prop where
  live : s.tagLive tag = true
  root : s.root tag = 0x10000
  top : s.pte 0x10000 = 0x11001
  mid : s.pte 0x11000 = 0x12001
  leaf : s.pte 0x12000 = 0x1F

theorem translate_mapped {s : State} {tag va need : Nat} (m : Mapped s tag) (hv : va < 2 ^ 30) (hn : hasRights 7 need = true)
    (h : s.viewAt tag va = none) : s.translate tag va need = .ok va := by
  have e4 : 0x10000 + 8 * (va / 2 ^ (12 + 9 * 4) % 512) = 0x10000 := by omega
  have e3 : 0x11000 + 8 * (va / 2 ^ (12 + 9 * 3) % 512) = 0x11000 := by omega
  have e2 : 0x12000 + 8 * (va / 2 ^ (12 + 9 * 2) % 512) = 0x12000 := by omega
  have w : s.walk tag va = .ok { tag := tag, base := 0, size := 2 ^ 30, pa := 0, rights := 7 } := by
    rw [walk_of_view m.live h, m.root]
    have b : va / 2 ^ 30 * 2 ^ 30 = 0 := by omega
    rw [State.walkFrom, e4, m.top]
    simp only [show pteBad 4 0x11001 = false from by decide, show bitField 0x11001 1 1 = 0 from by decide, Bool.false_eq_true, if_false,
      show (0 : Nat) ≠ 1 from by decide, show bitField 0x11001 12 40 * 4096 = 0x11000 from by decide]
    rw [State.walkFrom, e3, m.mid]
    simp only [show pteBad 3 0x12001 = false from by decide, show bitField 0x12001 1 1 = 0 from by decide, Bool.false_eq_true, if_false,
      show (0 : Nat) ≠ 1 from by decide, show bitField 0x12001 12 40 * 4096 = 0x12000 from by decide]
    rw [State.walkFrom, e2, m.leaf]
    simp [show pteBad 2 0x1F = false from by decide, show bitField 0x1F 1 1 = 1 from by decide, show bitField 0x1F 5 1 = 0 from by decide,
      show bitField 0x1F 12 40 = 0 from by decide, show bitField 0x1F 2 3 = 7 from by decide]
    omega
  simp [State.translate, w, bind, Except.bind, hn]

theorem readVirt_mapped {s : State} {tag va n : Nat} (m : Mapped s tag) (hp : pagePieces va n = [(va, n)]) (hv : va < 2 ^ 30)
    (h : s.viewAt tag va = none) : s.readVirt tag va n = .ok (s.physRead va n) :=
  readVirt_one hp (translate_mapped m hv (by decide) h)

theorem mapM_ok {α β : Type} (f : α → Except Nat β) (g : α → β) : ∀ l : List α, (∀ a ∈ l, f a = .ok (g a)) → l.mapM f = .ok (l.map g)
  | [], _ => rfl
  | a :: l, h => by
    rw [List.mapM_cons, h a (.head _), mapM_ok f g l fun b hb => h b (.tail _ hb)]
    rfl

theorem pieces_in {va n : Nat} : ∀ p ∈ pagePieces va n, va ≤ p.1 ∧ (0 < n → p.1 < va + n) := by
  intro p hp
  unfold pagePieces at hp
  split at hp
  · cases hp
  · obtain ⟨i, hi, rfl⟩ := List.mem_map.mp hp
    have := List.mem_range.mp hi
    refine ⟨Nat.le_max_left _ _, fun hn => ?_⟩
    show max va ((va / 4096 + i) * 4096) < va + n
    omega

theorem writeVirt_mapped {s : State} {tag va : Nat} {bs : List Byte} (m : Mapped s tag) (hv : va + bs.length ≤ 2 ^ 30)
    (h : ∀ a, va ≤ a → a < va + bs.length → s.viewAt tag a = none) : ∃ t, s.writeVirt tag va bs = .ok t := by
  have p : s.placeVirt tag va bs.length = .ok ((pagePieces va bs.length).map fun q => (q.1, q.2)) := by
    apply mapM_ok
    intro q hq
    have hb := pieces_in q hq
    by_cases h0 : bs.length = 0
    · rw [h0] at hq; cases hq
    · rw [translate_mapped m (by omega) (by decide) (h _ hb.1 (hb.2 (by omega)))]
      rfl
  refine ⟨s.writePieces bs ((pagePieces va bs.length).map fun q => (q.1, q.2)), ?_⟩
  unfold State.writeVirt
  rw [p]
  rfl

/-- A state that differs from another by an address, of one swatch, has its view elsewhere for one of two addresses. -/
theorem view_away (s : Nat → State) (n : Nat) (w : Nat → Swatch) (tag size : Nat) (hs : ∀ va, va = 0x80000 ∨ va = 0x200000 → (s va).swatches = [(n, w va)])
    (hz : ∀ va, va = 0x80000 ∨ va = 0x200000 → (s va).viewSize (w va) = 4096) (hsz : size ≤ 0x80000) :
    ∃ va, (va = 0x80000 ∨ va = 0x200000) ∧ ∀ a, va ≤ a → a < va + size → (s va).viewAt tag a = none := by
  have key : ∀ va a, va = 0x80000 ∨ va = 0x200000 → (a < viewBase n ∨ viewBase n + 4096 ≤ a) → (s va).viewAt tag a = none := by
    intro va a hv h
    unfold State.viewAt
    rw [hs va hv, List.find?_cons, hz va hv]
    have : (decide (viewBase n ≤ a) && decide (a < viewBase n + 4096)) = false := by
      rw [Bool.and_eq_false_iff, decide_eq_false_iff_not, decide_eq_false_iff_not]; omega
    rw [Bool.and_assoc, this, Bool.and_false]
    rfl
  by_cases h : viewBase n ≤ 0x100000
  · exact ⟨0x200000, .inr rfl, fun a ha _ => key _ _ (.inr rfl) (.inr (by omega))⟩
  · exact ⟨0x80000, .inl rfl, fun a _ ha => key _ _ (.inl rfl) (.inl (by omega))⟩

theorem viewSize_small {s : State} {w : Swatch} (hs : s.variant = .w2) (hw : w.w * w.h ≤ 8) : s.viewSize w = 4096 := by
  unfold State.viewSize fieldTable
  rw [hs, show fieldCols .w2 = 8 from rfl]
  omega

/-- A stream record: owner slot 0, in a state, both endpoints words of 4 bytes in SRAM, one element. -/
def strRec (code : Nat) : Words := setStrState [(2, 0x4000#32), (4, 0x4010#32), (6, 0x44#32 ||| 8#32), (8, 0x44#32 ||| 8#32), (10, 1#32)] code

def mStr (code : Nat) : State := (machine 2 0 (withS 0x4000 0 0)).modTile 0 fun x => x.setStream 3 (strRec code)
def fStr : Firing := withS 0x4000 0 0

def fullInbox (s : State) : State := s.modTile 0 fun x => { x with inbox := (List.range 64).map fun i => (i, { freeEntry with state := .full, owner := 0 }) }

/-- StreamInstructionResults: the last granted stream and the first beyond; idle and running records; a start that is refused, one that finds
no free entry and one that does; each state that a stop meets. -/
theorem witness_streams :
    (Issues (mStr 1) fStr 8 ∧ Reads (mStr 1) fStr [1] ∧ 3 < 4 ∧ 0xFFFFFFFF < 2 ^ 32 ∧ Issues (mStr 2) fStr 8) ∧
    ((mStr 1).here.strCount fStr.slot ≤ 4 ∧ 3 < (mStr 1).here.strCount fStr.slot) ∧
    strState ((mStr 1).here.stream ((mStr 1).here.strBase 0 + 3)) < 2 ∧ 2 ≤ strState ((mStr 2).here.stream ((mStr 2).here.strBase 0 + 3)) ∧
    Issues (mStr 1) fStr 4 ∧ sgoCause ((mStr 2).ctxOf fStr) 3 ≠ 0 ∧
    (sgoCause ((mStr 1).ctxOf fStr) 3 = 0 ∧ (mStr 1).here.freeEntryNo = some 0) ∧
    (sgoCause ((fullInbox (mStr 1)).ctxOf fStr) 3 = 0 ∧ (fullInbox (mStr 1)).here.freeEntryNo = none) ∧
    strState ((mStr 4).here.stream 3) = 4 ∧ strState ((mStr 3).here.stream 3) = 3 ∧ strState ((mStr 2).here.stream 3) = 2 ∧
    Accepts (mStr 1) fStr 2 :=
  ⟨⟨⟨rfl, rfl, by decide, by decide⟩, reads_of _ _ _ (by decide), by decide, by decide, ⟨rfl, rfl, by decide, by decide⟩⟩,
    by decide, by decide, by decide, ⟨rfl, rfl, by decide, by decide⟩, by decide, by decide, by decide, by decide, by decide, by decide,
    by unfold Accepts; decide⟩

/-- CopyAndMessageResults: a request that is refused, one that finds no free entry and one that does, in both instructions; a relative tile
inside and outside the swatch, each offset that is refused, a full and an empty stage; an inbox with and without a full or a reserved entry. -/
def fCopy (a b d : Nat) : Firing := { withS a b d with vregs := [(4, [0x4000#32, 0, 0x5000#32, 0, 8, 0, 0, 0])] }
def mCopy (a b d : Nat) : State := machine 2 0 (fCopy a b d)
def mEntry (st : EntryState) : State := (mCopy 0 0 0).modTile 0 fun x => x.setEntry 5 { freeEntry with state := st, owner := 0 }

theorem witness_copies_messages :
    (let s := mCopy 0x4000 8 0x5000
     let f := fCopy 0x4000 8 0x5000
     Issues s f 8 ∧ Reads s f [1, 2, 3] ∧ copyCause s.here s.focus f.slot true 0x4000 0x5000 8 = 0 ∧ (operand s f [1, 2, 3] 1).toNat < 2 ^ 24 ∧
       s.here.freeEntryNo = some 0 ∧ (fullInbox s).here.freeEntryNo = none ∧ copyCause s.here s.focus f.slot true 0x4000 0x5002 8 ≠ 0 ∧
       Issues s f 4 ∧ f.laneNat 4 4 = 8 ∧ f.laneNat 4 6 = 0 ∧ f.laneNat 4 7 = 0 ∧ f.laneNat 4 0 = 0x4000 ∧ f.laneNat 4 2 = 0x5000) ∧
    (let s := mCopy 1 0x7FFF 0
     let f := fCopy 1 0x7FFF 0
     Reads s f [1] ∧ (s.swatch (s.actor f).swatch).rel s.focus ((operand s f [1] 0).toNat % 2 ^ 32) = some 1 ∧
       (s.swatch (s.actor f).swatch).rel s.focus ((operand s f [2] 0).toNat % 2 ^ 32) = none ∧ Reads s f [2]) ∧
    (6 % 4 ≠ 0 ∧ 0x300000 % 4 = 0 ∧ 0x2FFFFC % 4 = 0 ∧ 0x2FFFFC < 0x300000) ∧
    { fCopy 0 0 0 with messages := List.replicate 16 (.message 0 []) }.messages.length = 16 ∧ (fCopy 0 0 0).messages.length < 16 ∧
    ((mCopy 0 0 0).ctxOf (fCopy 0 0 0)).oldestMessage = none ∧ (mCopy 0 0 0).here.entries 0 .reserved = [] ∧
    ((mEntry .reserved).ctxOf (fCopy 0 0 0)).oldestMessage = none ∧ (mEntry .reserved).here.entries 0 .reserved ≠ [] ∧
    ((mEntry .full).ctxOf (fCopy 0 0 0)).oldestMessage = some 5 ∧ Accepts (mCopy 0 0 0) (fCopy 0 0 0) 3 :=
  ⟨⟨⟨rfl, rfl, by decide, by decide⟩, reads_of _ _ _ (by decide), by decide, by decide, by decide, by decide, by decide,
      ⟨rfl, rfl, by decide, by decide⟩, by decide⟩,
    ⟨reads_of _ _ _ (by decide), by decide, by decide, reads_of _ _ _ (by decide)⟩, by decide, by decide, by decide, by decide, by decide,
    by decide, by decide, by decide, by unfold Accepts; decide⟩

/-- The machine with a live barrier slot of slot 0 at 0x4000, of two expected arrivals, in a phase. -/
def mLive (ph : Nat) (bad : Bool) (f : Firing) : State :=
  ((machine 2 0 f).modTile 0 fun x => { x with barriers := [(0x4000, 0)] }).setBarrier 0 0x4000
    { failed := bad, expect := 2, phase := ph, arrived := 1, xbytes := 0, drops := 0 }

def fBar (a b d : Nat) : Firing := withS a b d

/-- SemaphoreAndBarrierResults: the last granted semaphore and the first beyond; enough and too little in it, a sum that overflows; each check
of a barrier address and of the slot there, with all those before it passed; arrivals here and elsewhere; every change of a slot's words. -/
theorem witness_sync :
    (let s := (machine 2 0 (withS 5 0 0)).modTile 0 fun x => x.setSem 3 5
     let f := withS 5 0 0
     Issues s f 4 ∧ Reads s f [1] ∧ Accepts s f 3 ∧ s.here.semCount f.slot ≤ 4 ∧ 3 < s.here.semCount f.slot ∧
       (operand s f [1] 0).toNat % 2 ^ 32 ≤ semEffective s.here f (s.here.semBase f.slot + 3) ∧
       semEffective s.here f (s.here.semBase f.slot + 2) < (operand s f [1] 0).toNat % 2 ^ 32 ∧
       semEffective s.here f (s.here.semBase f.slot + 3) + (operand s f [1] 0).toNat % 2 ^ 32 < 2 ^ 32) ∧
    (let s := (machine 0 0 (withS 0xFFFFFFFF 0 0)).modTile 0 fun x => x.setSem 3 1
     2 ^ 32 ≤ semEffective s.here (withS 0xFFFFFFFF 0 0) 3 + (operand s (withS 0xFFFFFFFF 0 0) [1] 0).toNat % 2 ^ 32) ∧
    (let f := fBar 0x4000 3 0
     let s := mLive 3 false f
     Issues s f 4 ∧ Reads s f [1, 2] ∧ Reads s f [1] ∧ Reads s f [1, 2, 3] ∧ Accepts s f 3 ∧ 0x4000 % 16 = 0 ∧ 0x4008 % 16 ≠ 0 ∧
       (0x2FFFF0 < 0x300000 ∧ 0x300000 % 16 = 0) ∧ withinWindow (s.here.swin f.slot) 0x4000 16 = true ∧
       (withinWindow (s.here.swin f.slot) 0x1FF0 16 = false ∧ withinWindow (s.here.pwin f.slot) 0x1FF0 16 = true) ∧
       (withinWindow (s.here.swin f.slot) 0x6000 16 = false ∧ withinWindow (s.here.pwin f.slot) 0x6000 16 = false) ∧
       (∀ e ∈ stagedBarriers f.slot s.here.barriers f.barChanges, e.1 ≠ 0x4010) ∧ (stagedBarriers f.slot s.here.barriers f.barChanges).length < 64 ∧
       (s.here.barriers.find? fun e => e.1 == 0x4010) = none ∧ (s.here.barriers.find? fun e => e.1 == 0x4000) = some (0x4000, 0) ∧
       (s.here.slot 0).tag = (s.actor f).tag ∧ (s.here.barrier 0x4000).failed = false ∧ (s.here.barrier 0x4000).phase = 3 ∧
       ((mLive 3 true f).here.barrier 0x4000).failed = true ∧ (s.here.barrier 0x4000).phase ≠ 2 ∧
       (stagedBarriers f.slot s.here.barriers f.barChanges).find? (fun e => e.1 == 0x4000) = some (0x4000, f.slot)) ∧
    (let f := { fBar 0x4000 0x7FFFFFFF 0 with barChanges := [] }
     let s := (mLive 3 false f).setBarrier 0 0x4000 { failed := false, expect := 2, phase := 3, arrived := 1, xbytes := 1, drops := 0 }
     (s.actor f).cls = 2 ∧ 2 ^ 31 - 1 < (s.here.barrier 0x4000).xbytes + sextInt 32 (operand s f [1, 2] 1).toNat) ∧
    (let f := fBar 0x4000 3 0
     let s := mLive 3 false f
     (s.swatch (s.actor f).swatch).rel s.focus 0 = some 0 ∧ (s.swatch (s.actor f).swatch).rel s.focus 1 = some 1 ∧
       (s.swatch (s.actor f).swatch).rel s.focus 0x7FFF = none ∧
       ((s.withFiring f).barArrive 0 0x4000 3 false false).2 = false ∧ ((s.withFiring f).barArrive 0 0x4000 2 false false).2 = true) ∧
    (let s := mLive 3 false fresh
     let b := (s.tile 0).barrier 0x4000
     ((s.tile 0).barriers.find? fun e => e.1 == 0x4000).isSome = true ∧ 3 = b.phase ∧ b.expect ≠ 0 ∧
       b.arrived < b.expect ∧ b.drops < b.expect ∧ b.failed = false ∧ -(2 ^ 31) ≤ b.xbytes + -(2 ^ 31) ∧ b.xbytes + (2 ^ 31 - 1) ≤ 2 ^ 31 - 1 ∧
       2 ≠ b.phase) :=
  ⟨⟨⟨rfl, rfl, by decide, by decide⟩, reads_of _ _ _ (by decide), by unfold Accepts; decide, by decide⟩,
    by decide,
    ⟨⟨rfl, rfl, by decide, by decide⟩, reads_of _ _ _ (by decide), reads_of _ _ _ (by decide), reads_of _ _ _ (by decide),
      by unfold Accepts; decide, by decide⟩,
    by decide, by decide, by decide⟩

/-- AtomicAndFenceResults: an address that is good, one beyond the range and one misaligned; an inbox with a free entry and a full one; named
streams that have accesses outstanding and that have none; levels that are absent, 0 and more; operations dispatched and none. -/
theorem witness_atomics :
    (let f := withS 0x1000 0 0
     let s := machine 2 0 f
     Issues s f 8 ∧ Reads s f [1, 2] ∧ Reads s f [1, 2, 3] ∧ (operand s f [1, 2] 0).toNat < 2 ^ 57 ∧ (operand s f [1, 2] 0).toNat % 8 = 0 ∧
       s.here.freeEntryNo = some 0 ∧ (fullInbox s).here.freeEntryNo = none ∧ Issues s f 4 ∧ Reads s f [1]) ∧
    2 ^ 57 ≤ (operand (machine 2 0 (withS (2 ^ 57) 0 0)) (withS (2 ^ 57) 0 0) [1, 2] 0).toNat ∧
    (operand (machine 2 0 (withS 0x1004 0 0)) (withS 0x1004 0 0) [1, 2] 0).toNat % 8 ≠ 0 ∧
    (let f := withS 8 0 0
     let s := (mStr 2).modTile 0 fun x => { x with firing := some f, runs := [(3, { emptyRun with eng :=
        { emptyEngine with seq := 1, outstanding := [⟨0, 0, 1, false, none, 0⟩] } })] }
     (operand s f [1] 0).getLsbD 3 = true ∧ 3 < s.here.strCount f.slot ∧ 2 ≤ strState (s.here.stream 3) ∧
       ((s.here.run 3).eng.outstanding.any fun o => decide (o.seq < (s.here.run 3).eng.seq)) = true ∧ (s.ctxOf f).dispatched ≠ []) ∧
    ((machine 2 0 fresh).ctxOf fresh).dispatched = [] ∧
    (let w := { emptySwatch with launch := [(8, 0x98#32)] }
     w.level 0 = some 0 ∧ w.level 1 = some 1 ∧ w.level 7 = none) ∧
    (let x : Tile := { emptyTile with order := { Order.empty with hist := [⟨⟨1, 0⟩, 0, 0x4000, [0], true⟩] }, coreSeen := ⟨1, 0⟩ }
     (∀ e ∈ x.order.hist, e.touches 0 0x4000 4 = true → x.coreSeen.lt e.stamp = false ∧ (e.core = false → x.coreAcq.lt e.stamp = false)) ∧
       (x.order.hist.any fun e => e.touches 0 0x4000 4) = true ∧ (⟨[], ⟨5, 0⟩⟩ : Reach) ∈ [(⟨[], ⟨5, 0⟩⟩ : Reach)]) :=
  ⟨⟨⟨rfl, rfl, by decide, by decide⟩, reads_of _ _ _ (by decide), reads_of _ _ _ (by decide), by decide, by decide, by decide, by decide,
      ⟨rfl, rfl, by decide, by decide⟩, reads_of _ _ _ (by decide)⟩, by decide⟩

/-- A machine with no firing on tile 0, whose slot 0 is waiting. -/
def mReady : State := (machine 0 0 fresh).modTile 0 fun x => { x.modSlot 0 (fun sl => sl.setState 1) with firing := none }

/-- The same with a second ready slot, 3, beside it, slot 0 having fired last, and a message of swatch 1 with the handler 0x1230. -/
def mTwo (age : Nat) : State := (mReady.modTile 0 fun x => (x.modSlot 3 fun _ => { (x.slot 0) with age := age })).modTile 0 fun x =>
  x.setEntry 5 { freeEntry with state := .full, owner := 16, swatch := 1, words := [0x1230#32] }

/-- FiringStart: a tile with a firing, one that is gated, one with no ready slot, one with one, and one with two and a message, of one
priority number and not; ages of 63 and 64; required tokens with and without a void one; a firing that ends beside slots that were ready. -/
theorem witness_firing_start :
    (((machine 0 0 fresh).tile 0).firing.isSome = true) ∧ ((mReady.modTile 0 fun x => { x with gating := .clockGated }).tile 0).gating ≠ .running ∧
    ((mReady.tile 0).firing = none ∧ (mReady.tile 0).gating = .running ∧ mReady.selected 0 = some 0 ∧ (mReady.slot 0 0).requiresVoid = false) ∧
    ((mReady.tile 1).firing = none ∧ (mReady.tile 1).gating = .running ∧ mReady.selected 1 = none) ∧ 0 < 16 ∧
    ((mReady.modSlot 0 0 fun sl => sl.setInQueue 0 { sl.inQueue 0 with toks := [{ tok 1 with void := true }] }).slot 0 0).requiresVoid = true ∧
    ((mTwo 0).isReady 0 0 = true ∧ (mTwo 0).isReady 0 3 = true ∧ (mTwo 0).selectPrio 0 0 = (mTwo 0).selectPrio 0 3 ∧ 63 < 64 ∧ 64 ≤ 64) ∧
    ((mTwo 0).handlerMessage 0 = some 5 ∧ ∀ p < 8, ((mTwo 0).slot 0 16).inDecl p = false) ∧
    (({ fresh with readyAtStart := [3] }.slot = 0) ∧ 3 ≠ 0 ∧
      ((mTwo 0).modTile 0 fun x => { x with firing := some { fresh with readyAtStart := [3] } }).isReady 0 3 = true) := by
  decide

/-- What holds of the eight ports holds of every declared one. -/
theorem ports_of (sl : Slot) (c : Nat → Prop) (h : ∀ q < 8, sl.outDecl q = true → c q) : ∀ q, sl.outDecl q = true → c q := by
  intro q hq
  by_cases l : q < 8
  · exact h q l hq
  · simp [Slot.outDecl, l] at hq

theorem alone : ∀ q, ((machine 0 0 fresh).slot 0 0).outDecl q = true → q ≠ 0 →
    (((machine 0 0 fresh).swatch 1).rel 0 (((machine 0 0 fresh).slot 0 0).dest q), ((machine 0 0 fresh).slot 0 0).dslot q,
      ((machine 0 0 fresh).slot 0 0).dport q) ≠ (some 0, ((machine 0 0 fresh).slot 0 0).dslot 0, ((machine 0 0 fresh).slot 0 0).dport 0) := by
  refine ports_of _ _ fun q hq hd h0 he => ?_
  have : ∀ q < 8, ((machine 0 0 fresh).slot 0 0).outDecl q = true → q ≠ 0 →
      ((machine 0 0 fresh).slot 0 0).dslot q ≠ ((machine 0 0 fresh).slot 0 0).dslot 0 := by decide
  exact this q hq hd h0 (by injection he with _ e; injection e)

/-- A copy of an attempt that has been abandoned. -/
def orphanCopy : Copy :=
  { id := 1, slot := 0, kind := 2, src := 0, dst := 0, len := 8, tag := 0, packet := [], begun := 0, done := 0, deferred := false, paused := false,
    status := 0, eng := { emptyEngine with attempt := 1, orphan := true } }

def withPhase (ph : Phase) : Firing := { fresh with phase := ph }

/-- CommitResults: a commit with a barrier change staged, which is two steps. -/
theorem witness_commitReleased :
    let f := { withPhase (.committing true) with barChanges := [.init 0x8000 5] }
    ((machine 0 0 f).tile 0).firing = some f ∧ f.phase = .committing true ∧ f.barChanges ≠ [] ∧
    (withPhase .released).phase = .released ∧ ((machine 0 0 (withPhase .released)).tile 0).firing = some (withPhase .released) ∧
    (∀ b, Phase.released ≠ .committing b) := by
  refine ⟨by decide, rfl, by decide, rfl, by decide, fun _ h => Phase.noConfusion h⟩

/-- CommitResults: a firing that waits for its acknowledgement, one that has it, one that needs none, and one that still runs. -/
theorem witness_commit :
    ((machine 0 0 (withPhase (.committing false))).tile 0).firing = some (withPhase (.committing false)) ∧
    ((withPhase (.committing false)).phase = .committing false ∧ (withPhase (.committing false)).delta = []) ∧
    { withPhase (.committing false) with delta := [(0x100, 1)] }.delta ≠ [] ∧ (withPhase (.committing true)).phase = .committing true ∧
    (fresh.phase = .running ∧ ∀ b, Phase.running ≠ .committing b) ∧ ((machine 0 0 fresh).tile 0).firing = some fresh ∧
    (let s := machine 0 0 { fresh with messages := [.message 1 [7]], seals := [7], cursors := [(0, 4)], marks := [(0, [1])] }
     let sl := s.slot 0 0
     let w := s.swatch sl.swatch
     (sl.outDecl 0 = true ∧ (s.tile 0).edgeFlags 0 (sl.outEdge 0) = 0 ∧ sl.outHost 0 = false ∧ w.paged = false ∧
       w.rel 0 (sl.dest 0) = some 0 ∧ 0 < selvage ∧
         ∀ q, sl.outDecl q = true → q ≠ 0 → (w.rel 0 (sl.dest q), sl.dslot q, sl.dport q) ≠ (some 0, sl.dslot 0, sl.dport 0)) ∧
       sl.inDecl 0 = true ∧ Staged.message 1 [7] ∈ [Staged.message 1 [(7 : Word32)]] ∧ ((s.commit 0 (fresh)).slot 0 0).stateCode ≠ 5 ∧
       (((machine 0 0 fresh).voidCommit 0 (some (0, 3))).slot 0 0).stateCode ≠ 5) :=
  ⟨by decide, by decide, by decide, by decide, ⟨by decide, fun _ h => Phase.noConfusion h⟩, by decide,
    ⟨by decide, by decide, by decide, by decide, by decide, by decide, alone⟩, by decide, by decide, by decide, by decide⟩

/-- FaultDisposition: a hardware cause that is retried, on the third retry, and in a direct firing; every disposition. -/
theorem witness_disposition :
    ((machine 0 0 fresh).tile 0).firing = some fresh ∧ ((machine 0 0 fresh).slot 0 0).cls ≠ 2 ∧ ((machine 0 0 fresh).slot 0 0).attempts < 3 ∧
    ¬ (((machine 0 0 fresh).modSlot 0 0 fun sl => { sl with attempts := 3 }).slot 0 0).attempts < 3 ∧ ((machine 2 0 fresh).slot 0 0).cls = 2 ∧
    ((machine 0 0 fresh).slot 0 0).disp = 0 ∧ ((machine 0 1 fresh).slot 0 0).disp = 1 ∧
    (((machine 0 2 fresh).slot 0 0).disp ≠ 0 ∧ ((machine 0 2 fresh).slot 0 0).disp ≠ 1) ∧
    (((machine 0 2 fresh).swatch 1).stop = none ∧ ((machine 0 2 fresh).swatch 1).phase ≠ .bindingOff) := by decide

/-- FiringProgress: a swatch that is being pre-empted and one that is not; each phase; an abandoned attempt that has no operation left; waits
that are over and that are not; deadlines that are set and unset; every condition of gating and waking. -/
theorem witness_progress :
    (fresh.phase = .running ∧ (((machine 0 0 fresh).modSwatch 1 fun w => { w with preempt := some (64, false) }).swatch 1).preempt.isSome = true ∧
      ((machine 0 0 fresh).slot 0 0).cls ≠ 2 ∧ ((machine 0 0 fresh).swatch 1).preempt = none) ∧
    (∃ c, (withPhase (.waiting .inboxEntry)).phase = .waiting c) ∧
    ¬ ((withPhase .abandoned).phase = .running) ∧
    (let s := machine 0 0 (withPhase .abandoned)
     (s.tile 0).firing = some (withPhase .abandoned) ∧ (s.tile 0).attemptBusy (withPhase .abandoned).uid = false ∧ (s.swatch 1).preempt = none ∧
       (s.swatch 1).phase ≠ .bindingOff ∧ s.power.failing = false ∧
       ((s.modTile 0 fun x => { x with copies := [orphanCopy] }).tile 0).attemptBusy (withPhase .abandoned).uid = true) ∧
    (let limit := ((machine 0 0 fresh).slot 0 0).budget * 256
     limit ≤ { fresh with spent := limit }.spent ∧ fresh.spent < limit ∧
       (∃ l ∈ { fresh with levels := [⟨0xFF0, 0x1000, 2⟩] }.levels.head?, l.le = fresh.pc) ∧ longForm (.sdim 1 2 3 4) = true) ∧
    (fenceWait (.accesses [] noReach) = true ∧ bitField (((machine 0 0 fresh).tile 0).cword 0x400) 0 1 ≠ 1) ∧
    ({ fresh with evdl := 1 }.evDue = false ∧ { fresh with evdl := 1, evDue := true }.evDue = true) ∧
    waitOver ((machine 0 0 (withPhase (.waiting .message))).tile 0) (withPhase (.waiting .message)) .message = true ∧
    waitOver ((machine 0 0 (withPhase (.waiting (.events 1)))).tile 0) (withPhase (.waiting (.events 1))) (.events 1) = false ∧
    issuedWait .message = false ∧ issuedWait .matrixDone = true ∧
    ({ fresh with evdl := 1 }.evdl ≠ 0 ∧ fresh.evdl = 0) ∧
    ((mReady.tile 1).firing = none ∧ (mReady.tile 1).gating ≠ .waking ∧ ¬ (∃ k < 17, mReady.isReady 1 k = true)) ∧
    (∃ k < 17, mReady.isReady 0 k = true) ∧ ((mReady.modTile 1 fun x => { x with gating := .waking }).tile 1).gating = .waking :=
  ⟨by decide, ⟨_, rfl⟩, by decide, by decide, ⟨by decide, by decide, ⟨_, rfl, rfl⟩, rfl⟩, by decide, by decide, by decide, by decide, by decide,
    by decide, by decide, by decide, ⟨0, by decide, by decide⟩, by decide⟩

def pk (src dst : Nat) (cls : TrafficClass) (body : PacketBody) : Packet := packet src dst cls body [] 0 (0, 0)

/-- The machine of tile 0 with one packet in flight. -/
def mNet (p : Packet) : State := { machine 0 0 fresh with net := [p] }

theorem arrives_of (p : Packet) (h : p.dst = 0 ∨ p.dst = selvage) : Arrives (mNet p) p [] := by
  refine ⟨?_, rfl, ?_, ?_⟩
  · simp [mNet, takePacket]
  · rcases h with h | h <;> rw [h] <;> rfl
  · rcases h with h | h <;> rw [h] <;> rfl

/-- A paged launch of one record, at an address, for edge 5, whose consumer a token on tile 0 waits for; there no slot is empty unless n is 0,
and slot 3 holds another record of the launch where n is 2. -/
def mPaged (n va : Nat) : State :=
  { (mNet (pk 1 0 .paged (.paged 5 9 (tok 1)))).modTile 0 (fun x => if n = 0 then x else
      { x with slots := (List.range 16).map fun j => (j, { emptySlot with record := [(7, 0x01000000#32)], swatch := if n = 2 ∧ j = 3 then 9 else 0 }) }) with
    dram := pages ++ [(0x80020, 0x20), (0x80024, 5), (0x200020, 0x20), (0x200024, 5)]
    swatches := [(9, { emptySwatch with w := 2, h := 1, tag := 3, paged := true, recordTable := if n = 2 then [(0, 3, 7)] else [], launch := [(15, 1#32), (16, BitVec.ofNat 32 va)] })] }

theorem paged_record (n : Nat) (hn : n = 0 ∨ n = 1 ∨ n = 2) : ∃ va, (va = 0x80000 ∨ va = 0x200000) ∧ (mPaged n va).pagedMiss 0 = some (9, 5) ∧
    ∃ r, (mPaged n va).pagedRecord ((mPaged n va).swatch 9) 0 = some r ∧ (mPaged n va).pagedEntry ((mPaged n va).swatch 9) 5 = some (0, r, 0) := by
  obtain ⟨va, hv, h⟩ := view_away (mPaged n) 9 _ 3 256 (fun _ _ => rfl) (fun _ _ => viewSize_small rfl (show 2 * 1 ≤ 8 from by decide)) (by decide)
  have hr : (mPaged n va).pagedRecord ((mPaged n va).swatch 9) 0 = some (Words.ofList (bytesWords ((mPaged n va).physRead va 256))) := by
    have ha : Words.dword ((mPaged n va).swatch 9).launch 16 + 256 * 0 = va := by rcases hv with rfl | rfl <;> rfl
    have ht : ((mPaged n va).swatch 9).tag = 3 := rfl
    have m : Mapped (mPaged n va) 3 := by
      rcases hn with rfl | rfl | rfl <;> rcases hv with rfl | rfl <;> exact ⟨by decide, by decide, by decide, by decide, by decide⟩
    unfold State.pagedRecord
    rw [ha, ht, readVirt_mapped m (by rcases hv with rfl | rfl <;> decide) (by omega) (h va (Nat.le_refl _) (by omega))]
  refine ⟨va, hv, by rcases hn with rfl | rfl | rfl <;> rcases hv with rfl | rfl <;> decide, _, hr, ?_⟩
  have hc : Words.word ((mPaged n va).swatch 9).launch 15 = 1 := rfl
  unfold State.pagedEntry
  rw [hc, show List.range 1 = [0] from rfl, List.findSome?_cons, hr]
  rcases hn with rfl | rfl | rfl <;> rcases hv with rfl | rfl <;> decide +kernel

def mSlot (f : Slot → Slot) (p : Packet) : State := { (machine 0 0 fresh).modSlot 0 0 f with net := [p] }

def tokPacket : Packet := (pk 1 0 .token (.token 0 0 (tok 1)))

/-- TokenLandings: a token for a declared port of a slot that keeps it and of one that drains; a scale token; a paged token whose consumer is
resident and one whose is not; a tile that a moving actor holds a packet back from, and one asleep; no record to fetch, one with a slot empty,
one in place of another, and one with no slot to be had. -/
theorem witness_landings :
    (Arrives (mNet tokPacket) tokPacket [] ∧ ((mNet tokPacket).slot 0 0).inDecl 0 = true ∧ (mNet tokPacket).discards 0 0 = false ∧
      (mSlot (fun sl => sl.setState 5) tokPacket).discards 0 0 = true) ∧
    Arrives (mNet (pk 1 0 .token (.scale 0 1 ⟨0x7F#32, false⟩))) (pk 1 0 .token (.scale 0 1 ⟨0x7F#32, false⟩)) [] ∧
    Arrives (mNet (packet 0 0 .token (.token 0 0 (tok 1)) [] 5 (0, 0))) (packet 0 0 .token (.token 0 0 (tok 1)) [] 5 (0, 0)) [] ∧
    (let p := pk 1 0 .paged (.pagedScale 5 1 ⟨0x7F#32, false⟩)
     (mNet p).tokenFirst 1 0 .token = false ∧ Arrives (mNet p) p [] ∧ (mNet p).pagedConsumer 0 1 5 = some (0, 0)) ∧
    (let p : Packet := (pk 1 0 .paged (.paged 5 1 (tok 1)))
     (mNet p).tokenFirst 1 0 .token = false ∧ Arrives (mNet p) p [] ∧ (mNet p).pagedConsumer 0 1 5 = some (0, 0) ∧
       (mNet p).pagedConsumer 0 1 77 = none) ∧
    (let s := { mNet tokPacket with rebinds := [{ id := 0, tile := 0, slot := 0, toTile := 1, toSlot := 0, senders := [1], held := [1], acked := [1] }] }
     takePacket 1 0 .token s.net = some (tokPacket, []) ∧ s.heldBack tokPacket = true) ∧
    (let s := (mNet tokPacket).modTile 0 fun x => { x with gating := .powerGated }
     takePacket 1 0 .token s.net = some (tokPacket, []) ∧ s.heldBack tokPacket = false ∧ (s.tile 0).gating ≠ .running) ∧
    (mNet tokPacket).pagedMiss 0 = none ∧
    (∃ va r, (mPaged 0 va).pagedMiss 0 = some (9, 5) ∧ (mPaged 0 va).pagedEntry ((mPaged 0 va).swatch 9) 5 = some (0, r, 0) ∧
      (∀ j < 1, ((mPaged 0 va).slot 0 j).stateCode ≠ 0) ∧
      ((mPaged 0 va).slot 0 1).stateCode = 0) ∧
    (∃ va r, (mPaged 1 va).pagedMiss 0 = some (9, 5) ∧ (mPaged 1 va).pagedEntry ((mPaged 1 va).swatch 9) 5 = some (0, r, 0) ∧
      (∀ j < 16, ((mPaged 1 va).slot 0 j).stateCode ≠ 0) ∧
      (mPaged 1 va).evictee 0 = none) ∧
    (∃ va r, (mPaged 2 va).pagedMiss 0 = some (9, 5) ∧ (mPaged 2 va).pagedEntry ((mPaged 2 va).swatch 9) 5 = some (0, r, 0) ∧
      (∀ j < 16, ((mPaged 2 va).slot 0 j).stateCode ≠ 0) ∧
      (mPaged 2 va).evictee 0 = some 3) ∧
    (let s := mPaged 2 0x80000
     (∃ e ∈ (s.swatch (s.slot 0 3).swatch).recordTable, e.1 = 0 ∧ e.2.1 = 3) ∧ (s.swatch 9).phase ≠ .bindingOff ∧ s.rebinds = [] ∧
       (s.swatch 9).preempt = none ∧ s.scopeEnded ((s.placeRecord 9 0 3 7 (recordOf 0 0)).slot 0 3) = false) := by
  refine ⟨⟨arrives_of _ (.inl rfl), by decide, by decide, by decide⟩, arrives_of _ (.inl rfl), arrives_of _ (.inl rfl),
    ⟨by decide, arrives_of _ (.inl rfl), by decide⟩,
    ⟨by decide, arrives_of _ (.inl rfl), by decide, by decide⟩, by decide, by decide, by decide, ?_, ?_, ?_, ?_⟩
  · obtain ⟨va, hv, hm, r, -, hi⟩ := paged_record 0 (by decide)
    exact ⟨va, r, hm, hi, by rcases hv with rfl | rfl <;> decide, by rcases hv with rfl | rfl <;> decide⟩
  · obtain ⟨va, hv, hm, r, -, hi⟩ := paged_record 1 (by decide)
    exact ⟨va, r, hm, hi, by rcases hv with rfl | rfl <;> decide, by rcases hv with rfl | rfl <;> decide⟩
  · obtain ⟨va, hv, hm, r, -, hi⟩ := paged_record 2 (by decide)
    exact ⟨va, r, hm, hi, by rcases hv with rfl | rfl <;> decide, by rcases hv with rfl | rfl <;> decide⟩
  · decide

/-- MessageLandings: an inbox with a free entry and a full one; an arrival at a live barrier slot of its tag, and at none. -/
theorem witness_messages :
    (let p : Packet := (pk 1 0 .token (.message 1 []))
     Arrives (mNet p) p [] ∧ ((mNet p).tile 0).freeEntryNo = some 0 ∧ Arrives { fullInbox (machine 0 0 fresh) with net := [p] } p [] ∧
       ({ fullInbox (machine 0 0 fresh) with net := [p] }.tile 0).freeEntryNo = none) ∧
    (let p : Packet := (pk 1 0 .token (.arrival 0x4000 3 false 0 3))
     let s := { mLive 3 false fresh with net := [p] }
     Arrives s p [] ∧ (s.tile 0).barrierOwner 0x4000 = some 0 ∧ (s.slot 0 0).tag = 3 ∧ ((s.tile 0).barrier 0x4000).failed = false ∧
       (s.tile 0).barrierOwner 0x4010 = none) :=
  ⟨⟨arrives_of _ (.inl rfl), by decide, ⟨by decide, by decide, by decide, by decide⟩, by decide⟩,
    ⟨⟨by decide, by decide, by decide, by decide⟩, by decide, by decide, by decide, by decide⟩⟩

/-- ReturnsAndLoops: a slot return to a tile and to the selvage, whose swatch admits nothing; a permit and a close for an actor that fires and
one that waits; a reply; a loop exit that is ready to discard, and one that is not. -/
theorem witness_returns :
    (let p : Packet := (pk 1 0 .slotReturn (.slotReturn 0 7 1))
     Arrives (mNet p) p [] ∧ p.dst ≠ selvage ∧ 7 < 8) ∧
    (let p : Packet := (pk 1 selvage .slotReturn (.slotReturn 1 0 1))
     let s := (mNet p).modSwatch 1 fun w => { w with gates := false }
     Arrives s p [] ∧ s.admits (s.swatch 1) = false) ∧
    (let p : Packet := (pk 1 0 .slotReturn (.permit 0))
     Arrives (mNet p) p [] ∧ ((mNet p).slot 0 0).stateCode = 3 ∧ ((mSlot (fun sl => sl.setState 1) p).slot 0 0).stateCode ≠ 3 ∧
       Arrives (mSlot (fun sl => sl.setState 1) p) p []) ∧
    Arrives (mNet (pk 1 0 .slotReturn (.close 0 1 2))) (pk 1 0 .slotReturn (.close 0 1 2)) [] ∧
    Arrives (mNet (pk 1 0 .slotReturn (.closeReply 0 2))) (pk 1 0 .slotReturn (.closeReply 0 2)) [] ∧
    (let r := Words.setWord (Words.setWord (recordOf 0 0) 3 (2 ^ 25 + 2 ^ 16)) 7 0x01000000
     let s := (machine 0 0 fresh).modTile 0 fun x => { x with firing := none, slots := [(0, { slotOf 0 0 with record := r })] }
     (s.tile 0).firing = none ∧ (s.tile 0).gating = .running ∧ (s.slot 0 0).stateCode = 1 ∧ (s.slot 0 0).isExit = true ∧ 0 < (s.slot 0 0).discard ∧
       0 < (s.slot 0 0).presentCount 0 ∧ (s.swatch (s.slot 0 0).swatch).gates = true) ∧
    ((machine 0 0 fresh).tile 0).firing ≠ none :=
  ⟨⟨arrives_of _ (.inl rfl), by decide, by decide⟩, ⟨⟨by decide, by decide, by decide, by decide⟩, by decide⟩,
    ⟨arrives_of _ (.inl rfl), by decide, by decide, ⟨by decide, by decide, by decide, by decide⟩⟩, arrives_of _ (.inl rfl), arrives_of _ (.inl rfl),
    by decide, by decide⟩

def scopeWith (code : Nat) (up : Nat) : ScopeEntry := { words := [(0, BitVec.ofNat 32 (code + 2 ^ 8 * up))], log := [], trail := [] }

def mScopes (l : Map ScopeEntry) : State := (machine 0 0 fresh).modSwatch 1 fun w => { w with scopes := l }

/-- HostSinksAndScopeEnds: a token for the host on an edge with and without a peer; a scope that is done and one that is not, either way. -/
theorem witness_scope_ends :
    (let p : Packet := (pk 0 selvage .token (.token 0 0 (tok 1)))
     takePacket 0 selvage .token (mNet p).net = some (p, []) ∧ (mNet p).peerOf ((mNet p).slot 0 0).swatch (((mNet p).slot 0 0).outEdge 0) = none ∧
       { mNet p with host := { HostSide.reset with peers := [⟨1, 7, 0, 0, [], [], 0, 0, false⟩] } }.peerOf 1 (((mNet p).slot 0 0).outEdge 0) = some 0) ∧
    (let s := mScopes [(4, scopeWith 2 0), (5, scopeWith 3 4)]
     let w := s.swatch 1
     s.liveSwatch 1 = true ∧ (w.scope 4).stateCode = 2 ∧ s.scopeBusy 1 4 = false ∧
       (∀ c ∈ (w.children 4).map fun n => (w.scope n).stateCode, terminalCode c = true)) ∧
    (let s := mScopes [(4, scopeWith 6 0), (5, scopeWith 3 4)]
     let w := s.swatch 1
     s.liveSwatch 1 = true ∧ (w.scope 4).stateCode = 6 ∧ ∀ n ∈ w.scopeNumbers.filter fun n => w.below 4 257 n, s.scopeBusy 1 n = false) ∧
    ((mScopes [(4, scopeWith 1 0)]).swatch 1).scope 4 ≠ scopeWith 2 0 := by decide

/-- A report of the slot-wait kind or, where b holds, of a starved cycle. -/
def reportOf (b : Bool) (sw : Nat) : Report := { starved := b, swatch := sw, edges := [7], members := [(0, 0)], counts := [], exhausted := false }

def probeOf (node : Nat × Nat) (confirm : Option Nat) : Probe :=
  { starved := false, origin := (0, 0), node := node, members := [(0, 0)], edges := [7], snapshot := [[1]], confirm := confirm }

/-- KnotDetection: a silent tile with an actor that waits on slots, one with none, and a tile that fires; a probe at its origin, elsewhere, in
its confirming pass with a member changed, and at its end; a report of either sort whose swatch is gone, of a launch that asks for loosening
and of one that does not, and of a scope that is complete. -/
theorem witness_knots :
    (let s := mReady.modSlot 0 0 fun sl => { sl with record := Words.setWord sl.record 34 7 }
     s.anyReady 0 = false ∧ (s.tile 0).firing = none ∧ (((s.tile 0).actors 0).filter fun a => !(s.slotWaits a).isEmpty) ≠ []) ∧
    (mReady.anyReady 1 = false ∧ (mReady.tile 1).firing = none ∧ (((mReady.tile 1).actors 1).filter fun a => !(mReady.slotWaits a).isEmpty) = []) ∧
    ((machine 0 0 fresh).tile 0).firing ≠ none ∧
    ([probeOf (0, 0) none][0]? = some (probeOf (0, 0) none) ∧ (probeOf (0, 0) none).node = (probeOf (0, 0) none).origin ∧
      (probeOf (1, 0) none).node ≠ (probeOf (1, 0) none).origin ∧ isFirst Probe.way [probeOf (0, 0) none] 0 = true ∧
      isFirst Probe.way [probeOf (0, 0) none, probeOf (0, 0) (some 1)] 1 = false) ∧
    ((probeOf (0, 0) (some 0)).confirm = some 0 ∧ 0 < (probeOf (0, 0) (some 0)).members.length ∧
      some ((machine 0 0 fresh).memberView ((probeOf (0, 0) (some 0)).members.getD 0 (0, 0))) ≠ (probeOf (0, 0) (some 0)).snapshot[0]?) ∧
    ((probeOf (0, 0) (some 1)).confirm = some 1 ∧ (probeOf (0, 0) (some 1)).members.length ≤ 1) ∧
    (let s := { machine 0 0 fresh with reports := [reportOf false 1] }
     s.reports[0]? = some (reportOf false 1) ∧ s.standing (reportOf false 1) = false ∧ s.liveSwatch 1 = true ∧ s.liveSwatch 2 = false ∧
       Words.field (s.swatch 1).launch 1 2 1 = 0 ∧ Words.field ((s.modSwatch 1 fun w => { w with launch := [(1, 4#32)] }).swatch 1).launch 1 2 1 = 1) ∧
    (let s := machine 0 0 fresh
     s.standing (reportOf true 1) = false ∧ s.scopeEngines 1 ((s.slot 0 0).scopeNo) = false ∧
       ((s.swatch 1).scope (s.slot 0 0).scopeNo).stateCode ≠ 3 ∧ ((s.swatch 1).scope (s.slot 0 0).scopeNo).stateCode ≠ 4 ∧
       (((mScopes [(0, scopeWith 3 0)]).swatch 1).scope (s.slot 0 0).scopeNo).stateCode = 3) := by decide

/-- Tiles 0 and 1 on physical tiles 0 and 1; the link between them has lost so many lanes. -/
def mLinks (bad : Nat) : State :=
  { (machine 0 0 fresh).modTile 0 (fun x => { x with gauge := [(1, 0x400#32)] }) with
    binding := [(0, 0), (1, 1)], links := [(1, { failing := 7, badLanes := bad, diagnosing := false })] }

/-- Every node at its nominal host but logical tile 175, two tiles further east; tile 174 reaches it in three hops east. -/
def holeBinding : Map Nat := (175, 181) :: (meshNodes .w2).map fun n => (n, nominalHost .w2 n)

/-- The array so bound, with dead links and lost keep-alives. -/
def mArray (deadLinks dead : List Nat) : State :=
  { machine 0 0 fresh with
    tiles := [(174, { emptyTile with gauge := [(1, 0x5402#32)] })], binding := holeBinding
    phys := (dead.map fun p => (p, { healthyPhys with setting := some nominalClock, keepAliveLost := true })) ++
      (near .w2 181 ++ near .w2 435).map fun p => (p, { healthyPhys with setting := some nominalClock })
    links := deadLinks.map fun k => (k, { healthyLink with badLanes := 300 }) }

theorem get_map (f : Nat → Nat) (d n : Nat) : ∀ l : List Nat, n ∈ l → Map.get d (l.map fun n => (n, f n)) n = f n
  | m :: l, h => by
    by_cases e : m = n
    · subst e; simp [Map.get]
    · have := get_map f d n l (by simpa [Ne.symm e] using h)
      simpa [Map.get, e] using this

theorem host_of {s : State} (hb : s.binding = holeBinding) {n : Nat} (hn : n ∈ meshNodes .w2) :
    s.physOf n = if n = 175 then 181 else nominalHost .w2 n := by
  unfold State.physOf
  rw [hb]
  by_cases e : n = 175
  · subst e; rfl
  · have := get_map (nominalHost .w2) (s.startHost n) n _ hn
    simpa [holeBinding, Map.get, Ne.symm e, e] using this

theorem tile_mem {x y : Nat} (hx : x < 176) (hy : y < 200) : tileId x y ∈ meshNodes .w2 :=
  List.mem_append_left _ (List.mem_flatMap.mpr ⟨y, List.mem_range.mpr hy, List.mem_map.mpr ⟨x, List.mem_range.mpr hx, rfl⟩⟩)

theorem vacant {s : State} (hb : s.binding = holeBinding) (hv : s.variant = .w2) {p : Nat} (hp : p = 179 ∨ p = 180) : s.nodeAt p = none := by
  unfold State.nodeAt
  rw [hv, List.find?_eq_none]
  intro n hn
  rw [host_of hb hn]
  have : (if n = 175 then 181 else nominalHost .w2 n) ≠ p := by
    unfold nominalHost selvage
    simp only [meshNodes, List.mem_append, List.mem_flatMap, List.mem_range, List.mem_map, tileId, parityNode, parityTiles, meshW] at hn
    rcases hn with ⟨y, hy, x, hx, rfl⟩ | ⟨g, hg, rfl⟩
    · split
      · omega
      · split <;> omega
    · split
      · omega
      · rw [if_neg (by omega), show gridW .w2 = 192 from rfl]; omega
  simpa using this

/-- LinkResults: a link that is being diagnosed and one that is not; routers in service; a hop of the mesh and none; a legal path, one that is
not, and a path that is down with a way round it; a path that is down with none, where the tile itself can move to a spare, where only its
neighbour can, and where neither can. -/
theorem witness_links :
    (Map.get healthyLink (mLinks 0).links 1).diagnosing = false ∧ { healthyLink with diagnosing := true }.diagnosing = true ∧
    (((mLinks 0).physTile 0).keepAliveLost = false ∧ ((mLinks 0).physTile (physStep 0 1)).keepAliveLost = false) ∧
    (1 < 4 ∧ (mLinks 0).hasNeighbour 0 1 = true ∧ (mLinks 0).legalPath 0 1 0x400 = true) ∧
    ((mLinks 0).legalPath 0 1 0x800 = false ∧ (mLinks 0).hasNeighbour 0 0 = false) ∧
    ((mLinks 0).fieldHas 0 1 = true ∧ (mLinks 0).fieldHas 0 3 = false) ∧
    (let s := mLinks 200
     let s1 := (s.writeError 0 0x21 9 0xFF 0 0 1 0).loseFlits 0 1
     s.pathState 0 (s.gaugeOf 0 1).toNat = 2 ∧ s1.legalPath 0 1 0x1802 = true ∧ s1.legalPath 0 1 0x400 = false) ∧
    (mLinks 0).pathState 0 ((mLinks 0).gaugeOf 0 1).toNat ≠ 2 := by decide

/-- The hosts about the hole. -/
theorem hosts_of {s : State} (hb : s.binding = holeBinding) :
    s.physOf 174 = 178 ∧ s.physOf 175 = 181 ∧ s.physOf 173 = 177 ∧ s.physOf 430 = 434 ∧ s.physOf 431 = 435 :=
  ⟨host_of hb (tile_mem (x := 174) (y := 0) (by decide) (by decide)), host_of hb (tile_mem (x := 175) (y := 0) (by decide) (by decide)),
    host_of hb (tile_mem (x := 173) (y := 0) (by decide) (by decide)), host_of hb (tile_mem (x := 174) (y := 1) (by decide) (by decide)),
    host_of hb (tile_mem (x := 175) (y := 1) (by decide) (by decide))⟩

/-- Whether tile 174, or tile 175, could stand on p but for what p hosts. -/
def fits174 (s : State) (p : Nat) : Bool :=
  s.hostable p && !s.tooWeak p && ([181, 434, 177].all fun q => !(s.legalDirs p q).isEmpty && !(s.legalDirs q p).isEmpty)
def fits175 (s : State) (p : Nat) : Bool :=
  s.hostable p && !s.tooWeak p && ([435, 178].all fun q => !(s.legalDirs p q).isEmpty && !(s.legalDirs q p).isEmpty)

theorem spare174 {s : State} (hb : s.binding = holeBinding) (hv : s.variant = .w2) (p : Nat) :
    s.spareOk 174 p = (fits174 s p && (s.nodeAt p).isNone) := by
  obtain ⟨-, h2, h3, h4, -⟩ := hosts_of hb
  unfold State.spareOk fits174
  simp [neighbour, State.hasNeighbour, hv, tileX, tileY, meshW, selvage, h2, h3, h4, Bool.and_assoc]

theorem spare175 {s : State} (hb : s.binding = holeBinding) (hv : s.variant = .w2) (p : Nat) :
    s.spareOk 175 p = (fits175 s p && (s.nodeAt p).isNone) := by
  obtain ⟨h1, -, -, -, h5⟩ := hosts_of hb
  unfold State.spareOk fits175
  simp [neighbour, State.hasNeighbour, hv, tileX, tileY, meshW, selvage, h1, h5, Bool.and_assoc]

theorem chosen {s : State} {n p : Nat} (h : s.spareOk n p = true) : s.chooseSpare n p = some p := by
  unfold State.chooseSpare
  rw [h]
  rfl

/-- No spare for tile 174, or 175, where none of those near its first neighbour fits. -/
theorem none174 {s : State} (hb : s.binding = holeBinding) (hv : s.variant = .w2) {h : Nat} (k : ∀ p ∈ h :: near .w2 181, fits174 s p = false) :
    s.chooseSpare 174 h = none := by
  have no : ∀ p ∈ h :: near .w2 181, s.spareOk 174 p = false := fun p hp => by rw [spare174 hb hv, k p hp]; rfl
  have all : s.sparesFor 174 = (near .w2 181).filter (s.spareOk 174) := by
    simp [State.sparesFor, State.hasNeighbour, neighbour, hv, tileX, tileY, meshW, selvage, (hosts_of hb).2.1]
  unfold State.chooseSpare
  rw [no h (.head _), all, List.filter_eq_nil_iff.mpr fun p hp => by rw [no p (.tail _ hp)]; decide]
  rfl

theorem none175 {s : State} (hb : s.binding = holeBinding) (hv : s.variant = .w2) {h : Nat} (k : ∀ p ∈ h :: near .w2 435, fits175 s p = false) :
    s.chooseSpare 175 h = none := by
  have no : ∀ p ∈ h :: near .w2 435, s.spareOk 175 p = false := fun p hp => by rw [spare175 hb hv, k p hp]; rfl
  have all : s.sparesFor 175 = (near .w2 435).filter (s.spareOk 175) := by
    simp [State.sparesFor, State.hasNeighbour, neighbour, hv, tileX, tileY, meshW, selvage, (hosts_of hb).2.2.2.2]
  unfold State.chooseSpare
  rw [no h (.head _), all, List.filter_eq_nil_iff.mpr fun p hp => by rw [no p (.tail _ hp)]; decide]
  rfl

/-- LinkResults, a path that is down with no way round: tile 174 can move to the spare beside it; only its neighbour can; neither can. -/
theorem witness_path_down :
    let down := fun (links dead : List Nat) =>
      let s := mArray links dead
      let s1 := (s.writeError 174 0x21 9 0xFF 0 0 1 0).loseFlits 174 1
      s.pathState 174 (s.gaugeOf 174 1).toNat = 2 ∧ s1.legalDirs (s1.physOf 174) (s1.physOf 175) = []
    let after := fun (links dead : List Nat) => ((mArray links dead).writeError 174 0x21 9 0xFF 0 0 1 0).loseFlits 174 1
    (down [721] [] ∧ (after [721] []).chooseSpare 174 180 = some 180) ∧
    (down [721, 1745] [] ∧ (after [721, 1745] []).chooseSpare 174 179 = none ∧ (after [721, 1745] []).chooseSpare 175 179 = some 179) ∧
    (down [721, 1745] [435] ∧ (after [721, 1745] [435]).chooseSpare 174 179 = none ∧ (after [721, 1745] [435]).chooseSpare 175 179 = none) := by
  intro down after
  have hb : ∀ l d, (after l d).binding = holeBinding := fun _ _ => rfl
  have hv : ∀ l d, (after l d).variant = .w2 := fun _ _ => rfl
  have goes : ∀ l d, (mArray l d).pathState 174 ((mArray l d).gaugeOf 174 1).toNat = (mArray l d).dirsState 178 [1, 1, 1] := by
    intro l d
    unfold State.pathState
    rw [(hosts_of (s := mArray l d) rfl).1, show (mArray l d).gaugeOf 174 1 = 0x5402#32 from rfl, show pathDirs (0x5402#32).toNat = [1, 1, 1] from by decide]
  have way : ∀ l d, (after l d).legalDirs ((after l d).physOf 174) ((after l d).physOf 175) = (after l d).legalDirs 178 181 := by
    intro l d
    rw [(hosts_of (hb l d)).1, (hosts_of (hb l d)).2.1]
  refine ⟨⟨⟨?_, ?_⟩, ?_⟩, ⟨⟨?_, ?_⟩, ?_, ?_⟩, ⟨?_, ?_⟩, ?_, ?_⟩
  · exact (goes _ _).trans (by decide)
  · exact (way _ _).trans (by decide)
  · exact chosen (by rw [spare174 (hb _ _) (hv _ _), vacant (hb _ _) (hv _ _) (.inr rfl)]; decide)
  · exact (goes _ _).trans (by decide)
  · exact (way _ _).trans (by decide)
  · exact none174 (hb _ _) (hv _ _) (by decide)
  · exact chosen (by rw [spare175 (hb _ _) (hv _ _), vacant (hb _ _) (hv _ _) (.inl rfl)]; decide)
  · exact (goes _ _).trans (by decide)
  · exact (way _ _).trans (by decide)
  · exact none174 (hb _ _) (hv _ _) (by decide)
  · exact none175 (hb _ _) (hv _ _) (by decide)

/-- Tile 0 with bad words: one unprotected, one protected, one with a single-bit error. -/
def mBad (more : Map Tile) : State :=
  { (machine 0 0 fresh).modTile 0 (fun x => { x with uncorrectable := [0x4000, 0x100], singleError := [0x104] }) with
    tiles := ((machine 0 0 fresh).modTile 0 fun x => { x with uncorrectable := [0x4000, 0x100], singleError := [0x104] }).tiles ++ more }

/-- SoftErrorAndLossResults: an address beyond SRAM, a sound word, one with a single-bit error, an unprotected bad word, and a protected one with
and without a second bad word in its group; a spare that hosts a tile, and one that fits where the firmware says so. -/
theorem witness_soft_errors :
    3 * 2 ^ 20 ≤ 0x300000 / 4 * 4 ∧ (0x108 ∉ ((mBad []).tile 0).uncorrectable ∧ 0x108 ∉ ((mBad []).tile 0).singleError) ∧
    ((mBad []).tile 0).singleError.count 0x104 = 1 ∧
    (0x4000 ∈ ((mBad []).tile 0).uncorrectable ∧ ((mBad []).tile 0).isProtected 0x4000 = false ∧ ((mBad []).tile 0).place 0 0x4000 ≠ .system) ∧
    (0x100 ∈ ((mBad []).tile 0).uncorrectable ∧ ((mBad []).tile 0).isProtected 0x100 = true ∧ ((mBad []).tile 0).place 0 0x100 ≠ .system ∧
      (mBad []).rebuildFails 0 0x100 = false) ∧
    (let s := mBad [(1, { emptyTile with uncorrectable := [0x100], cwords := [(0x040, 0x00008000#32)] })]
     s.rebuildFails 0 0x100 = true ∧
       (s.swatch ((s.tile 0).slot ((s.tile 0).windowOwner 0x100)).swatch).stop = none ∧
       (s.swatch ((s.tile 0).slot ((s.tile 0).windowOwner 0x100)).swatch).phase ≠ .bindingOff) ∧
    (isNode .w2 0 = true ∧ isNode .w2 176 = false ∧ isNode .w2 (parityNode 1099) = true ∧ isNode .w2 (parityNode 1100) = false) ∧
    (inGrid .w2 191 = true ∧ inGrid .w2 192 = false) := by decide

/-- The array with physical tile p left with so many of its four regulator phases lost, at its nominal clock. -/
def mWeak (p n : Nat) : State := { mArray [] [435] with phys := (p, { healthyPhys with setting := some nominalClock, phasesLost := n }) :: (mArray [] [435]).phys }

/-- SoftErrorAndLossResults: a spare that may take tile 174 and the node of a parity tile, and none for tile 175; a phase lost on a tile that
stays fit, on one that a node stands on and on one that hosts none. -/
theorem witness_losses :
    ((mArray [] []).chooseSpare 174 180 = some 180 ∧ 174 < selvage) ∧ ((mArray [] []).chooseSpare (parityNode 0) 179 = some 179 ∧ selvage ≤ parityNode 0) ∧
    (mArray [] [435]).chooseSpare 175 179 = none ∧ (mWeak 178 2).tooWeak 178 = false ∧
    ((mWeak 178 3).tooWeak 178 = true ∧ ((mWeak 178 3).physTile 178).retired = false ∧ ∃ n, (mWeak 178 3).nodeAt 178 = some n) ∧
    ((mWeak 180 3).tooWeak 180 = true ∧ (mWeak 180 3).nodeAt 180 = none) := by
  refine ⟨⟨chosen ?_, by decide⟩, ⟨chosen ?_, by decide⟩, none175 rfl rfl (by decide), by decide, ⟨by decide, by decide, ?_⟩, by decide, vacant rfl rfl (.inr rfl)⟩
  · rw [spare174 rfl rfl, vacant rfl rfl (.inr rfl)]; decide
  · unfold State.spareOk
    rw [vacant rfl rfl (.inl rfl)]
    decide
  · have : ((mWeak 178 3).nodeAt 178).isSome = true := by
      unfold State.nodeAt
      rw [List.find?_isSome]
      refine ⟨174, tile_mem (x := 174) (y := 0) (by decide) (by decide), ?_⟩
      rw [(hosts_of (s := mWeak 178 3) rfl).1]; rfl
    exact Option.isSome_iff_exists.mp this

/-- A stream of two by two words from SRAM at 0x4000 to an endpoint of a kind at a base with a parameter, in a state; its run as given. -/
def strTo (code kind base par : Nat) : Words :=
  setStrState [(2, 0x4000#32), (4, BitVec.ofNat 32 base), (6, 0x40#32), (8, BitVec.ofNat 32 (0x40 + kind)), (9, BitVec.ofNat 32 par), (10, 2#32),
    (11, 4#32), (12, 2#32), (13, 8#32), (14, 1#32), (16, 1#32)] code

def mRun (r : Words) (run : StreamRun) : State := (machine 2 0 fresh).modTile 0 fun x => (x.setStream 0 r).setRun 0 run

def page0 : Engine := { emptyEngine with pages := [{ vpage := 5, ppage := 9, write := true }] }

/-- StreamSteps: a stream that is not active; one that pushes voids, with more to push and with none; one that an SBAR holds back, one that a
marked token ended, one at its end, one that is stopping and held and one that is free; a boundary that ends it and one that does not. Elements
to SRAM, to DRAM with the page known and unknown, and to a port: within a token, its last one, and where it may not feed. -/
theorem witness_stream_steps :
    strState ((mRun (strTo 1 0 0x5000 0) emptyRun).tile 0 |>.stream 0) = 1 ∧
    (let s := mRun (strTo 2 2 0 0x10) { emptyRun with voiding := true }
     s.power.failing = false ∧ strState ((s.tile 0).stream 0) = 2 ∧ ((s.tile 0).run 0).voiding = true ∧
       strTokens ((s.tile 0).stream 0) < feedTotal ((s.tile 0).stream 0) ((s.slot 0 0).inWidth 1) ∧
       ((s.slot 0 0).inQueue 1).toks.length < (s.slot 0 0).inSlots 1) ∧
    (let s := mRun (strTo 2 2 0 0x20) { emptyRun with voiding := true }
     ((s.tile 0).run 0).voiding = true ∧ ¬ ((s.slot 0 0).inQueue 2).toks.length < (s.slot 0 0).inSlots 2) ∧
    (((mRun (strTo 2 0 0x5000 0) { emptyRun with sbar := [(0, 0)] }).tile 0).sbarLeft 0 ≠ [] ∧
      ((mRun (strTo 2 0 0x5000 0) emptyRun).tile 0).sbarLeft 0 = []) ∧
    ({ emptyRun with marked := true }.marked = true ∧ emptyRun.marked = false ∧ emptyRun.begun < strTotal (strTo 2 0 0x5000 0)) ∧
    ((mRun (strTo 5 0 0x5000 0) { emptyRun with outerOnly := true } |>.tile 0 |>.run 0).outerOnly = true ∧
      atOuter (strTo 5 0 0x5000 0) 0 = true ∧ atOuter (strTo 5 0 0x5000 0) 1 = false ∧
      (mRun (strTo 2 0 0x5000 0) emptyRun).streamHeld 0 0 = false) ∧
    (strState (strTo 5 0 0x5000 0) = 5 ∧ emptyRun.eng.outstanding = [] ∧ emptyRun.outerOnly = false ∧ strState (strTo 2 0 0x5000 0) ≠ 5) ∧
    (let s := mRun (strTo 2 0 0x5000 0) emptyRun
     let r := (s.tile 0).stream 0
     strDstKind r = 0 ∧ (s.tile 0).badWord (strSrcAddr r 0) (strElem r) = none ∧
       touchesBarrier (s.tile 0).barriers (strDstAddr r 0) (strElem r) = false) ∧
    (let s := mRun (strTo 2 1 0x5000 0) { emptyRun with eng := page0 }
     let r := (s.tile 0).stream 0
     strDstKind r = 1 ∧ ((s.tile 0).run 0).eng.page (strDstAddr r 0) true = some 0x9000 ∧ (s.tile 0).mayRequest ((s.tile 0).run 0).eng = true ∧
       (s.tile 0).badWord (strSrcAddr r 0) (runLength r (strDstAddr r) 0 4 * strElem r) = none ∧ emptyRun.eng.page (strDstAddr r 0) true = none) ∧
    (let s := (mRun (strTo 2 2 0 0) emptyRun).modSlot 0 0 fun sl => { sl with record := Words.setWord (Words.setWord sl.record 8 0x01010021) 9 0x00200005 }
     let r := (s.tile 0).stream 0
     let w := (s.slot 0 (paramSlot (strDstParam r))).inWidth (paramPort (strDstParam r))
     let bs := emptyRun.filling ++ Memory.readN (s.tile 0).sram (strSrcAddr r 0) (strElem r)
     strDstKind r = 2 ∧ s.mayFeed 0 0 = true ∧ bs.length < 4 * w ∧ 0 + 1 ≠ strTotal r) ∧
    (let s := mRun (strTo 2 2 0 0) emptyRun
     let r := (s.tile 0).stream 0
     let w := (s.slot 0 (paramSlot (strDstParam r))).inWidth (paramPort (strDstParam r))
     let bs := emptyRun.filling ++ Memory.readN (s.tile 0).sram (strSrcAddr r 0) (strElem r)
     s.mayFeed 0 0 = true ∧ bs.length = 4 * w ∧ strTokens r + 1 < 2 ^ 32) ∧
    (mRun (strTo 2 2 0 0x20) emptyRun).mayFeed 0 0 = false := by decide

def page1 : Engine := { emptyEngine with pages := [{ vpage := 5, ppage := 9, write := true }, { vpage := 5, ppage := 9, write := false }] }

/-- A running stream of four words between endpoints of two kinds, with their bases and parameters. -/
def strOf (sk src spar dk dst dpar : Nat) : Words :=
  setStrState [(2, BitVec.ofNat 32 src), (4, BitVec.ofNat 32 dst), (6, BitVec.ofNat 32 (0x40 + sk)), (7, BitVec.ofNat 32 spar),
    (8, BitVec.ofNat 32 (0x40 + dk)), (9, BitVec.ofNat 32 dpar), (10, 4#32), (11, 4#32), (12, 1#32), (14, 1#32), (16, 1#32)] 2

def asked (write : Bool) (data : Option (List Byte)) : Outstanding := { seq := 0, first := 0, count := 1, write := write, data := data, losses := 0 }

/-- Slot 0 with an output port 0 of two words a token and these tokens for its engine, and stream 0 as given. -/
def mDrains (r : Words) (run : StreamRun) (toks : List Token) : State :=
  (mRun r run).modSlot 0 0 fun sl => { sl with record := Words.setWord sl.record 33 0x00142101 }.setOutQueue 0 { emptyOutQueue with local_ := toks }

def two (void : Bool) : Token := { words := [1, 2], void := void, mark := false, tag := 3 }

/-- StreamSteps: an empty stream with MARK, and one without; a stopping stream that a void cone or a mark has reached; a read that no write is
left to come after. A stream from DRAM with nothing more to ask for, with no page, with too many requests out and with room; a reply for it. A
drain with no token, with a void one whole before it and one partly past, with a valid one at its first and at its last element, to SRAM and to
DRAM with the page known and not. -/
theorem witness_stream_sources :
    (let s := mRun (Words.setWord (strTo 2 2 0 0x100) 10 0) emptyRun
     let r := (s.tile 0).stream 0
     strTotal r = 0 ∧ strTokens r < feedTotal r ((s.slot 0 0).inWidth 0) ∧ feedTotal (Words.setWord (strTo 2 2 0 0) 10 0) 1 = 0) ∧
    (mRun (Words.setWord (strTo 2 2 0 0x100) 10 0) emptyRun).mayFeed 0 0 = true ∧
    ({ emptyRun with outerOnly := true, marked := true }.marked = true ∧ { emptyRun with voiding := true }.voiding = true) ∧
    ((machine 0 0 fresh).tile 0).order.writesAfter Stamp.zero 0 0x4000 8 = [] ∧
    (let r := strOf 1 0x5000 0 0 0x4000 0
     let s := mRun r { emptyRun with eng := page1 }
     let full := mRun r { emptyRun with eng := { page1 with outstanding := List.replicate 64 (asked false none) } }
     let e := ((s.tile 0).run 0).eng
     runLength r (strSrcAddr r) 4 (strTotal r - 4) = 0 ∧ 0 < runLength r (strSrcAddr r) 0 (strTotal r - 0) ∧ emptyRun.eng.page (strSrcAddr r 0) false = none ∧
       e.page (strSrcAddr r 0) false = some 0x9000 ∧ (s.tile 0).mayRequest e = true ∧ (full.tile 0).mayRequest ((full.tile 0).run 0).eng = false ∧
       strBusy r = true ∧ strDstKind r = 0 ∧ touchesBarrier (s.tile 0).barriers (strDstAddr r 0) 4 = false ∧
       (asked false (some [1, 2, 3, 4])).data = some [1, 2, 3, 4]) ∧
    (let r := strOf 2 0 0 0 0x4000 0
     let q := fun (s : State) => ((s.slot 0 0).outQueue 0).local_
     let s := mDrains r emptyRun [two false]
     q (mDrains r emptyRun []) = [] ∧ q s = [two false] ∧ q (mDrains r emptyRun [two true, two false]) = [two true, two false] ∧
       paramPort (strSrcParam r) < 8 ∧ 4 * (s.slot 0 0).outWidth 0 / strElem r = 2 ∧ 2 - 0 ≤ strTotal r - 0 ∧ ¬ 2 - 0 ≤ strTotal r - 3 ∧
       strElem r ≤ ((wordsBytes ((two false).words.map BitVec.toNat)).drop (1 * strElem r)).length ∧ 0 + 1 < strTotal r ∧ strTokens r + 1 < 2 ^ 32 ∧
       strVoids r + 1 < 2 ^ 32 ∧ touchesBarrier (s.tile 0).barriers (strDstAddr r 0) (strElem r) = false) ∧
    (let r := strOf 2 0 0 1 0x5000 0
     let s := mDrains r { emptyRun with eng := page1 } [two false]
     strDstKind r = 1 ∧ ((s.tile 0).run 0).eng.page (strDstAddr r 0) true = some 0x9000 ∧ emptyRun.eng.page (strDstAddr r 0) true = none ∧
       (s.tile 0).mayRequest ((s.tile 0).run 0).eng = true) := by decide

def copyOf (src dst begun : Nat) : Copy :=
  { id := 0, slot := 0, kind := 2, src := src, dst := dst, len := 8, tag := 7, packet := [], begun := begun, done := begun, deferred := false,
    paused := false, status := 0, eng := emptyEngine }

def mCopies (c : Copy) : State := (machine 2 0 fresh).modTile 0 fun x => { x with copies := [c] }

def atomicOf (op : Nat) : Atomic :=
  { id := 0, slot := 0, op := op, size := 2, unsigned_ := false, cond := 0, addr := 0x100, d := 1, b := 0, tag := 0, deferred := false,
    paused := false, eng := emptyEngine }

def answered : Atomic :=
  { atomicOf 0 with eng := { emptyEngine with outstanding := [{ seq := 0, first := 0, count := 1, write := false, data := some [1, 0, 0, 0, 0], losses := 0 }] } }

/-- CopyAndCompletionSteps, copies that work on DRAM at 0x5000: to it and from it, with the page unknown and known, in an operation that has
room; from DRAM to DRAM with no request out, and with the data of one. -/
theorem witness_dram_copies :
    (let c := { copyOf 0x4000 (2 ^ 63 + 0x5000) 4 with eng := page1 }
     copyDram c.src = false ∧ copyDram c.dst = true ∧ c.begun < c.len ∧ emptyEngine.page (copyAddr c.dst + c.begun) true = none ∧
       c.eng.page (copyAddr c.dst + c.begun) true = some 0x9004 ∧ ((mCopies c).tile 0).mayRequest c.eng = true ∧
       ((mCopies c).tile 0).badWord (copyAddr c.src + c.begun) 4 = none) ∧
    (let c := { copyOf (2 ^ 63 + 0x5000) 0x4000 4 with eng := page1 }
     copyDram c.src = true ∧ copyDram c.dst = false ∧ c.eng.page (copyAddr c.src + c.begun) false = some 0x9004 ∧
       emptyEngine.page (copyAddr c.src + c.begun) false = none) ∧
    (let c := { copyOf (2 ^ 63 + 0x5000) (2 ^ 63 + 0x5800) 0 with eng := page1 }
     copyDram c.src = true ∧ copyDram c.dst = true ∧ c.eng.outstanding = [] ∧ c.eng.page (copyAddr c.src + 0) false = some 0x9000 ∧
       c.eng.page (copyAddr c.dst + 0) true = some 0x9800 ∧ (asked false (some [1])).data = some [1]) := by decide

/-- CopyAndCompletionSteps: a copy that goes and one that is paused, within SRAM and to DRAM, with words left and none; a copy request edge with
a void and a valid token, an entry free and none; a stream that has ended and one that has not; a copy that failed; an atomic with its reply. -/
theorem witness_copies :
    (let c := copyOf 0x4000 0x5000 4
     let s := mCopies c
     (s.tile 0).copy? 0 = some c ∧ (s.tile 0).copyInProgress 0 = true ∧ c.paused = false ∧ c.status = 0 ∧ s.power.failing = false ∧
       copyDram c.src = false ∧ copyDram c.dst = false ∧ c.begun < c.len ∧ (s.tile 0).badWord (copyAddr c.src + c.begun) 4 = none ∧
       touchesBarrier (s.tile 0).barriers (copyAddr c.dst + c.begun) 4 = false) ∧
    ({ copyOf 0 0 0 with paused := true }.paused = true ∧ copyDram (copyOf 0 (2 ^ 63) 0).dst = true) ∧ ((mCopies (copyOf 0 0 0)).tile 0).copy? 1 = none ∧
    (let sends := fun (v : Bool) => (machine 2 0 fresh).modTile 0 fun x =>
        { x.modSlot 0 fun sl => sl.setOutQueue 0 { emptyOutQueue with local_ := [{ tok 1 with void := v }] } with edgeTab := [(0, 0x00800007#32)] }
     let s := sends false
     bitField ((s.tile 0).edgeFlags 0 ((s.slot 0 0).outEdge 0)) 1 1 = 1 ∧ ((s.slot 0 0).outQueue 0).local_ = [{ tok 1 with void := false }] ∧
       (((sends true).slot 0 0).outQueue 0).local_ = [{ tok 1 with void := true }] ∧ (s.tile 0).freeEntryNo = some 0 ∧
       ((fullInbox s).tile 0).freeEntryNo = none) ∧
    ((mRun (strTo 2 0 0x5000 0) { emptyRun with begun := 4 }).streamEnd 0 0 = some 0 ∧ (mRun (strTo 2 0 0x5000 0) emptyRun).streamEnd 0 0 = none) ∧
    { copyOf 0 0 0 with status := 0x21 }.status ≠ 0 ∧
    (let c := copyOf 0x4000 0x5000 8
     c.status = 0 ∧ c.deferred = false ∧ c.eng.outstanding = [] ∧ c.len ≤ c.begun ∧ ((mCopies c).tile 0).copyInProgress 0 = true ∧ c.eng.orphan = false) ∧
    answered.replied.isSome = true := by decide

def probeTo (tag va : Nat) (w : Bool) : XlateProbe :=
  { op := { tile := 0, key := .stream 0, run := 0 }, tag := tag, vpage := va / 4096, write := w, atomic := false, watch := false, walking := false }

/-- The machine with the pages of tag 5, which no swatch has. -/
def mPages : State := { machine 0 0 fresh with dram := pages }

def xl (rights : Nat) : Xlation := { tag := 5, base := 0, size := 4096, pa := 0x7000, rights := rights }

def replyOf (page : Option Nat) (cause : Nat) (key : OpKey) : ProbeReply :=
  { op := { tile := 0, key := key, run := 0 }, vpage := 5, write := true, page := page, cause := cause }

theorem witness_walks :
    mPages.walk 5 0 = .ok { tag := 5, base := 0, size := 2 ^ 30, pa := 0, rights := 7 } ∧ mPages.walk 5 (2 ^ 30) = .error 0x10 ∧
    mPages.walk 6 0 = .error 0x12 := ⟨rfl, rfl, rfl⟩

/-- TranslationSteps: a cached entry that gives the right and one that does not, and none, with a walk free or none (and in
witness_walks a walk that maps the page and ones that fail); replies with a page to a stream and to an atomic, with cause 0x12 and with another, before and after earlier accesses, and
one that nothing waits for; a notice new and told. -/
theorem witness_translation :
    (let p := probeTo 5 0x10 true
     let s := { mPages with xprobes := [p], xlations := [(mPages.home 5 0, [xl 7])] }
     s.xprobes[0]? = some p ∧ p.walking = false ∧ s.cached (s.home p.tag p.va) p.tag p.va = some (xl 7) ∧ hasRights (xl 7).rights p.need = true ∧
       hasRights (xl 1).rights p.need = false ∧ mPages.cached (mPages.home p.tag p.va) p.tag p.va = none ∧
       (mPages.walking (mPages.home p.tag p.va)).length < 64) ∧
    (let s := { mPages with stations := [0], xprobes := probeTo 5 0x10 true :: (List.range 64).map fun i => { probeTo 5 (4096 * (i + 1)) true with walking := true } }
     s.cached (s.home 5 0) 5 0 = none ∧ (5, 0) ∉ s.walking (s.home 5 0) ∧ 64 ≤ (s.walking (s.home 5 0)).length) ∧
    (let s := mRun (strTo 2 1 0x5000 0) emptyRun
     s.opEngine { tile := 0, key := .stream 0, run := 0 } = some emptyEngine ∧ s.opEngine { tile := 0, key := .copy 3, run := 3 } = none ∧
       (replyOf none 0x10 (.stream 0)).page = none ∧ emptyEngine.outstanding = [] ∧
       s.stoppingStream { tile := 0, key := .stream 0, run := 0 } = false ∧ (0x10 ≠ 0x12) ∧ (replyOf none 0x12 (.stream 0)).cause = 0x12 ∧
       (replyOf (some 9) 0 (.stream 0)).page = some 9 ∧ (replyOf (some 9) 0 (.atomic 0)).op.key = .atomic 0) ∧
    (let s := (machine 2 0 fresh).modTile 0 fun x => { x with atomics := [atomicOf 0] }
     s.opEngine { tile := 0, key := .atomic 0, run := 0 } = some emptyEngine) ∧
    (let s := { mPages with xprobes := [probeTo 5 0x10 true, probeTo 5 0x20 true], probeReplies := [replyOf none 0x10 (.stream 0), replyOf none 0x10 (.stream 0)] }
     isFirst s.probeWay s.xprobes 0 = true ∧ isFirst s.probeWay s.xprobes 1 = false ∧ isFirst s.probeReplyWay s.probeReplies 0 = true ∧
       isFirst s.probeReplyWay s.probeReplies 1 = false) ∧
    (let s := mRun (strTo 2 2 0 0) { emptyRun with voiding := true }
     s.voidingStream { tile := 0, key := .stream 0, run := 0 } = true ∧ (mRun (strTo 2 2 0 0) emptyRun).voidingStream ⟨0, .stream 0, 0⟩ = false ∧
       (mRun (strTo 5 2 0 0) emptyRun).stoppingStream ⟨0, .stream 0, 0⟩ = true ∧
       ∃ q ∈ { emptyEngine with outstanding := [asked false none] }.outstanding, q.data = none) := by decide

def reqOf (kind : MemKind) (pred : Option Nat) (held : Bool) : MemReq :=
  { op := { tile := 0, key := .stream 0, run := 0 }, station := 0, seq := 1, pred := pred, actor := 2, pa := 0x100, kind := kind, held := held }

def mReqs (l : List MemReq) : State := { mRun (strTo 2 1 0x5000 0) { emptyRun with eng :=
  { emptyEngine with outstanding := [{ seq := 1, first := 0, count := 1, write := true, data := none, losses := 0 }] } } with memReqs := l }

def watchOf (waiting : Bool) (d : Word64) : Watch :=
  { op := { tile := 0, key := .watch 0, run := 0 }, seq := 0, actor := 2, pa := 0x100, cond := 0, size := 2, unsigned_ := false, d := d, waiting := waiting }

/-- MemorySteps: a read, a write and an atomic whose predecessor is done; a request before its time that is held, that finds room and that finds
2,048 held; a reply for no operation, a refusal, an acknowledgement, and data for an atomic and a stream; a watch whose turn it is, met and not,
and one that is registered; a moment with nothing in flight, and one with. -/
theorem witness_memory :
    ((mReqs [reqOf (.read 4) none false]).memReqs[0]? = some (reqOf (.read 4) none false) ∧ (mReqs []).predDone (reqOf (.read 4) none false) = true) ∧
    (mReqs []).predDone (reqOf (.write [1]) (some 0) false) = false ∧ (mReqs []).heldAt 2 < 2048 ∧
    2048 ≤ (mReqs (List.replicate 2048 (reqOf (.write [1]) (some 0) true))).heldAt 2 ∧
    (reqOf (.atomic 0 2 false 1 0) none false).kind = .atomic 0 2 false 1 0 ∧
    ((mReqs []).opEngine { tile := 0, key := .copy 3, run := 3 } = none ∧
      ((mReqs []).opEngine { tile := 0, key := .stream 0, run := 0 }).any (fun g => g.outstanding.any fun o => o.seq == 1 && o.write) = true ∧
      (mRun (strTo 2 1 0x5000 0) emptyRun).opEngine { tile := 0, key := .stream 0, run := 0 } = some emptyEngine ∧
      ∀ o ∈ emptyEngine.outstanding, o.write = false) ∧
    (let s := { mReqs [] with watches := [watchOf true 0] }
     s.watches[0]? = some (watchOf true 0) ∧ (watchOf true 0).waiting = true ∧ (∀ v ∈ s.watches.take 0, v.waiting = true → v.actor ≠ 2) ∧
       (s.watches.filter fun v => !v.waiting && v.actor == 2).length < 1024 ∧ s.watchNow (watchOf true 0) ≠ s.watchNow (watchOf true 1) ∧
       (watchOf false 0).waiting = false) ∧
    (isFirst MemReq.way [reqOf (.read 4) none false] 0 = true ∧ isFirst MemReq.way [reqOf (.read 4) none false, reqOf (.read 4) none false] 1 = false) ∧
    (let s := { mReqs [] with dramOrder := { Order.empty with hist := [⟨⟨1, 0⟩, 3, 0x100, [0], false⟩, ⟨⟨2, 0⟩, 2, 0x200, [0], false⟩] } }
     let r := reqOf (.read 4) none false
     0 < s.accessSize r.op ∧ r.pa + 4 ≤ 2 ^ 60 ∧ s.dramOrder.writesAfter (s.dramSeen r.op r.actor) r.actor r.pa 4 = [] ∧
       s.dramOrder.writesAfter (s.dramSeen r.op 2) 2 0x200 1 ≠ [] ∧
       ∀ e ∈ (mReqs []).dramOrder.hist, e.node = r.actor → ((mReqs []).dramSeen r.op r.actor).lt e.stamp = false) ∧
    ((mReqs []).memReqs = [] ∧ (mReqs []).memReplies = [] ∧ (mReqs []).xprobes = [] ∧ (mReqs []).probeReplies = [] ∧
      (mReqs [reqOf (.read 4) none false]).memReqs ≠ []) := by
  refine ⟨by decide, by decide, by decide, ?_, by decide⟩
  have h : (mReqs (List.replicate 2048 (reqOf (.write [1]) (some 0) true))).memReqs = List.replicate 2048 (reqOf (.write [1]) (some 0) true) := rfl
  unfold State.heldAt
  rw [h, List.filter_replicate]
  simp [reqOf]

/-! #### The host -/

/-- The host side of a machine owned by adapter 0. -/
def hostOwned : HostSide := { HostSide.reset with owner := some 0 }

/-- A packet of tag n on the admin queue of adapter 0 that carries a command. -/
def hdr (c n : Nat) : Hdr := ⟨0, 0, c, 0, 0, 1, n⟩

theorem adapter_zero : ¬ Config.adapters ≤ 0 := by unfold Config.adapters; omega

theorem queue_zero (s : State) (n c : Nat) (hq : s.host.queues = []) : s.queueOf (hdr c n) = some (adminQueue 0) := by
  simp only [State.queueOf, State.queueAt, hdr, adapter_zero, if_false, hq, Map.find]
  rfl

theorem packet_tag (s : State) (n : Nat) (c : Cmd) (hr : s.coldNext = false) (hh : s.host = hostOwned) (hn : n < 8192)
    (ht : n = 0 ∨ c.about.all (· == n) = true) : PacketOk s (hdr c.code n) (adminQueue 0) c where
  taken := ⟨queue_zero _ _ _ (by rw [hh]; rfl), rfl, fun h => absurd (hr.symm.trans h) (by decide)⟩
  unbarred := fun h => by rw [hh] at h; cases h
  inOrder := fun n h => nomatch h
  header := by
    have h2 : (n == 0 || c.about.all (· == n)) = true := by rcases ht with rfl | h <;> simp [*]
    simp [headerOk, hdr, hn, h2]
  allowed := by rcases c with ⟨k, c, o⟩; cases c <;> simp [State.classOk, State.fromOwner, hh, hostOwned, hdr]

theorem packet_ok (s : State) (c : Cmd) (hr : s.coldNext = false) (hh : s.host = hostOwned) : PacketOk s (hdr c.code 0) (adminQueue 0) c :=
  packet_tag s 0 c hr hh (by decide) (.inl rfl)

/-- The machine of tile 0 owned, the pages of tags 3 and 5 mapped. -/
def mHost : State := { mPages with host := hostOwned }

def pair3 : HostQueue := { tag := 5, sub := 0, comp := 0, size := 16, lastSeq := some 1, deleting := [] }

/-- The same with queue pair 3 of adapter 0, of tag 5. -/
def mPair (q : HostQueue) : State := { mHost with host := { mHost.host with queues := [(queueKey 0 3, q)] } }

/-- A packet on queue pair 3. -/
def hdr3 (c seq tag : Nat) : Hdr := ⟨0, 3, c, 0, 0, seq, tag⟩

theorem queue_three (q : HostQueue) (c seq tag : Nat) : (mPair q).queueOf (hdr3 c seq tag) = some q := by
  simp only [State.queueOf, State.queueAt, hdr3, adapter_zero, if_false]
  rfl

def errors : Cmd := ⟨0x0C, .read, none⟩

/-- HostQueues: a packet that is in order; no queue, one that is being deleted, a module in recovery; a barred tag; a packet out of order, of
another tag, of another code, too long and with a reserved bit; one of a class that its queue may not carry; a guilt count that goes past its
limit; numbers of a queue at and beyond every bound, a tag with and without a context; a queue that is there and one that is not. Whether an
adapter has room is open, and whether there are more adapters. -/
theorem witness_queues :
    PacketOk mHost (hdr 0x0C 0) (adminQueue 0) errors ∧ mHost.queueOf ⟨Config.adapters, 3, 0, 0, 0, 1, 5⟩ = none ∧
    ((mPair { pair3 with deleting := [hdr 0x1A 0] }).queueOf (hdr3 0x0C 2 5) = some { pair3 with deleting := [hdr 0x1A 0] }) ∧
    (let s := { mHost with coldNext := true, recovery := true }
     s.coldNext = true ∧ CmdClass.owner ≠ .start ∧ Taken s (hdr 0x17 0) (adminQueue 0) .start) ∧
    (Taken { mHost with host := { mHost.host with barred := [5] } } (hdr 0x0E 5) (adminQueue 0) .owner ∧ 5 ∈ [5] ∧ CmdClass.owner ≠ .unbar) ∧
    (Taken (mPair pair3) (hdr3 0x0C 9 5) pair3 .read ∧ ¬ ∀ m ∈ pair3.lastSeq, 9 = (m + 1) % 2 ^ 64) ∧
    (headerOk (hdr3 0x0C 2 5) pair3 errors = true ∧ headerOk (hdr3 0x0C 2 6) pair3 errors = false ∧ headerOk (hdr3 0x0D 2 5) pair3 errors = false ∧
      headerOk { hdr3 0x0C 2 5 with len := 2047 } pair3 errors = true ∧ headerOk { hdr3 0x0C 2 5 with len := 2048 } pair3 errors = false ∧
      headerOk { hdr3 0x0C 2 5 with reserved := 1 } pair3 errors = false ∧
      headerOk (hdr 0x0E 5) (adminQueue 0) ⟨0x0E, .owner, some 5⟩ = true ∧ headerOk (hdr 0x0E 6) (adminQueue 0) ⟨0x0E, .owner, some 5⟩ = false) ∧
    (Taken (mPair pair3) (hdr3 0x1A 2 5) pair3 .owner ∧ (∀ m ∈ pair3.lastSeq, 2 = (m + 1) % 2 ^ 64) ∧
      headerOk (hdr3 0x1A 2 5) pair3 ⟨0x1A, .owner, none⟩ = true ∧ (mPair pair3).classOk (hdr3 0x1A 2 5) pair3 .owner = false) ∧
    (PacketOk mHost (hdr 0xFF 5) (adminQueue 0) ⟨0xFF, .read, none⟩ ∧ Map.get 16 mHost.host.limits 5 < min 255 (Map.get 0 [(5, 16)] 5 + 1) ∧
      ¬ Map.get 16 mHost.host.limits 5 < min 255 (Map.get 0 [(5, 15)] 5 + 1)) ∧
    ((256 = 0 ∨ 255 < 256) ∧ (3 < 4 ∧ 16 < 17) ∧ Map.find (mPair pair3).host.queues (queueKey 0 3) ≠ none) ∧
    (PacketOk mHost (hdr 0x19 5) (adminQueue 0) ⟨0x19, .owner, some 5⟩ ∧ PacketOk mHost (hdr 0x1A 0) (adminQueue 0) ⟨0x1A, .owner, some 0⟩ ∧
      ¬ (255 = 0 ∨ 255 < 255 ∨ 4 < 4 ∨ 16 < 4 ∨ Map.find mHost.host.queues (queueKey 0 255) ≠ none) ∧ mHost.tagLive 6 = false ∧
      mHost.tagLive 5 = true ∧ 0 < Config.adapters) ∧
    (Map.find (mPair pair3).host.queues (queueKey 0 3) = some pair3 ∧ 3 ≠ 0 ∧ Map.find mHost.host.queues (queueKey 0 3) = none) := by
  refine ⟨packet_ok _ errors rfl rfl, by simp [State.queueOf, State.queueAt], queue_three _ _ _ _,
    ⟨rfl, by decide, queue_zero _ _ _ rfl, rfl, fun _ => ⟨rfl, rfl⟩⟩, ⟨⟨queue_zero _ _ _ rfl, rfl, fun h => nomatch h⟩, by decide, by decide⟩,
    ⟨⟨queue_three _ _ _ _, rfl, fun h => nomatch h⟩, fun h => absurd (h 1 rfl) (by decide)⟩, by decide +kernel,
    ⟨⟨queue_three _ _ _ _, rfl, fun h => nomatch h⟩, by decide, by decide, by decide⟩,
    ⟨packet_tag _ 5 ⟨0xFF, .read, none⟩ rfl rfl (by decide) (.inr rfl), by decide, by decide⟩, by decide,
    ⟨packet_tag _ 5 ⟨0x19, .owner, some 5⟩ rfl rfl (by decide) (.inr rfl), packet_ok _ ⟨0x1A, .owner, some 0⟩ rfl rfl, by decide, by decide, by decide,
      by have := adapter_zero; omega⟩, by decide⟩

/-- A launch record at 0x80100 of a rectangle of one tile, and another at 0x80180 of the whole mesh, with an image of no rows at 0x80200; a saved
image at 0x80300 of the first, of no actor, whose digest is that of no bytes; the same at 0x80400, of tag 0. -/
def mLaunch : State :=
  { mHost with dram := pages ++ [(0x80100, 0x4C), (0x80101, 0x4E), (0x80102, 0x43), (0x80103, 0x48), (0x80108, 1), (0x8010A, 1), (0x8010C, 5),
      (0x80111, 0x02), (0x80112, 0x08), (0x80118, 16), (0x80120, 8), (0x80126, 1),
      (0x80180, 0x4C), (0x80181, 0x4E), (0x80182, 0x43), (0x80183, 0x48), (0x80188, 176), (0x8018A, 200), (0x8018C, 5),
      (0x80191, 0x02), (0x80192, 0x08), (0x80198, 16), (0x801A0, 8), (0x801A6, 1),
      (0x80200, 0x52), (0x80201, 0x49), (0x80202, 0x4D), (0x80203, 0x47),
      (0x80300, 0x56), (0x80301, 0x41), (0x80302, 0x53), (0x80303, 0x4B), (0x8030C, 5), (0x80311, 0x01), (0x80312, 0x08), (0x80350, 128)] ++
      ((List.range 32).map fun i => (0x80360 + i, (digest []).getD i 0)) ++
      [(0x80400, 0x56), (0x80401, 0x41), (0x80402, 0x53), (0x80403, 0x4B), (0x80411, 0x01), (0x80412, 0x08), (0x80450, 128)] ++
      (List.range 32).map fun i => (0x80460 + i, (digest []).getD i 0) }

theorem mapped_launch : Mapped mLaunch 5 := ⟨by decide, by decide, by decide, by decide, by decide⟩

def recordAt (va : Nat) : Words := Words.ofList (bytesWords (mLaunch.physRead va 128))

def imgNone : Image := { orderDependent := false, edges := 0, rows := [] }

theorem choose_some (s : State) (r : Words) (img : Image) (x y : Nat) (hx : x < meshW s.variant) (hy : y < 200) (h : s.originOk r img x y = true) :
    ∃ o, s.chooseOrigin r img = some o := by
  have m : (x, y) ∈ s.origins r img := by
    unfold State.origins
    exact List.mem_flatMap.mpr ⟨y, List.mem_range.mpr hy, List.mem_map.mpr ⟨x, List.mem_filter.mpr ⟨List.mem_range.mpr hx, h⟩, rfl⟩⟩
  have hl : 0 < (s.origins r img).length := List.length_pos_of_mem m
  unfold State.chooseOrigin
  exact ⟨_, List.getElem?_eq_getElem (Nat.mod_lt _ hl)⟩

theorem choose_none : mLaunch.chooseOrigin (recordAt 0x80180) imgNone = none := by
  have e : mLaunch.origins (recordAt 0x80180) imgNone = [] := by
    unfold State.origins
    simp only [List.flatMap_eq_nil_iff, List.mem_range, List.map_eq_nil_iff, List.filter_eq_nil_iff]
    intro y _ x _ h
    unfold State.originOk at h
    have hw : Words.field (recordAt 0x80180) 2 0 16 = 176 := by decide +kernel
    have hh : Words.field (recordAt 0x80180) 2 16 16 = 200 := by decide +kernel
    have hv : meshW mLaunch.variant = 176 := rfl
    simp only [hw, hh, hv, Bool.and_eq_true, decide_eq_true_eq] at h
    obtain ⟨⟨⟨hx, hy⟩, ho⟩, -⟩ := h
    have x0 : x = 0 := by omega
    have y0 : y = 0 := by omega
    subst x0 y0
    exact absurd ho (by decide +kernel)
  unfold State.chooseOrigin
  rw [e]
  rfl

/-- The machine with a swatch being cast on, of tag 3 with its scope table at an address; words 3 and 34 of slot 0, which is of a class, say
what it is in a loop and where its output goes. -/
def mCast (w3 w34 cls va : Nat) : State :=
  { mHost.modSlot 0 0 (fun sl => { sl with record := Words.setField (Words.setWord (Words.setWord sl.record 3 w3) 34 w34) 1 4 2 cls }) with
    swatches := [(1, { emptySwatch with w := 2, h := 1, tag := 3, phase := .casting, launch := [(10, BitVec.ofNat 32 va)] })] }

/-- The same once every tile has acknowledged. -/
def mOpen (va : Nat) : State :=
  ((mCast 0 0x1E0007 0 va).giveCredits 1).modSwatch 1 fun w => { w with phase := if w.stop.isSome then .stopping else .open_ }

theorem cast_table : ∃ va s2, (mOpen va).loadTable 1 = .ok s2 := by
  obtain ⟨va, hv, h⟩ := view_away mOpen 1 (fun va => (mOpen va).swatch 1) 3 4096 (by rintro va (rfl | rfl) <;> rfl)
    (by rintro va (rfl | rfl) <;> exact viewSize_small rfl (by decide)) (by decide)
  have ha : Words.dword ((mOpen va).swatch 1).launch 10 = va := by rcases hv with rfl | rfl <;> rfl
  have hr := readVirt_mapped (s := mOpen va) (tag := 3) (va := va) (n := 4096)
    (by rcases hv with rfl | rfl <;> exact ⟨by decide, by decide, by decide, by decide, by decide⟩)
    (by rcases hv with rfl | rfl <;> decide) (by omega) (h va (Nat.le_refl _) (by omega))
  have e1 : ((mOpen va).swatch 1).tag = 3 := by rcases hv with rfl | rfl <;> rfl
  have e2 : Words.word ((mOpen va).swatch 1).launch 14 = 0 := by rcases hv with rfl | rfl <;> rfl
  exact ⟨va, _, by simp only [State.loadTable, e1, ha, hr, e2, State.readSeeds, bind, Except.bind]; rfl⟩

/-- LaunchResults: a record that cannot be read, one that is malformed, one whose image is not there, one for which no rectangle is free and one
for which one is, with settings that pass and that do not; a segment that is empty, that follows, and that breaks a rule, on a tile that is clear
and one that is not; a cast-on that is done, with a loop that is broken, one that pipelines an actor that is not pure, one that does not, a
pre-emption, and a table that cannot be read and one that can. That queues fit is open. -/
theorem witness_launch :
    (PacketOk mLaunch (hdr 1 6) (adminQueue 0) ⟨1, .owner, none⟩ ∧ mLaunch.readVirt 6 0x80100 128 = .error 0x12) ∧
    (mLaunch.readVirt 5 0x90000 128 = .ok (mLaunch.physRead 0x90000 128) ∧ launchMalformed .w2 (recordAt 0x90000) = true) ∧
    (PacketOk mLaunch (hdr 1 5) (adminQueue 0) ⟨1, .owner, none⟩ ∧ mLaunch.readVirt 5 0x80100 128 = .ok (mLaunch.physRead 0x80100 128) ∧
      launchMalformed mLaunch.variant (recordAt 0x80100) = false ∧ 0x80100 % 64 = 0 ∧ Words.field (recordAt 0x80100) 1 0 1 ≠ 1 ∧
      Words.field [(1, 1#32)] 1 0 1 = 1 ∧ settingsOk (recordAt 0x80100) = true ∧ settingsOk [(8, 8#32)] = false ∧
      mLaunch.readImage (recordAt 0x80100) = .ok imgNone ∧ ∃ o, mLaunch.chooseOrigin (recordAt 0x80100) imgNone = some o) ∧
    (mLaunch.readImage [(3, 6#32), (6, 4#32)] = .error (0x12, 0) ∧ mLaunch.readImage [(3, 5#32)] = .error (0xE6, 0)) ∧
    (launchMalformed mLaunch.variant (recordAt 0x80180) = false ∧
      mLaunch.readImage (recordAt 0x80180) = .ok imgNone ∧ mLaunch.chooseOrigin (recordAt 0x80180) imgNone = none) ∧
    (let s := mCast 0 0x1E0007 0 0
     (s.swatch 1).phase = .casting ∧ (s.tile 0).followClear (true, [(0x00000000, 0)]) = false ∧
      (s.tile 0).followClear (true, [(0x00000100, 0)]) = true ∧ s.applySegment 1 0 (false, [(0x50000000, 0)]) = .error 0x50000000 ∧
      (Config.queueFits 1 [] = true → ∃ v, s.applySegment 1 1 (false, []) = .ok v)) ∧
    ((mCast 0 0x1E0007 0 0).liveSwatch 1 = true ∧ ((mCast 0 0x1E0007 0 0).swatch 1).segments = [] ∧ (mCast 0 0x1E0007 0 0).graphBad 1 = none ∧
      (mCast 2 0x1E0007 0 0).graphBad 1 = some (0, recordCommand 0 3) ∧ (mCast 0x02000002 0x1E0005 0 0).graphBad 1 = none ∧
      (mCast 0x02000002 0x1E0005 2 0).graphBad 1 = some (0, recordCommand 0 1)) ∧
    (∃ va s2, (mOpen va).loadTable 1 = .ok s2 ∧ ((mCast 0 0x1E0007 0 va).swatch 1).preempt = none ∧ ((mCast 0 0x1E0007 0 va).swatch 1).heldCmds = []) ∧
    ((mCast 0 0x1E0007 0 0).modSwatch 1 fun w => { w with tag := 6 }).loadTable 1 = .error 0x12 := by
  refine ⟨⟨packet_tag _ 6 ⟨1, .owner, none⟩ rfl rfl (by decide) (.inr rfl), rfl⟩,
    ⟨readVirt_mapped mapped_launch (by decide) (by decide) rfl, by decide +kernel⟩,
    ⟨packet_tag _ 5 ⟨1, .owner, none⟩ rfl rfl (by decide) (.inr rfl), readVirt_mapped mapped_launch (by decide) (by decide) rfl, by decide +kernel,
      by decide, by decide +kernel, by decide, by decide +kernel, by decide +kernel, ?_, ?_⟩, ⟨rfl, rfl⟩,
    ⟨by decide +kernel, ?_, choose_none⟩, ⟨by decide, by decide, by decide, rfl, ?_⟩, ⟨by decide, by decide, by decide, by decide, by decide⟩, ?_,
    rfl⟩
  · rfl
  · exact choose_some _ _ _ 5 5 (by decide) (by decide) (by decide +kernel)
  · rfl
  · intro h
    have e : ((mCast 0 0x1E0007 0 0).applySegment 1 1 (false, [])) = if Config.queueFits 1 [] then .ok ((mCast 0 0x1E0007 0 0).modConfig 1 fun _ => (mCast 0 0x1E0007 0 0).tile 1)
      else .error (recordCommand 0 9) := rfl
    rw [e, h]
    exact ⟨_, rfl⟩
  · obtain ⟨va, s2, h⟩ := cast_table
    exact ⟨va, s2, h, rfl, rfl⟩

def mTable (w : Swatch → Swatch) : State := { mHost with swatches := [(1, w ((machine 0 0 fresh).swatch 1))] }

def mCodes (code : Nat) : State := mTable fun w => { w with scopes := [(4, scopeWith code 0)] }

/-- HostScopesAndTokens: a scope table loaded and not; an entry that is free, open and terminal; a swatch that is not live; a granted semaphore and
a slot that is not the swatch's; a token that its packet can carry and one that it cannot; an edge from the host and one that is none, with the
launch under way and open. -/
theorem witness_host_scopes :
    (∀ n c, PacketOk (mCodes 1) (hdr n 0) (adminQueue 0) ⟨n, c, (mCodes 1).tagOf 1⟩) ∧
    ((mCodes 1).liveSwatch 1 = true ∧ (mCodes 1).liveSwatch 2 = false ∧ ((mCodes 1).swatch 1).tableLoaded = true) ∧
    ((((mCodes 1).swatch 1).scope 4).stateCode = 1 ∧ (((mCodes 1).swatch 1).scope 5).stateCode = 0 ∧
      terminalCode (((mCodes 5).swatch 1).scope 4).stateCode = true ∧ terminalCode (((mCodes 1).swatch 1).scope 4).stateCode = false) ∧
    ((mTable fun w => { w with tableLoaded := false }).swatch 1).tableLoaded = false ∧
    (((mCodes 1).swatch 1).at? 0 0 = some 0 ∧ (mCodes 1).names 1 0 0 = true ∧ (mCodes 1).names 1 0 1 = false ∧ 3 < ((mCodes 1).tile 0).semCount 0 ∧
      ((mCodes 1).tile 0).semCount 0 ≤ 4) ∧
    ([1, 2].length ≤ 8 * 1 ∧ ¬ [1, 2].length ≤ 8 * 0) ∧
    ((mCodes 1).hostInput 1 5 = true ∧ (mCodes 1).hostInput 1 77 = false ∧ ((mCodes 1).swatch 1).phase ≠ .bindingOff ∧
      ((mCodes 1).swatch 1).phase ≠ .casting) ∧
    (((mTable fun w => { w with phase := .casting, edgeCount := 6 }).swatch 1).phase = .casting ∧ 5 < 6) :=
  ⟨fun n c => packet_ok _ ⟨n, c, _⟩ rfl rfl, by decide⟩

def stopNow : StopInfo := { cause := 0x31, tile := 0, slot := 0, firing := false, message := none, notified := false }

/-- A swatch of no tile whose save is asked for at an address. -/
def mSave (va : Nat) : State :=
  { mHost with swatches := [(9, { emptySwatch with tag := 3, phase := .open_, preempt := some (va, false), tableLoaded := true })] }

theorem leBytes_size : ∀ n x, (leBytes n x).length = n
  | 0, _ => rfl
  | n + 1, x => by rw [leBytes, List.length_cons, leBytes_size n]

theorem save_length (s : State) (sw reason : Nat) (h : (s.swatch sw).tiles = []) (h2 : s.actorsOf sw = []) : (s.saveImage sw reason).length = 135296 := by
  have hs : (s.swatch sw).scopeBytes.length = 135168 := by
    have h4 : ∀ x, (leBytes 4 x).length = 4 := leBytes_size 4
    simp only [Swatch.scopeBytes, List.length_append, List.length_flatMap, wordsBytes, Words.toList,
      List.length_take, List.length_replicate, List.map_map, Function.comp_def, h4]
    have e : ∀ n, (min 512 (n + 512)) = 512 := by omega
    simp only [e]
    decide
  have hd : ∀ b, (digest b).length = 32 := by intro b; simp [digest]
  simp only [State.saveImage, State.savedActors, State.savedEdges, State.savedStreams, State.savedWatches, h, h2, List.flatMap_nil, List.zipIdx_nil,
    List.map_nil, List.flatten_nil, List.eraseDups_nil, List.append_nil, List.length_append, List.length_nil, hs, hd, le4, le8, leBytes_size]

/-- An image is written somewhere. -/
theorem save_written : ∃ va v, (va = 0x80000 ∨ va = 0x200000) ∧ (mSave va).writeVirt 3 va ((mSave va).saveImage 9 0x31) = .ok v := by
  obtain ⟨va, hv, h⟩ := view_away mSave 9 _ 3 135296 (fun _ _ => rfl) (fun _ _ => viewSize_small rfl (show 0 * 0 ≤ 8 from by decide)) (by decide)
  have hl := save_length (mSave va) 9 0x31 rfl (by rcases hv with rfl | rfl <;> decide)
  obtain ⟨v, hw⟩ := writeVirt_mapped (s := mSave va) (tag := 3) (va := va) (bs := (mSave va).saveImage 9 0x31)
    (by rcases hv with rfl | rfl <;> exact ⟨by decide, by decide, by decide, by decide, by decide⟩) (by rw [hl]; omega) (by rw [hl]; exact h)
  exact ⟨va, v, hv, hw⟩

/-- StopResults: a save address that is good, 0 and misaligned; a stopped swatch, answered already and not, and one that is not, one that is bound
off, one that is being cast on; a stop that is complete, with a firing halted, one abandoned and one that runs; a save that is ready and one that is
not, with its table loaded and not, at an address given, in the launch's own area with room and without, and at one that meets a fault; a bind-off
that is complete and one that is not. -/
theorem witness_stops :
    ((∀ n, PacketOk (mCodes 1) (hdr n 0) (adminQueue 0) ⟨n, .owner, (mCodes 1).tagOf 1⟩) ∧ (mCodes 1).liveSwatch 1 = true ∧ 64 % 64 = 0 ∧ 64 ≠ 0 ∧
      65 % 64 ≠ 0 ∧ ((mCodes 1).swatch 1).preempt = none ∧ ((mCodes 1).swatch 1).stop = none ∧ ((mCodes 1).swatch 1).phase ≠ .bindingOff ∧
      ((mCodes 1).swatch 1).phase ≠ .stopped ∧ (mCodes 1).liveSwatch 2 = false) ∧
    (((mTable fun w => { w with phase := .stopped }).swatch 1).phase = .stopped ∧ ((mTable fun w => { w with phase := .stopped }).swatch 1).afterStop = false ∧
      ((mTable fun w => { w with phase := .bindingOff }).swatch 1).phase = .bindingOff ∧
      ((mTable fun w => { w with phase := .casting }).swatch 1).phase = .casting) ∧
    (let s := mTable fun w => { w with phase := .stopping, stop := some stopNow }
     let halts := s.modTile 0 fun x => { x with firing := some (withPhase (.halted 0x1000)) }
     let leaves := (mTable fun w => { w with phase := .stopping, stop := some stopNow, preempt := some (64, false) }).modTile 0 fun x =>
       { x with firing := some (withPhase .abandoned) }
     (halts.swatch 1).stop = some stopNow ∧ halts.liveSwatch 1 = true ∧ (halts.swatch 1).phase = .stopping ∧ halts.quiet 1 = true ∧
       (∀ t ∈ (halts.swatch 1).tiles, (halts.firingIn 1 t).all (·.isHalted) = true ∧ halts.enginesAtRest 1 t = true) ∧
       (∀ t ∈ (leaves.swatch 1).tiles, (leaves.firingIn 1 t).all (fun f => f.phase == .abandoned && !(leaves.tile t).attemptBusy f.uid) = true) ∧
       (leaves.swatch 1).preempt ≠ none ∧ (s.firingIn 1 0).all (·.isHalted) = false) ∧
    (∃ va v, ((mSave va).swatch 9).preempt = some (va, false) ∧ (mSave va).liveSwatch 9 = true ∧ (mSave va).saveReady 9 = true ∧
      ((mSave va).swatch 9).tableLoaded = true ∧ va % 64 = 0 ∧ va ≠ 0 ∧ (mSave va).writeVirt 3 va ((mSave va).saveImage 9 0x31) = .ok v) ∧
    ((mSave 65).saveReady 9 = true ∧ 65 % 64 ≠ 0 ∧ (mTable fun w => { w with preempt := some (64, false) }).saveReady 1 = false) ∧
    ((mSave 0).saveImage 9 0x31).length = 135296 ∧ (135296 ≤ Words.dword [(20, 135296#32)] 20 ∧ ¬ 135296 ≤ Words.dword [] 20) ∧
    ((mSave 64).modSwatch 9 fun w => { w with tag := 6 }).writeVirt 6 64 [1] = .error 0x12 ∧
    ((mSave 64).modSwatch 9 fun w => { w with tag := 6, tableLoaded := false }).loadTable 9 = .error 0x12 ∧
    (let s := (mTable fun w => { w with phase := .bindingOff }).modTile 0 fun x => { x with firing := none, slots := [(0, { emptySlot with record := recordOf 0 0, swatch := 1 })] }
     s.liveSwatch 1 = true ∧ (s.swatch 1).phase = .bindingOff ∧ s.quiet 1 = true ∧ (∀ t ∈ (s.swatch 1).tiles, s.firingIn 1 t = none ∧
       (s.tile t).opsIn (fun g => g.swatch == 1) = false) ∧ ∀ a ∈ s.actorsOf 1, (s.tile a.1).slotBusy a.2 = false) ∧
    (mTable fun w => { w with phase := .bindingOff }).firingIn 1 0 ≠ none := by
  refine ⟨⟨fun n => packet_ok _ ⟨n, .owner, _⟩ rfl rfl, by decide⟩, by decide, by decide, ?_, by decide, ?_, by decide, rfl, rfl, by decide, by decide⟩
  · obtain ⟨va, v, hv, h⟩ := save_written
    exact ⟨va, v, rfl, rfl, by rcases hv with rfl | rfl <;> decide, rfl, by rcases hv with rfl | rfl <;> decide, by rcases hv with rfl | rfl <;> decide, h⟩
  · exact save_length _ _ _ rfl (by decide)

def moving : Rebind := { id := 7, tile := 0, slot := 0, toTile := 1, toSlot := 0, senders := [1], held := [1], acked := [] }

/-- Slot 0 of tile 0 congested, with no stream granted, and tile 1 with SRAM to spare. -/
def mMove : State :=
  let s := (machine 0 0 fresh).modTile 0 fun x =>
    { x.modSlot 0 fun sl => ((sl.setState 1).setRec 9 16 16 20).setRec 12 16 16 2 with firing := none, cwords := [(0x040, 0x00001000#32)] }
  s.setTile 1 { emptyTile with cwords := [(0x05F, 0xC00#32)] }

/-- ActorMoves: a congested actor that may move, where its pins and the room on its new tile, which are open, allow it, and one that may not; a
sender that is told to hold, one that holds already and one that is none; acknowledgements that are in, and a move that is ready and one that is
not; a move whose end is still allowed and one whose end is not. -/
theorem witness_moves :
    (Config.pinned 0 0 = false → Config.queueFits 1 [(20, 1), (2, 1)] = true → mMove.mayMove 0 0 = true ∧ mMove.canTake 0 0 1 0 = true ∧
      mMove.unbound 0 0 = true) ∧
    ((mMove.slot 0 0).congested = true ∧ (∀ j < 17, j ≠ 0 → mMove.isReady 0 j = false) ∧ mMove.rebinds = []) ∧
    ((machine 0 0 fresh).slot 0 0).congested = false ∧ (machine 0 0 fresh).canTake 0 0 0 1 = false ∧
    (let s := { machine 0 0 fresh with rebinds := [{ moving with held := [] }] }
     s.rebinds.find? (fun r => r.id == 7) = some { moving with held := [] } ∧ 1 ∈ moving.senders ∧ 1 ∉ { moving with held := [] }.held ∧ 2 ∉ moving.senders ∧
       1 ∈ moving.held) ∧
    (let s := { machine 0 0 fresh with rebinds := [moving], net := [(pk 1 0 .token (.holdAck 7)), (pk 1 0 .paged (.holdAck 7)), (pk 1 0 .slotReturn (.holdAck 7))] }
     1 ∈ moving.held ∧ 1 ∉ moving.acked ∧ (∀ c ∈ rebindClasses, s.ackFirst 1 0 7 c = true) ∧
       (s.takeAcks moving 1).rebinds.find? (fun r => r.id == 7) = some { moving with acked := [1] } ∧
       (s.takeAcks moving 1).moveReady { moving with acked := [1] } = false ∧
       ((s.takeAcks moving 1).modTile 0 fun x => { x with firing := none }).moveReady { moving with acked := [1] } = true) ∧
    (mReady.moveReady { moving with acked := [1] } = true ∧ mReady.moveReady moving = false) := by
  refine ⟨?_, by decide⟩
  intro h hq
  have hu : mMove.unbound 0 0 = true := by
    unfold State.unbound
    rw [h]
    decide
  have e : mMove.canTake 0 0 1 0 = Config.queueFits 1 [(20, 1), (2, 1)] := rfl
  exact ⟨by unfold State.mayMove; rw [hu]; decide, e.trans hq, hu⟩

/-- A saved image of mLaunch: what its header must hold. -/
theorem saved_at {va : Nat} (hr : mLaunch.readVirt 5 va 128 = .ok (mLaunch.physRead va 128))
    (h1 : ((mLaunch.physRead va 128).drop 0x60).take 32 = (List.range 32).map fun i => (digest []).getD i 0)
    (h2 : (mLaunch.physRead va 128).drop 128 = []) (n0 : imageNat (mLaunch.physRead va 128) 0x50 8 = 128)
    (n1 : imageNat (mLaunch.physRead va 128) 0 4 = 0x4B534156) (n2 : imageNat (mLaunch.physRead va 128) 0x10 8 = 0x80100) :
    mLaunch.readSaved 5 va = .ok (mLaunch.physRead va 128, recordAt 0x80100, imgNone) := by
  have hl : mLaunch.readVirt 5 0x80100 128 = .ok (mLaunch.physRead 0x80100 128) := readVirt_mapped mapped_launch (by decide) (by decide) rfl
  have hd : ((mLaunch.physRead va 128).drop 0x60).take 32 = digest ((mLaunch.physRead va 128).drop 128) := by
    have h3 : (digest []).length = 32 := by simp [digest]
    rw [h1, h2]
    apply List.ext_getElem
    · simp [h3]
    · intro i hi _
      have : i < 32 := by simpa using hi
      simp [List.getElem?_eq_getElem (h3 ▸ this : i < (digest []).length)]
  have hi : mLaunch.readImage (Words.ofList (bytesWords (mLaunch.physRead 0x80100 128))) = .ok imgNone := rfl
  have hv : ¬ (Words.field (Words.ofList (bytesWords (mLaunch.physRead 0x80100 128))) 1 0 1 = 1 ∧ mLaunch.variant = .w2q) :=
    fun h => absurd h.2 (by decide)
  simp only [State.readSaved, hr, n0, n1, n2, hd, hl, hi, hv, ne_eq, not_true_eq_false, or_self, if_false, recordAt]

/-- The images at 0x80300, of the tag that reads it, and at 0x80400, of another; what restoring the former meets. -/
theorem saved_read : (∃ b, mLaunch.readSaved 5 0x80300 = .ok (b, recordAt 0x80100, imgNone) ∧ 5 = imageNat b 12 4 ∧
      ∃ v, mLaunch.restoreImage 7 b (recordAt 0x80100) imgNone 5 5 = .ok v) ∧
    ∃ b, mLaunch.readSaved 5 0x80400 = .ok (b, recordAt 0x80100, imgNone) ∧ 5 ≠ imageNat b 12 4 :=
  ⟨⟨_, saved_at (readVirt_mapped mapped_launch (by decide) (by decide) rfl) rfl rfl rfl rfl rfl, rfl, _, rfl⟩,
    _, saved_at (readVirt_mapped mapped_launch (by decide) (by decide) rfl) rfl rfl rfl rfl rfl, by decide⟩

def haltedFiring : Firing := withPhase (.halted 0x1000)

/-- HostReadsAndTranslation: a slot of the swatch, a slot that is not and a place outside it; places at the ends of both logs and beyond; a write that
lands and one that is refused; a tile of the mesh, halted, with events of the debugger logged and the bit that clears the log set, and with no
firing; a notice that waits for its answer, and none; a saved image that cannot be read, one that can, with a rectangle free for it and none, and one
of another tag. -/
theorem witness_host_reads :
    (PacketOk (mCodes 1) (hdr 0x0B 0) (adminQueue 0) ⟨0x0B, .read, (mCodes 1).tagOf 1⟩ ∧ (mCodes 1).liveSwatch 1 = true ∧
      ((mCodes 1).swatch 1).at? 0 0 = some 0 ∧ (mCodes 1).names 1 0 0 = true ∧ (mCodes 1).names 1 0 17 = false ∧ ((mCodes 1).swatch 1).at? 2 0 = none) ∧
    ((175 < meshW (mCodes 1).variant ∧ 199 < 200) ∧ (191 < 24 * fieldCols (mCodes 1).variant ∧ 209 < 210) ∧ ¬ (176 < meshW (mCodes 1).variant ∧ 0 < 200)) ∧
    (PacketOk mHost (hdr 0x17 0) (adminQueue 0) ⟨0x17, .start, none⟩ ∧ PacketOk mHost (hdr 0x12 0) (adminQueue 0) ⟨0x12, .start, none⟩ ∧
      PacketOk mHost (hdr 0x11 0) (adminQueue 0) ⟨0x11, .owner, none⟩ ∧ tileX 0 < meshW mHost.variant ∧ tileY 0 < 200) ∧
    ((∃ v, mLaunch.writeVirt 5 0x90000 [1, 2] = .ok v) ∧ mLaunch.writeVirt 6 0x90000 [1, 2] = .error 0x12) ∧
    (let s := mHost.modTile 0 fun x => { x with firing := some haltedFiring, cwords := [(0x405, 0x20#32)], debugLog := [[1#32, 0x1000#32, 0#32, 0#32]] }
     (s.tile 0).firing = some haltedFiring ∧ haltedFiring.phase = .halted 0x1000 ∧ bitField ((s.tile 0).cword 0x405) 5 1 = 1 ∧
      ((mHost.modTile 0 fun x => { x with firing := none }).tile 0).firing = none) ∧
    (let n : Notice := { id := 4, op := { tile := 0, key := .stream 0, run := 0 }, tag := 5, va := 0, cause := 0x10, stage := 1 }
     { mHost with notices := [n] }.notices.find? (fun n => n.id == 4 && n.stage == 1) = some n ∧
       mHost.notices.find? (fun n => n.id == 4 && n.stage == 1) = none ∧
       PacketOk { mHost with notices := [n] } (hdr 0x0A 5) (adminQueue 0) ⟨0x0A, .owner, some 5⟩) ∧
    (PacketOk mHost (hdr 0x0E 5) (adminQueue 0) ⟨0x0E, .owner, some 5⟩ ∧ PacketOk mHost (hdr 0x0F 0) (adminQueue 0) ⟨0x0F, .owner, some 0⟩ ∧
      PacketOk mLaunch (hdr 0x09 5) (adminQueue 0) ⟨0x09, .owner, none⟩) ∧
    mLaunch.readSaved 6 0x80300 = .error 0x12 ∧
    (∃ b, mLaunch.readSaved 5 0x80400 = .ok (b, recordAt 0x80100, imgNone) ∧ 5 ≠ imageNat b 12 4) ∧
    (∃ b, mLaunch.readSaved 5 0x80300 = .ok (b, recordAt 0x80100, imgNone) ∧ 5 = imageNat b 12 4 ∧ (∃ o, mLaunch.chooseOrigin (recordAt 0x80100) imgNone = some o) ∧
      ∃ v, mLaunch.restoreImage 7 b (recordAt 0x80100) imgNone 5 5 = .ok v) ∧
    mLaunch.chooseOrigin (recordAt 0x80180) imgNone = none := by
  refine ⟨⟨packet_ok _ ⟨0x0B, .read, _⟩ rfl rfl, by decide⟩, by decide,
    ⟨packet_ok _ ⟨0x17, .start, none⟩ rfl rfl, packet_ok _ ⟨0x12, .start, none⟩ rfl rfl, packet_ok _ ⟨0x11, .owner, none⟩ rfl rfl, by decide⟩,
    ⟨writeVirt_mapped mapped_launch (by decide) fun _ _ _ => rfl, rfl⟩, by decide,
    ⟨by decide, by decide, packet_tag _ 5 ⟨0x0A, .owner, some 5⟩ rfl rfl (by decide) (.inr rfl)⟩,
    ⟨packet_tag _ 5 ⟨0x0E, .owner, some 5⟩ rfl rfl (by decide) (.inr rfl), packet_ok _ ⟨0x0F, .owner, some 0⟩ rfl rfl,
      packet_tag _ 5 ⟨0x09, .owner, none⟩ rfl rfl (by decide) (.inr rfl)⟩, rfl, saved_read.2, ?_, choose_none⟩
  obtain ⟨b, h, e, v⟩ := saved_read.1
  exact ⟨b, h, e, choose_some _ _ _ 5 5 (by decide) (by decide) (by decide +kernel), v⟩

/-- PowerResults: a cap at the bound and beyond; each step of the throttle and its release; a power failure and none; a moment that is calm and one
that is not; a swatch that may be parked. -/
theorem witness_power :
    (PacketOk mHost (hdr 0x10 0) (adminQueue 0) ⟨0x10, .owner, some 0⟩ ∧ 15 < 16 ∧ 16 ≤ 16) ∧
    (∀ n < 5, { mHost with power := { Power.reset with step := n } }.power.step = n) ∧
    ({ Power.reset with clockDown := 11 }.clockDown < clockSteps ∧ { Power.reset with clockDown := 12 }.clockDown = clockSteps) ∧
    (Power.reset.shortfall = false ∧ { Power.reset with shortfall := true }.shortfall = true) ∧
    ((mTable fun w => { w with launch := [(1, 8#32)] }).liveSwatch 1 = true ∧ ((mTable fun w => { w with launch := [(1, 8#32)] }).swatch 1).deferrable = true) ∧
    (let s := { mHost.modTile 0 (fun x => { x with firing := some (withPhase .abandoned) }) with power := { Power.reset with failing := true } }
     s.power.failing = true ∧ (∀ e ∈ s.tiles, e.2.firing.all (fun f => f.phase == .abandoned) = true) ∧ s.net = [] ∧ s.rebinds = [] ∧ s.memReqs = [] ∧
       s.memReplies = [] ∧ ∀ e ∈ s.tiles, ∀ a ∈ e.2.atomics, a.op = 9 ∨ a.eng.outstanding = []) ∧
    mHost.power.failing = false :=
  ⟨⟨packet_ok _ ⟨0x10, .owner, some 0⟩ rfl rfl, by decide⟩, by decide⟩

def drainRecord : Flash :=
  { images := [], casting := [], guilt := [], limits := [], barred := [], owner := none, errors := [], binding := [], hops := [], copies := [],
    atomics := [], aborted := [], persist := [], pages := [], places := [], remap := ([], []), record := none }

def sealedRecord : Flash := { drainRecord with record := some drainRecord.seal }

def peerOf (peer : Nat) : Peer := ⟨1, peer, 7, 0, [tok 2], [tok 1], 1, 0, false⟩

/-- StartsAndOwnership: that a firmware image passes its check, that a start goes through and which certificates are good is open; a module in
recovery and one that is not, one whose next start is cold; a drain record that is valid, one that is not, and none; an owner; a peer of an edge
that the swatch produces and of one that it consumes; limits at and beyond the bounds; host edges; persistent ranges that fit and that do not.
Inputs: a word with no error; a queue of a slot that is loaded, at its last token and past it; a tile of the grid; a queue that is there. -/
theorem witness_starts :
    (Config.imageOk mHost.firmware = true ∨ Config.imageOk mHost.firmware = false) ∧
    ({ mHost with recovery := true }.recovery = true ∧ mHost.recovery = false ∧ mHost.coldNext = false ∧ { mHost with coldNext := true }.coldNext = true) ∧
    ({ mHost with flash := some sealedRecord }.flash = some sealedRecord ∧ sealedRecord.record = some sealedRecord.seal ∧
      drainRecord.record ≠ some drainRecord.seal ∧ mHost.flash = none) ∧
    mHost.host.owner = some 0 ∧
    (let s := { mHost with host := { hostOwned with peers := [peerOf 7, peerOf 5] } }
     s.host.peers[0]? = some (peerOf 7) ∧ (s.swatch 1).stop = none ∧ (s.swatch 1).phase ≠ .bindingOff ∧ s.producer 1 7 = some (0, 0, 0) ∧
       (peerOf 7).crossed ≠ [] ∧ 0 < 1 ∧ s.host.peers[1]? = some (peerOf 5) ∧ (peerOf 5).down = false ∧ s.producer 1 5 = none ∧ s.liveSwatch 1 = true) ∧
    ((∀ n, PacketOk mHost (hdr n 0) (adminQueue 0) ⟨n, .owner, some 0⟩) ∧ (∀ n t, PacketOk mHost (hdr n 0) (adminQueue 0) ⟨n, .unbar, t⟩) ∧
      (∀ n, PacketOk mHost (hdr n 0) (adminQueue 0) ⟨n, .owner, mHost.tagOf 1⟩) ∧ (1 ≤ 255 ∧ 255 ≤ 255) ∧ (0 = 0 ∨ 255 < 0) ∧ 255 < 256) ∧
    (0 < Config.adapters ∧ Config.adapters ≤ Config.adapters) ∧
    (mHost.liveSwatch 1 = true ∧ mHost.hostInput 1 5 = true) ∧
    (((mHost.persist ++ newParts (0, 4096) mHost.persist).map (·.2)).sum ≤ 160 * 2 ^ 30 ∧
      160 * 2 ^ 30 < ((mHost.persist ++ newParts (0, 160 * 2 ^ 30 + 1) mHost.persist).map (·.2)).sum) ∧
    { mHost with agenda := [.input (.softError 0 0 1)] }.agenda = .input (.softError 0 0 1) :: [] ∧
    (0x2FFFFC < sramEnd ∧ 0 ∉ (mHost.tile 0).poisoned ∧ 0 ∉ (mHost.tile 0).uncorrectable ∧ 0 ∉ (mHost.tile 0).singleError) ∧
    ((mHost.slot 0 0).stateCode ≠ 0 ∧ 19 < ((mHost.slot 0 0).inQueue 0).toks.length ∧ 19 ∉ ((mHost.slot 0 0).inQueue 0).refilling ∧
      ¬ 20 < ((mHost.slot 0 0).inQueue 0).toks.length) ∧
    (inGrid mHost.variant 0 = true ∧ { mHost with phys := [(0, { healthyPhys with setting := some (112, 820) })] }.tooWeak 0 = false) ∧ mHost.queueAt 0 0 = some (adminQueue 0) :=
  ⟨by cases Config.imageOk mHost.firmware <;> decide, by decide, ⟨rfl, rfl, by decide, by decide⟩, by decide, by decide,
    ⟨fun n => packet_ok _ ⟨n, .owner, some 0⟩ rfl rfl, fun n t => packet_ok _ ⟨n, .unbar, t⟩ rfl rfl,
      fun n => packet_ok _ ⟨n, .owner, _⟩ rfl rfl, by decide, by decide, by decide⟩, ⟨Nat.lt_of_not_le adapter_zero, Nat.le_refl _⟩,
    by decide, by decide, by decide, by decide, by decide, by decide, queue_zero mHost 0 0 rfl⟩

/-! #### The whole machine -/

/-- Tile 0 with the word of an ADD at its program counter, and its core next. -/
def mFetch (bs : List Byte) : State :=
  { (machine 2 0 (withS 5 7 0)).modTile 0 (fun x => { x with sram := Memory.writeN [] 0x1000 bs }) with agenda := [.core 0] }

/-- StepRunsDecoded: a firing at a word that decodes and at one that does not, with no write left to come; an event of the agenda, and an instruction
where an event belongs. -/
theorem witness_step :
    (let s := mFetch (wordBytes 0x04611000)
     let bytes := (s.tile 0).fetchBytes (Config.stale (s.tick + 1) 0) 0x1000
     s.agenda = [.core 0] ∧ (s.tile 0).firing = some (withS 5 7 0) ∧ (withS 5 7 0).phase = .running ∧ (s.tile 0).breaksAt 0x1000 = false ∧
       0x1000 + 4 ≤ sramEnd ∧ (∀ e ∈ (s.tile 0).order.hist, e.touches 0 0x1000 8 = false) ∧ bytes = [0, 0x10, 0x61, 4] ∧
       fetchInWindow 0x1000 (leNat (bytes.take 4)) = true ∧ (s.tile 0).badWord 0x1000 bytes.length = none) ∧
    (match decodeBytes [0, 0x10, 0x61, 4] with | .ok r => r.1 == .add 3 1 2 | .error _ => false) = true ∧
    (match decodeBytes [0, 0, 0, 0] with | .ok _ => false | .error e => e == .badFunc) = true ∧
    ((Instr.firingStart 0).isCore = false ∧ (Instr.add 3 1 2).isCore = true) := by
  have e : ((mFetch (wordBytes 0x04611000)).tile 0).fetchBytes (Config.stale ((mFetch (wordBytes 0x04611000)).tick + 1) 0) 0x1000 =
      [0, 0x10, 0x61, 4] := rfl
  simp only [e]
  decide

/-- MemoryStaysCanonical: a step from a state whose memory is canonical answers a next state. -/
theorem witness_canonical : let s := { mFetch (wordBytes 0x04611000) with agenda := [.event (.firingStart 1)] }
    s.memoryOk ∧ ∃ t, step s = .next t ∧ t.memoryOk := by
  refine ⟨by unfold State.memoryOk; decide, _, rfl, by unfold State.memoryOk; decide⟩

/-- RegisterFrame and MemoryFrame: instructions that complete, one that stores; the debugger set to halt the core by none and by each. -/
theorem witness_frames :
    (∃ t g, exec (.add 3 1 2) (machine 2 0 (withS 5 7 0)) = .next t ∧ Completed (machine 2 0 (withS 5 7 0)) (withS 5 7 0) t g ∧
      (∀ r ∈ storeRanges (machine 2 0 (withS 5 7 0)) (withS 5 7 0) (.add 3 1 2), r.1 < sramEnd) ∧ usesUnits (.add 3 1 2) = false ∧
      (machine 2 0 (withS 5 7 0)).debugQuiet (.add 3 1 2) = true) ∧
    (∃ t g, exec (.stsW 3 1 0) (machine 2 0 (fAt 0x4000)) = .next t ∧ Completed (machine 2 0 (fAt 0x4000)) (fAt 0x4000) t g ∧
      (∀ r ∈ storeRanges (machine 2 0 (fAt 0x4000)) (fAt 0x4000) (.stsW 3 1 0), r.1 < sramEnd) ∧
      0x3FFF < 0x4000 ∧ storeRanges (machine 2 0 (fAt 0x4000)) (fAt 0x4000) (.stsW 3 1 0) = [(0x4000, 4)]) ∧
    ((machine 2 0 (withS 5 7 0)).modTile 0 fun x => { x with cwords := [(0x400, 9#32)] }).debugQuiet (.add 3 1 2) = false :=
  ⟨⟨_, _, rfl, ⟨rfl, rfl, rfl⟩, by decide, by decide, by decide⟩, ⟨_, _, rfl, ⟨rfl, rfl, rfl⟩, by decide, by decide, by decide⟩, by decide⟩

/-- DecodeOfEncode and EncodeOfDecode: an instruction of one word and one of two, with every field at its largest. -/
theorem witness_encode : (Instr.addi 31 31 0xFFFF).wf = true ∧ (Instr.addi 31 31 0xFFFF).isCore = true ∧ encode (.addi 31 31 0xFFFF) = [0x0BFFFFFF] ∧
    0x0BFFFFFF < 2 ^ 32 ∧ decodeWords 0x0BFFFFFF 0 = .ok (.addi 31 31 0xFFFF) := ⟨rfl, rfl, rfl, by decide, rfl⟩

/-- The next step from reset runs the word that a launch would have placed for it. -/
theorem test_first_step : (match step (State.reset.withFetchWord 32 0x04611000) with
    | .next t => (t.tile 0).firing.map (·.pc)
    | _ => none) = some 0x1004 := by decide

/-! #### Checks in their order, and what is bad, lost or left over -/

/-- A direct firing at s1 = x whose v2 holds an index for lane 1 alone. -/
def fIdx (x i : Nat) : Firing := { fAt x with vregs := [(2, 0#32 :: BitVec.ofNat 32 i :: List.replicate 14 0#32)] }

/-- VectorAccessFaults: a lane past every window behind one in SRAM; a misaligned lane; a lane in another window than the first; lanes in the
vector window at no multiple of 64; the window of another slot; a live barrier slot; a word that cannot be read. StoreEffects: a kept write beside the
bytes stored. -/
theorem witness_vector_faults :
    (Issues (machine 2 0 (fAt 0x2FFFFC)) (fAt 0x2FFFFC) 4 ∧ Reads (machine 2 0 (fAt 0x2FFFFC)) (fAt 0x2FFFFC) [1]) ∧
    ((fAt 0x2FFFFC).enabled 0 1 = true ∧
      ¬ (0x300000 < 0x300000 ∨ (0x3FD000 ≤ 0x300000 ∧ 0x300000 < 0x3FE800) ∨ (0x3FF000 ≤ 0x300000 ∧ 0x300000 < 0x3FF100)) ∧ 0x2FFFFC < 0x300000) ∧
    0x4002 % 4 ≠ 0 ∧
    ((operand (machine 2 0 (fIdx 0x4000 0x3FA000)) (fIdx 0x4000 0x3FA000) [1] 0).toNat + 0x3FA000 * 2 ^ 0 = 0x3FE000 ∧
      (lane ((fIdx 0x4000 0x3FA000).vreg 2) 1).toNat = 0x3FA000 ∧ ¬ 0x3FE000 < 0x300000) ∧
    (0x3FE004 % 4 = 0 ∧ 0x3FE004 % 64 ≠ 0) ∧
    ownerAllows ((machine 2 0 (fAt 0x2000)).here.place 0 0x2000) 0 true true = false ∧
    (touchesBarrier mBar.here.barriers 0x400C 4 = true ∧ ownerAllows (mBar.here.place mBar.focus 0x400C) 0 true true = true) ∧
    (let x := { mOld 0 |>.here with uncorrectable := [0x4004] }
     x.badWord 0x4000 4 = none ∧ (x.badWord 0x4004 4).isSome = true ∧ (∀ e ∈ x.order.hist, e.touches 0 0x4004 4 = false) ∧ x.order.hist ≠ []) :=
  ⟨⟨issues_of _ _ _ _ (by decide) (by decide) (by decide), reads_of _ _ _ (by decide)⟩, by decide, by decide, by decide, by decide, by decide,
    by decide, by decide⟩

/-- ControlWordWrites: an address in the control-word window. ReadyConditions: an unscaled port with no refill. VoidCommit and CommitEffects:
operations that a firing deferred, and those of another that were not. -/
theorem witness_more_core :
    (let f := withS 0x3FD004 0 3
     Issues (machine 2 0 f) f 4 ∧ Reads (machine 2 0 f) f [1, 3] ∧
       (operand (machine 2 0 f) f [1, 3] 0 + BitVec.ofInt 64 (sextInt 13 0)).toNat = 0x3FD000 + 4 * 1 ∧ 1 < 0x400 ∧ cwAssigned 1 = true) ∧
    (((mReady.slot 0 0).inQueue 0).refilling = [] ∧ (mReady.slot 0 0).inScaled 0 = false) ∧
    (let f := { fresh with deferred := [.stream 3, .copy 0, .atomic 0] }
     let s := (machine 0 0 f).modTile 0 fun x => { x.setStream 3 (strRec 4) with copies := [{ copyOf 0x4000 0x5000 0 with deferred := true }], atomics := [{ atomicOf 0 with deferred := true }] }
     strState ((s.tile 0).stream 3) = 4 ∧ Deferred.stream 3 ∈ f.deferred ∧ Deferred.copy 0 ∈ f.deferred ∧ Deferred.atomic 0 ∈ f.deferred ∧
       f.haltq = false ∧ f.barChanges = [] ∧ ∀ e ∈ (s.tile 0).order.hist, (s.tile 0).coreSeen.lt e.stamp = false) :=
  ⟨⟨issues_of _ _ _ _ (by decide) (by decide) (by decide), reads_of _ _ _ (by decide), by decide⟩, by decide, by decide⟩

/-- FloatOperations, CodeConversions, NarrowingResults: a root of an integer; a product of infinity and 0; NaN operands and none; codes that widen
from each sort of value; in e2m1, a number on the grid, one halfway below an odd code, one beyond the largest, and one that is tiny. -/
theorem witness_conversions :
    (0 < 2 ∧ 2 < 2 ^ 64 ∧ fmtF32.value 0x7F800000 = .inf false ∧ 0 % 2 ^ 31 = 0 ∧ fmtF32.isNan 0x7FC00000 = true ∧ fmtF32.isNan 0x3F800000 = false) ∧
    (fmtE4m3.isNan 0x7F = true ∧ fmtE4m3.isNan 0x38 = false ∧ fmtE5m2.value 0x7C = .inf false ∧ (∃ n d e, fmtE2m1.value 3 = .fin false n d e) ∧
      fmtF32.isNan 0x7FA00000 = true) ∧
    (let grid := fun j : Nat => (if j < 2 then (j : Rat) else (((2 + j % 2) * 2 ^ (j / 2 - 1) : Nat) : Rat)) * (1 / 2)
     fmtE2m1.frac = 1 ∧ fmtE2m1.bias = 1 ∧ fmtE2m1.maxCode = 7 ∧ (grid 2 ≤ 1 ∧ (1 : Rat) < grid 3) ∧
       (grid 3 ≤ 7 / 4 ∧ 7 / 4 < grid 4 ∧ 7 / 4 = (grid 3 + grid 4) / 2 ∧ 3 % 2 = 1) ∧ (grid 7 ≤ 7 ∧ (7 : Rat) < grid 8 ∧ 7 < 8) ∧
       (grid 1 ≤ 5 / 8 ∧ 5 / 8 < grid 2 ∧ (5 / 8 : Rat) ≤ 1 - 1 / 4)) := by
  exact ⟨by decide, ⟨by decide, by decide, by decide, ⟨_, _, _, rfl⟩, by decide⟩, by decide +kernel⟩

/-- MatrixTransferResults and MatrixDrainResults: each check at a word that fails it, those before it passed; an index row that is bad; a rectangle
that is no whole words, one that its port has no room for, a pitch too small. -/
theorem witness_matrix_checks :
    (((fM 0 0).mreg 0).sh.cb = 8 ∧ ((fM 0 0).mreg 0).sh.mode = 0 ∧ ((fM 0 0).mreg 0).sh.nc ≤ 512 ∧ ¬ ((fM 0 0).mreg 2).sh.mode = 0) ∧
    (¬ (0x300000 < 0x300000 ∨ (0x3FD000 ≤ 0x300000 ∧ 0x300000 < 0x3FE800) ∨ (0x3FF000 ≤ 0x300000 ∧ 0x300000 < 0x3FF100)) ∧
      0x300000 ∈ wordsTouched 0x2FFFFC 8) ∧
    (0x4002 % 4 ≠ 0 ∧ 0x4002 % 2 ^ 22 % 4 ≠ 0) ∧ ((0x3FE000 ≤ 0x3FE000 ∧ 0x3FE000 + 31 * 64 + 64 ≤ 0x3FE800) ∧ ¬ 0x3FE000 < 0x300000) ∧
    (ownerAllows ((mM 0x2000 0).here.place 0 0x2000) 0 true false = true ∨ ownerAllows ((mM 0x2000 0).here.place 0 0x2000) 0 true false = false) ∧
    ownerAllows ((mM 0x2000 0).here.place 0 0x2000) 0 true true = false ∧ touchesBarrier [(0x4010, 0)] 0x4008 12 = true ∧
    (let x := { (mM 0x4000 0).here with uncorrectable := [0x4004] }
     wordsTouched 0x4000 8 = [0x4000] ++ 0x4004 :: [] ∧ x.badWord 0x4000 4 = none ∧ (x.badWord 0x4004 4).isSome = true) ∧
    (((fM 0 0).mreg 4).sh.mode = 2 ∧ 0 < ((fM 0 0).mreg 4).sh.nr ∧ indexRowOk ((fM 0 0).mreg 4).sh.n (List.replicate 12 0) = false) ∧
    (bitField (2 ^ 28) 3 5 = 0 ∧ ¬ 2 ^ 28 < 2 ^ 28) ∧ (((mM 2 0).actor (fM 2 0)).outDecl (2 % 8) = false) ∧
    (bitField (0x4000 + 2 ^ 32 * 4) 32 20 = 4 ∧ ¬ 4 * 16 ≤ 4) := by decide

/-- EngineAccessPlaces, MemoryReadPlaces: an operation with a write that it comes after and one that it may come before. ResumedOperations: a
stream that runs and one that is paused, to SRAM; one that runs no more, with its kept record. -/
theorem witness_engine_places :
    (let s := (mRun (strTo 2 0 0x5000 0) emptyRun).modTile 0 fun x => { x with order := (mOld 0).here.order }
     let o := s.streamRef 0 0
     (s.opEngine o).isSome = true ∧ s.here.order.writesAfter (s.sramSeen o) 0 0x5000 4 = [] ∧
       s.here.order.writesAfter (s.sramSeen o) 0 0x4000 4 ≠ [] ∧ (1 ≤ 4 ∧ 0 < 1)) ∧
    (strBusy (strTo 2 0 0x5000 0) = true ∧ emptyRun.voiding = false ∧ strDstKind (strTo 2 0 0x5000 0) ≠ 2 ∧
      strState (strTo 2 0 0x5000 0) ≠ 3 ∧ strState (strTo 3 0 0x5000 0) = 3) ∧
    (let s := (mRun (strTo 1 0 0x5000 0) emptyRun).modTile 0 fun x => x.keepStream 0
     strBusy ((s.tile 0).stream 0) = false ∧ Map.find (s.tile 0).keptStreams 0 = some (strTo 1 0 0x5000 0)) := by decide

/-- ScrubResults: a poisoned word under parity, and one that the group has lost. MessageLandings, BarrierResults: a live barrier slot with a word
that cannot be read. -/
theorem witness_bad_words :
    (let s := (machine 0 0 fresh).modTile 0 fun x => { x with poisoned := [0x100] }
     0x100 ∈ (s.tile 0).poisoned ∧ s.underParity 0 0x100 = true ∧ s.rebuildFails 0 0x100 = false) ∧
    (let s := mBad [(1, { emptyTile with uncorrectable := [0x100], cwords := [(0x040, 0x00008000#32)] })]
     s.lostWord 0 0x100 = true ∧ s.lostWord 0 0x4000 = false) ∧
    (let s := (mLive 3 false fresh).modTile 0 fun x => { x with uncorrectable := [0x4004] }
     ((s.tile 0).badWord 0x4000 16).isSome = true ∧ (s.readSlot 0 0x4000 0).2 = false) := by decide

/-- Tiles 0 and 1 and the rest of their parity group on the tiles of the same numbers, as far as they go, some of them lost. -/
def mGroup (lost : List Nat) : State :=
  { machine 0 0 fresh with
    binding := ((machine 0 0 fresh).groupNodes 0).zipIdx.map fun e => (e.1, e.2)
    phys := lost.map fun p => (p, { healthyPhys with lost := true }) }

/-- LostTileResults: a group with no other node lost, and one with one; two nodes of one group, and two that are not. FiringStart and TokenLandings: a
tile that is lost. -/
theorem witness_lost_nodes :
    (let m := (mGroup []).markLost 0
     (m.groupNodes 0).filter (fun n => !(n == 0) && m.hostLost n) = []) ∧
    (let m := (mGroup [5]).markLost 0
     (m.groupNodes 0).filter (fun n => !(n == 0) && m.hostLost n) ≠ []) ∧
    ((mGroup []).inOneGroup 0 1 = true ∧ (mGroup []).inOneGroup 0 0 = false) ∧
    (let m := (mGroup []).markLost 0
     m.hostLost 0 = true ∧ m.hostLost 1 = false ∧ takePacket 1 0 .token { m with net := [tokPacket] }.net = some (tokPacket, [])) := by decide

/-- KnotDetection: a probe of 63 members and of 64. ActorMoves: a sender that an earlier move holds back. HostSinksAndScopeEnds: logs of 63 and of
64 entries. InputResults: a token from a peer that finds room. StopResults: an actor that moves, and a halted firing that is not direct. -/
theorem witness_limits :
    (63 < 64 ∧ 64 ≤ (List.replicate 64 (0, 0)).length) ∧
    (let s := { machine 0 0 fresh with rebinds := [{ moving with id := 6, held := [] }, { moving with held := [] }] }
     s.holdBehind 7 1 = true ∧ s.holdBehind 6 1 = false ∧ 1 ∈ moving.senders) ∧
    ((List.replicate 63 (7, 0)).length < 64 ∧ 64 ≤ (List.replicate 64 (7, 0)).length ∧ (scopeWith 1 0).stateCode ≠ 0 ∧ (scopeWith 1 0).stateCode ≠ 5) ∧
    (let s := { mTable (fun w => { w with hostFree := [(5, 1)] }) with host := { hostOwned with peers := [peerOf 5] } }
     s.host.peers[0]? = some (peerOf 5) ∧ (peerOf 5).down = false ∧ s.producer 1 5 = none ∧ s.liveSwatch 1 = true ∧
       ((s.swatch 1).hostToks.filter fun e => e.1 == 5).length < Map.get 0 (s.swatch 1).hostFree 5) ∧
    ({ machine 0 0 fresh with rebinds := [moving] }.moving 1 = true ∧ (machine 0 0 fresh).moving 1 = false) ∧
    ((withPhase (.halted 0x1000)).isHalted = true ∧ ((machine 0 0 (withPhase (.halted 0x1000))).slot 0 0).cls ≠ 2 ∧
      (machine 0 0 (withPhase (.halted 0x1000))).firingIn 1 0 = some (withPhase (.halted 0x1000))) ∧
    (∃ w ∈ [9], w ≠ 0 ∧ w ≠ 5) := by decide

/-- MoveEffects: a move that may be finished where its queues fit, which is open; slot 1 of tile 0 sends to an input of the slot that moves. -/
theorem witness_move_effects :
    let s := mMove.modTile 0 fun x => x.modSlot 1 fun _ => { emptySlot with swatch := 1, record := [(7, 0x01000000#32), (33, 0x00142000#32), (34, 0x001E0005#32)] }
    let r := { moving with senders := [0] }
    (Config.queueFits 1 [(20, 1), (2, 1)] = true → s.canTake r.tile r.slot r.toTile r.toSlot = true) ∧ Memory.wf (s.tile r.tile).sram = true ∧
      (s.swatch (s.slot 0 0).swatch).paged = false ∧ (s.slot 0 0).inDecl 0 = true ∧
      (∀ q < 8, (s.slot 0 0).outDecl q = true → (s.slot 0 0).outEdge q ≠ (s.slot 0 0).inEdge 0) ∧
      ((s.finishMove r).producer 1 ((s.slot 0 0).inEdge 0)).isSome = true ∧ s.scopeEnded (s.slot 0 0) = false := by
  refine ⟨fun h => ?_, by decide⟩
  exact h

/-- LaunchResults: a packet whose tag is not that of the record which it names; a WAITSCOPE that waits for the table. -/
theorem witness_tags :
    (mLaunch.readVirt 5 0x90000 128 = .ok (mLaunch.physRead 0x90000 128) ∧ 5 ≠ 0 ∧ 5 ≠ Words.field (recordAt 0x90000) 3 0 13) ∧
    (let s := (mTable fun w => { w with tableLoaded := false }).modSwatch 1 fun w => { w with phase := .casting }
     { s with host := { hostOwned with pending := [(hdr 5 0, 1, 4)] } }.host.pending = [(hdr 5 0, 1, 4)] ∧ (s.swatch 1).heldCmds = [] ∧
       (emptySwatch.scope 4).stateCode = 0) := by
  exact ⟨⟨readVirt_mapped mapped_launch (by decide) (by decide) rfl, by decide, by decide +kernel⟩, by decide⟩

end Sys2Proof.Tests
end

/-! Control flow within a firing (R102 to R104, R107): what a transfer checks and where it leads, then branches, JAL and JALR, which are
that transfer with a condition or a link before it. -/

namespace Sys2Proof.Machine

theorem ok_bind_eq {α β : Type} (x : α) (k : α → Res β) : ((Except.ok x : Res α) >>= k) = k x := rfl

/-! ### The target of a transfer (R103) -/

theorem checkTarget_of_inside (c : Ctx) {T : Int} (h0 : 0 ≤ T) (h1 : T < 0x300000) (h4 : T % 4 = 0) : checkTarget c T = .ok () := by
  simp [checkTarget, check, sramEnd, h0, h1, h4, bind, Except.bind]

theorem checkTarget_of_outside (c : Ctx) {T : Int} (h : ¬ (0 ≤ T ∧ T < 0x300000)) :
    checkTarget c T = .error (.fault 0x04 0 c.f.pc) := by
  have hwindow : (decide (0 ≤ T) && decide (T < (sramEnd : Int))) = false := by
    rw [← Bool.decide_and]
    exact decide_eq_false h
  simp [checkTarget, check, coreFault, hwindow, bind, Except.bind]

theorem checkTarget_of_misaligned (c : Ctx) {T : Int} (h0 : 0 ≤ T) (h1 : T < 0x300000) (h4 : T % 4 ≠ 0) :
    checkTarget c T = .error (.fault 0x03 0 c.f.pc) := by
  simp [checkTarget, check, coreFault, sramEnd, h0, h1, h4, bind, Except.bind]

/-- An instruction whose body comes to the check of a target and then to firing g: the shape of every taken transfer. -/
theorem checkedTransfer_cases {s : State} {f g : Firing} {T : Int} {body : Ctx → Res Ctx} {out : Out} (h : Issues s f 4)
    (hout : out = coreOp s 4 body) (hb : body (s.ctxOf f) = do checkTarget (s.ctxOf f) T; .ok (s.ctxOf g)) :
    (0 ≤ T → T < 0x300000 → T % 4 = 0 → out = .next (s.after s.here g)) ∧
    (¬ (0 ≤ T ∧ T < 0x300000) → out = .next (s.takeFault s.focus 0x04 0 f.pc)) ∧
    (0 ≤ T → T < 0x300000 → T % 4 ≠ 0 → out = .next (s.takeFault s.focus 0x03 0 f.pc)) := by
  subst hout
  refine ⟨fun h0 h1 h4 => ?_, fun hw => ?_, fun h0 h1 h4 => ?_⟩
  · rw [checkTarget_of_inside _ h0 h1 h4] at hb
    exact coreOp_of s f 4 body (s.ctxOf g) h hb
  · rw [checkTarget_of_outside _ hw] at hb
    exact coreOp_fault s f 4 body 0x04 0 f.pc h hb
  · rw [checkTarget_of_misaligned _ h0 h1 h4] at hb
    exact coreOp_fault s f 4 body 0x03 0 f.pc h hb

/-! ### Branches (R102, R103) -/

section
variable {s : State} {f : Firing} {a b : Nat} (o : Nat) {cond : Word64 → Word64 → Bool} (h : Issues s f 4) (hr : Reads s f [a, b])
include h hr

theorem branchOp_not_taken (hc : cond (operand s f [a, b] 0) (operand s f [a, b] 1) = false) :
    branchOp s a b o cond = .next (s.went (f.pastReads [a, b])) := by
  refine coreOp_of s f 4 _ (s.ctxOf ((f.pastReads [a, b]).complete 4)) h ?_
  unfold operand at hc
  simp only [readSrcs_of s f [a, b] none hr (by simp), ok_bind_eq, hc, Bool.false_eq_true, if_false]
  rfl

theorem branchOp_taken (hc : cond (operand s f [a, b] 0) (operand s f [a, b] 1) = true) :
    let T : Int := (f.pc : Int) + 4 * sextInt 16 o
    (0 ≤ T → T < 0x300000 → T % 4 = 0 → branchOp s a b o cond = .next (s.after s.here ((f.pastReads [a, b]).transfer T.toNat false))) ∧
    (¬ (0 ≤ T ∧ T < 0x300000) → branchOp s a b o cond = .next (s.takeFault s.focus 0x04 0 f.pc)) ∧
    (0 ≤ T → T < 0x300000 → T % 4 ≠ 0 → branchOp s a b o cond = .next (s.takeFault s.focus 0x03 0 f.pc)) := by
  refine checkedTransfer_cases h rfl ?_
  unfold operand at hc
  simp only [readSrcs_of s f [a, b] none hr (by simp), ok_bind_eq, hc, if_true]
  rfl

/-- What a branch does, by the condition c that its comparison decides. -/
theorem branch_cases {i : Instr} {c : Prop} (hi : exec i s = branchOp s a b o cond)
    (hc : cond (operand s f [a, b] 0) (operand s f [a, b] 1) = true ↔ c) :
    let T : Int := (f.pc : Int) + 4 * sextInt 16 o
    (¬ c → exec i s = .next (s.went (f.pastReads [a, b]))) ∧
    (c → 0 ≤ T → T < 0x300000 → T % 4 = 0 → exec i s = .next (s.after s.here ((f.pastReads [a, b]).transfer T.toNat false))) ∧
    (c → ¬ (0 ≤ T ∧ T < 0x300000) → exec i s = .next (s.takeFault s.focus 0x04 0 f.pc)) ∧
    (c → 0 ≤ T → T < 0x300000 → T % 4 ≠ 0 → exec i s = .next (s.takeFault s.focus 0x03 0 f.pc)) := by
  rw [hi]
  have taken := fun k : c => branchOp_taken o h hr (hc.2 k)
  exact ⟨fun k => branchOp_not_taken o h hr (Bool.eq_false_iff.2 (mt hc.1 k)),
    fun k => (taken k).1, fun k => (taken k).2.1, fun k => (taken k).2.2⟩

end

/-! ### Jumps (R104) -/

theorem imm16s_eq_ofInt_sextInt (i : Nat) : imm16s i = BitVec.ofInt 64 (sextInt 16 i) :=
  BitVec.eq_of_toNat_eq (by simp [imm16s, sext64, wrapInt]; omega)

theorem exec_jal_cases {s : State} {f : Firing} (o : Nat) (h : Issues s f 4) :
    let T : Int := (f.pc : Int) + 4 * sextInt 26 o
    (0 ≤ T → T < 0x300000 → T % 4 = 0 →
      exec (.jal o) s = .next (s.after s.here ((f.writeReg 23 (BitVec.ofNat 64 (f.pc + 4))).transfer T.toNat true))) ∧
    (¬ (0 ≤ T ∧ T < 0x300000) → exec (.jal o) s = .next (s.takeFault s.focus 0x04 0 f.pc)) ∧
    (0 ≤ T → T < 0x300000 → T % 4 ≠ 0 → exec (.jal o) s = .next (s.takeFault s.focus 0x03 0 f.pc)) :=
  checkedTransfer_cases h (exec_jal s o) rfl

/-- The target of JALR is an unsigned word, so it is never below the window. -/
theorem exec_jalr_cases {s : State} {f : Firing} {d a i U : Nat} (h : Issues s f 4) (hr : Reads s f [a]) (hd : Accepts s f d)
    (hU : U = (operand s f [a] 0 + BitVec.ofInt 64 (sextInt 16 i)).toNat) :
    (U < 0x300000 → U % 4 = 0 →
      exec (.jalr d a i) s =
        .next (s.after s.here (((f.pastReads [a]).writeReg d (BitVec.ofNat 64 (f.pc + 4))).transfer U (d != 0)))) ∧
    (0x300000 ≤ U → exec (.jalr d a i) s = .next (s.takeFault s.focus 0x04 0 f.pc)) ∧
    (U < 0x300000 → U % 4 ≠ 0 → exec (.jalr d a i) s = .next (s.takeFault s.focus 0x03 0 f.pc)) := by
  unfold operand at hU
  obtain ⟨hinside, houtside, hmisaligned⟩ := checkedTransfer_cases (T := U)
    (g := ((f.pastReads [a]).writeReg d (BitVec.ofNat 64 (f.pc + 4))).transfer U (d != 0)) h (exec_jalr s d a i) (by
      rw [readSrcs_of s f [a] (some d) hr fun d' hd' => by cases hd'; exact hd, ok_bind_eq, imm16s_eq_ofInt_sextInt]
      simp only [← hU]
      rfl)
  exact ⟨fun h1 h4 => hinside (by omega) (by omega) (by omega), fun h1 => houtside (by omega),
    fun h1 h4 => hmisaligned (by omega) (by omega) (by omega)⟩

/-! ### The loop levels that a transfer leaves (R107) -/

theorem inBody_iff (l : LoopLevel) (a : Nat) : inBody l a = true ↔ l.ls ≤ a ∧ a ≤ l.le := by
  simp [inBody]

theorem mem_leaveLevels_iff (pc T : Nat) (ls : List LoopLevel) (l : LoopLevel) :
    l ∈ leaveLevels pc T ls ↔ l ∈ ls ∧ (l.ls ≤ pc ∧ pc ≤ l.le → l.ls ≤ T ∧ T ≤ l.le) := by
  rw [← inBody_iff, ← inBody_iff]
  cases hp : inBody l pc <;> simp [leaveLevels, hp]

/-- Settles O13: every taken transfer is the check of a target followed by Firing.transfer. -/
theorem branchAndJumpResults : Obligations.BranchAndJumpResults := by
  refine ⟨fun s f a b o h hr => ?_, fun s f d a i o h => ?_, fun f T => ?_⟩
  · exact ⟨branch_cases o h hr (exec_beq s a b o) beq_iff_eq, branch_cases o h hr (exec_bne s a b o) (by simp),
      branch_cases o h hr (exec_blt s a b o) decide_eq_true_iff, branch_cases o h hr (exec_bge s a b o) decide_eq_true_iff,
      branch_cases o h hr (exec_bltn s a b o) decide_eq_true_iff, branch_cases o h hr (exec_bgen s a b o) decide_eq_true_iff⟩
  · obtain ⟨hinside, houtside, hmisaligned⟩ := exec_jal_cases o h
    exact ⟨hinside, houtside, hmisaligned, fun hr hd => exec_jalr_cases h hr hd rfl⟩
  · exact ⟨rfl, leaveLevels f.pc T f.levels, rfl, List.filter_sublist,
      fun l hl => by simp [mem_leaveLevels_iff, hl]⟩

end Sys2Proof.Machine
